-- ==== Sys2Proof/Word.lean ====
section
/-! DEFINITION. The words the part is seen in: bytes of its serial lines, tag IDs, and the fixed-size byte fields
that requests and terms blocks carry (11 R186, Tables 7-2 to 7-9). -/

namespace Sys2Proof

/-- A byte of a site link frame, of the tag reader line or of the sign port. -/
abbrev Byte := BitVec 8

/-- A 40-bit tag ID (00 Table 5-2); 0 is no tag ID. -/
abbrev TagId := BitVec 40

/-- The ten bytes in which a request carries a plate (11 R186). -/
abbrev PlateField := Vector Byte 10

/-- The 48 content bytes of a terms block (11 Table 7-8). -/
abbrev BlockContent := Vector Byte 48

end Sys2Proof
end

