-- ==== Sys2Proof/Machine/Bytes.lean ====
section
/-! DEFINITION. Byte-level helpers every layout uses: unsigned integers in whole bytes, most significant first (R186),
the cyclic redundancy check of R53 and R176, and the exclusive-or check of the tag reader and sign lines (R15, R75). -/

namespace Sys2Proof.Machine

/-- `n` in `k` bytes, most significant byte first (R186). -/
def be : Nat → Nat → List Byte
  | 0, _ => []
  | k + 1, n => be k (n / 256) ++ [BitVec.ofNat 8 n]

/-- The unsigned integer that bytes hold, most significant byte first (R186). -/
def num (l : List Byte) : Nat :=
  l.foldl (fun a b => a * 256 + b.toNat) 0

/-- The unsigned integer in the `k` bytes at an offset. -/
def field (l : List Byte) (off k : Nat) : Nat :=
  num ((l.drop off).take k)

/-- `n` bytes at an offset, as a field of that size; bytes past the end read as 00h. -/
def bytesAt (n : Nat) (l : List Byte) (off : Nat) : Vector Byte n :=
  Vector.ofFn fun i => l.getD (off + i.val) 0

/-- A yes-or-no item in one byte (R186). -/
def yesNo (b : Bool) : List Byte :=
  [if b then 1 else 0]

/-- A byte of flags, bit n for the n-th flag listed (R186). -/
def flagByte : List Bool → Nat
  | [] => 0
  | b :: bs => (if b then 1 else 0) + 2 * flagByte bs

/-- A signed difference in five bytes, two's complement (R186). -/
def signedBytes (d : Int) : List Byte :=
  be 5 (BitVec.ofInt 40 d).toNat

/-- One bit through the check with generator x^16 + x^12 + x^5 + 1 (R53). -/
def crcBit (c : BitVec 16) : BitVec 16 :=
  if c.msb then (c <<< 1) ^^^ 0x1021#16 else c <<< 1

/-- One byte entered most significant bit first (R53). -/
def crcByte (c : BitVec 16) (b : Byte) : BitVec 16 :=
  Nat.repeat crcBit 8 (c ^^^ (b.setWidth 16 <<< 8))

/-- The check of R53 and R176: initial value FFFFh, no final inversion. -/
def crc (l : List Byte) : BitVec 16 :=
  l.foldl crcByte 0xFFFF#16

/-- The exclusive-or of bytes (R15, R75). -/
def xorAll (l : List Byte) : Byte :=
  l.foldl (· ^^^ ·) 0

/-- A quotient rounded up: the least integer not below it (R1). -/
def divUp (n d : Nat) : Nat :=
  (n + d - 1) / d

/-- An addition that saturates at a bound (R1). -/
def satAdd (bound a b : Nat) : Nat :=
  min bound (a + b)

/-- ASCII digits of `n`, the last `k` of them with leading zeros (R74). -/
def lastDigits : Nat → Nat → List Byte
  | 0, _ => []
  | k + 1, n => lastDigits k (n / 10) ++ [BitVec.ofNat 8 (48 + n % 10)]

end Sys2Proof.Machine
end

