-- ==== Sys2Proof/Config.lean ====
section
/-! DEFINITION. What is fixed for every DW6: capacities, fixed times and bounds the manual states as numbers; and the
free values of the model. The settings a terms load can change are not here, they are bytes of the ACTIVE bank. -/

namespace Sys2Proof.Config

/-- Visits the Arrival Queue holds (R20). -/
def queueCapacity : Nat := 16
/-- Entries the Vehicle Register holds (R31). -/
def registerCapacity : Nat := 512
/-- Tag windows open at once (R17). -/
def windowCapacity : Nat := 4
/-- Reads the tag read buffer holds (R16). -/
def readCapacity : Nat := 8
/-- Call lines of the lane sign (R58). -/
def callLineCapacity : Nat := 3
/-- Record slots of a journal page (R144). -/
def pageSlots : Nat := 16
/-- Largest elapsed lane time; the stuck timer's span (R4, R12). -/
def maxElapsed : Nat := 65535
/-- Treadle debounce in milliseconds (R6). -/
def debounceMs : Nat := 80
/-- Longest gap within a tag frame, 50 ms in ticks of the 100 kHz timebase (R15). -/
def tagGapTicks : Nat := 5000
/-- Longest gap within a request frame, 20 ms in ticks of the 100 kHz timebase (R175). -/
def frameGapTicks : Nat := 2000
/-- Run-on window in seconds (R86). -/
def runOnSeconds : Nat := 2
/-- Run-on cap in litres (R86). -/
def runOnCap : Nat := 50
/-- Upper bound of FRESH_REMAIN, OVERDRAW and the preload (R96). -/
def maxLitres : Nat := 262143
/-- Upper bound of a day accumulator (R172) and of a pending close's totals (R152). -/
def maxTotal : Nat := 4294967295
/-- Free margin below which JOURNAL-LOW is latched (R147). -/
def lowMargin : Nat := 64
/-- Ticks of the 100 kHz timebase in a millisecond. -/
def ticksPerMs : Nat := 100
/-- Ticks of the 100 kHz timebase in a centisecond. -/
def ticksPerCs : Nat := 1000
/-- Ticks of the 100 kHz timebase in a pump cycle of 256 counts at 10 kHz (R94). -/
def ticksPerPumpCycle : Nat := 2560
/-- Ticks of the 100 kHz timebase in which the sign port sends a message of 18 bytes at 9,600 bit/s (R75). -/
def signTicks : Nat := 1875

/-- FREE VALUE (log 3). When several of the part's own events are due at once the manual lets any of them be taken
first; this says which, given the timebase and how many are due. It has no body, so nothing can be proved of it. -/
opaque dueChoice : Nat → Nat → Nat

/-- FREE VALUE (log 9). How many periods of the reference cell end in the tick that begins at a count of the timebase:
the cell's frequency is the depot's. It has no body, so nothing can be proved of it. -/
opaque referencePeriods : Nat → Nat

/-- FREE VALUE (log 9). How many periods of a probe, named by its code, end in the tick that begins at a count of the
timebase: its frequency is that of the water it stands in. It has no body, so nothing can be proved of it. -/
opaque probePeriods : Nat → Nat → Nat

end Sys2Proof.Config
end

