-- ==== Sys2Proof/Syntax.lean ====
section
/-! DEFINITION. What the commands name (ports, bays, tanks, probes), the requests of Table 7-1 of chapter 11 with their
fields in the widths R186 gives them, and the commands themselves: one constructor of `Instr` for each row of
spec/opcode_table.json. The table gives no operand fields; a command's operands are what its rule says the event
names or the frame carries. -/

namespace Sys2Proof

/-- The two site link ports (00 Table 5-2). -/
inductive Port where
  | one
  | two
deriving DecidableEq, Repr

/-- The six wash bays. -/
inductive Bay where
  | b1
  | b2
  | b3
  | b4
  | b5
  | b6
deriving DecidableEq, Repr

/-- The two reclaim tanks. -/
inductive Tank where
  | a
  | b
deriving DecidableEq, Repr

/-- The four probes, in the order R129 lists them. -/
inductive Probe where
  | aSalt
  | aTurb
  | bSalt
  | bTurb
deriving DecidableEq, Repr

/-- The nine sections of the Retained Store (R187), each with a bit that says its check word is valid. -/
structure StoreChecks where
  terms : Bool
  hauliers : Bool
  register : Bool
  water : Bool
  journal : Bool
  clock : Bool
  tanks : Bool
  records : Bool
  counter : Bool
deriving DecidableEq, Repr

/-- A host request of Table 7-1 (chapter 11), in code order, with the fields its rule names, each as wide as R186 has it. -/
inductive Request where
  | plate (visit : BitVec 16) (plate : PlateField)
  | identify (visit : BitVec 16) (haulier programme cls : Byte)
  | enqueue (haulier programme cls : Byte) (tag : TagId) (plate : PlateField)
  | removeVisit (visit : BitVec 16)
  | queueList
  | visitRead (visit : BitVec 16)
  | vehiclePut (tag : TagId) (haulier programme : Byte) (plate : PlateField) (blocked : Byte)
  | vehicleDrop (tag : TagId)
  | vehicleGet (tag : TagId)
  | haulierPut (haulier state : Byte) (discount : BitVec 16) (limit : BitVec 32) (quota : Byte)
  | haulierDrop (haulier : Byte)
  | haulierGet (haulier : Byte)
  | termsBegin
  | termsBlock (code index : Byte) (content : BlockContent) (digest : BitVec 16)
  | termsCount
  | termsCommit
  | termsAbandon
  | termsRead (code index : Byte)
  | bayStatus (bay : Byte)
  | bayAbort (bay : Byte)
  | bayRelease (bay : Byte)
  | swap (resource : Byte) (expected new : BitVec 24)
  | waterStatus
  | allowanceSet (litres : BitVec 24)
  | tankDump (tank : Byte)
  | tankHold (tank : Byte)
  | tankResume (tank : Byte)
  | tankServe (tank : Byte)
  | tankStatus
  | spotSample (probe : Byte)
  | exportOpen (page : Byte)
  | exportNext
  | exportStop
  | holdSet (page : Byte)
  | holdClear (page : Byte)
  | releaseFirst (page : Byte)
  | releaseLast (page : Byte)
  | releaseGo
  | journalStatus
  | timeSet (day : BitVec 16) (seconds : BitVec 24)
  | timeRead
  | status
  | identity
  | checkMode (mode : Byte)
  | attentionSet (mask : BitVec 32)
  | attentionClear (mask : BitVec 32)
  | reset
  | clearStore
deriving DecidableEq, Repr

/-- The commands: the rows of spec/opcode_table.json, in the table's order. A host request's row is a complete request
frame of that kind, its check bytes right, arriving at a port; `FRAME_BYTE` brings the same frames byte by byte. -/
inductive Instr where
  | aOn
  | aOff
  | bOn
  | bOff
  | treadleEdge
  | tagFrame (id : TagId) (check : Byte)
  | tagFrameGap
  | tagReadChancePassed (place : Nat)
  | transitTimeout
  | stuckTimeout
  | tagWindowExpiry (place : Nat)
  | identTimerExpiry (visit : Nat)
  | plate (port : Port) (visit : BitVec 16) (plate : PlateField)
  | identify (port : Port) (visit : BitVec 16) (haulier programme cls : Byte)
  | enqueue (port : Port) (haulier programme cls : Byte) (tag : TagId) (plate : PlateField)
  | removeVisit (port : Port) (visit : BitVec 16)
  | queueList (port : Port)
  | visitRead (port : Port) (visit : BitVec 16)
  | vehiclePut (port : Port) (tag : TagId) (haulier programme : Byte) (plate : PlateField) (blocked : Byte)
  | vehicleDrop (port : Port) (tag : TagId)
  | vehicleGet (port : Port) (tag : TagId)
  | haulierPut (port : Port) (haulier state : Byte) (discount : BitVec 16) (limit : BitVec 32) (quota : Byte)
  | haulierDrop (port : Port) (haulier : Byte)
  | haulierGet (port : Port) (haulier : Byte)
  | termsBegin (port : Port)
  | termsBlock (port : Port) (code index : Byte) (content : BlockContent) (digest : BitVec 16)
  | termsCount (port : Port)
  | termsCommit (port : Port)
  | termsAbandon (port : Port)
  | termsRead (port : Port) (code index : Byte)
  | dispatchPass
  | signMessageSent
  | presenceAssert (bay : Bay)
  | presenceClear (bay : Bay)
  | entrySettleExpiry (bay : Bay)
  | callTimerExpiry (bay : Bay)
  | eStopAssert (bay : Bay)
  | eStopClear (bay : Bay)
  | flowPulse (bay : Bay)
  | timeLimitExpiry (bay : Bay)
  | waterWaitExpiry (bay : Bay)
  | runOnExpiry (bay : Bay)
  | exitTimerExpiry (bay : Bay)
  | supplyLowAssert
  | supplyLowClear
  | pumpCycleEnd (bay : Bay)
  | bayStatus (port : Port) (bay : Byte)
  | bayAbort (port : Port) (bay : Byte)
  | bayRelease (port : Port) (bay : Byte)
  | swap (port : Port) (resource : Byte) (expected new : BitVec 24)
  | waterStatus (port : Port)
  | allowanceSet (port : Port) (litres : BitVec 24)
  | lowSwitchAssert (tank : Tank)
  | lowSwitchClear (tank : Tank)
  | highSwitchAssert (tank : Tank)
  | highSwitchClear (tank : Tank)
  | tankSettleExpiry (tank : Tank)
  | resampleExpiry (tank : Tank)
  | referenceCountDone
  | conversionEnd (periods : Nat)
  | span
  | tankDump (port : Port) (tank : Byte)
  | tankHold (port : Port) (tank : Byte)
  | tankResume (port : Port) (tank : Byte)
  | tankServe (port : Port) (tank : Byte)
  | tankStatus (port : Port)
  | spotSample (port : Port) (probe : Byte)
  | exportOpen (port : Port) (page : Byte)
  | exportNext (port : Port)
  | exportStop (port : Port)
  | holdSet (port : Port) (page : Byte)
  | holdClear (port : Port) (page : Byte)
  | releaseFirst (port : Port) (page : Byte)
  | releaseLast (port : Port) (page : Byte)
  | releaseGo (port : Port)
  | journalStatus (port : Port)
  | releaseWalkStep
  | midnightPassage
  | timeSet (port : Port) (day : BitVec 16) (seconds : BitVec 24)
  | timeRead (port : Port)
  | status (port : Port)
  | identity (port : Port)
  | checkMode (port : Port) (mode : Byte)
  | attentionSet (port : Port) (mask : BitVec 32)
  | attentionClear (port : Port) (mask : BitVec 32)
  | reset (port : Port)
  | clearStore (port : Port)
  | unknownKind (port : Port) (kind : Byte)
  | frameGap (port : Port)
  | replySent (port : Port)
  | powerOn (kept : StoreChecks)
  | resetLine
  | storeCheck
  | startUpEnd
  | claimAnswer (bay : Bay)
  | powerLoss
  | frameByte (port : Port) (byte : Byte)
  | missingStopBit (port : Port)
  | tagByte (byte : Byte)
deriving DecidableEq, Repr

end Sys2Proof
end

