-- ==== Sys2Proof/Decode.lean ====
section
/-! DEFINITION. The command a word of the opcode table spells (none: the table gives its rows no bits), and the codec of
the host requests: the kind byte and payload of each request (R186, Table 7-1), and the request a kind and a payload
spell. -/

namespace Sys2Proof

open Sys2Proof.Machine

/-- The command whose bits in spec/opcode_table.json are `w`. The table gives none of its rows any bits, so no word
spells a command (log 1). -/
def decodeTableWord (_nbits _w : Nat) : Option Instr :=
  none

/-- The kind byte of a request (Table 7-1). -/
def Request.kind : Request → Byte
  | .plate .. => 0x10
  | .identify .. => 0x11
  | .enqueue .. => 0x12
  | .removeVisit .. => 0x13
  | .queueList => 0x14
  | .visitRead .. => 0x15
  | .vehiclePut .. => 0x16
  | .vehicleDrop .. => 0x17
  | .vehicleGet .. => 0x18
  | .haulierPut .. => 0x20
  | .haulierDrop .. => 0x21
  | .haulierGet .. => 0x22
  | .termsBegin => 0x23
  | .termsBlock .. => 0x24
  | .termsCount => 0x25
  | .termsCommit => 0x26
  | .termsAbandon => 0x27
  | .termsRead .. => 0x28
  | .bayStatus .. => 0x30
  | .bayAbort .. => 0x31
  | .bayRelease .. => 0x32
  | .swap .. => 0x38
  | .waterStatus => 0x39
  | .allowanceSet .. => 0x3A
  | .tankDump .. => 0x40
  | .tankHold .. => 0x41
  | .tankResume .. => 0x42
  | .tankServe .. => 0x43
  | .tankStatus => 0x44
  | .spotSample .. => 0x45
  | .exportOpen .. => 0x50
  | .exportNext => 0x51
  | .exportStop => 0x52
  | .holdSet .. => 0x53
  | .holdClear .. => 0x54
  | .releaseFirst .. => 0x55
  | .releaseLast .. => 0x56
  | .releaseGo => 0x57
  | .journalStatus => 0x58
  | .timeSet .. => 0x60
  | .timeRead => 0x61
  | .status => 0x70
  | .identity => 0x71
  | .checkMode .. => 0x72
  | .attentionSet .. => 0x73
  | .attentionClear .. => 0x74
  | .reset => 0x75
  | .clearStore => 0x76

/-- The payload of a request: its fields in the order its rule names them, each in its width (R186). -/
def Request.payload : Request → List Byte
  | .plate v p => be 2 v.toNat ++ p.toList
  | .identify v h g c => be 2 v.toNat ++ [h, g, c]
  | .enqueue h g c t p => [h, g, c] ++ be 5 t.toNat ++ p.toList
  | .removeVisit v => be 2 v.toNat
  | .queueList => []
  | .visitRead v => be 2 v.toNat
  | .vehiclePut t h g p b => be 5 t.toNat ++ [h, g] ++ p.toList ++ [b]
  | .vehicleDrop t => be 5 t.toNat
  | .vehicleGet t => be 5 t.toNat
  | .haulierPut h st d l q => [h, st] ++ be 2 d.toNat ++ be 4 l.toNat ++ [q]
  | .haulierDrop h => [h]
  | .haulierGet h => [h]
  | .termsBegin => []
  | .termsBlock c i content d => [c, i] ++ content.toList ++ be 2 d.toNat
  | .termsCount => []
  | .termsCommit => []
  | .termsAbandon => []
  | .termsRead c i => [c, i]
  | .bayStatus b => [b]
  | .bayAbort b => [b]
  | .bayRelease b => [b]
  | .swap r e n => [r] ++ be 3 e.toNat ++ be 3 n.toNat
  | .waterStatus => []
  | .allowanceSet n => be 3 n.toNat
  | .tankDump t => [t]
  | .tankHold t => [t]
  | .tankResume t => [t]
  | .tankServe t => [t]
  | .tankStatus => []
  | .spotSample p => [p]
  | .exportOpen p => [p]
  | .exportNext => []
  | .exportStop => []
  | .holdSet p => [p]
  | .holdClear p => [p]
  | .releaseFirst p => [p]
  | .releaseLast p => [p]
  | .releaseGo => []
  | .journalStatus => []
  | .timeSet d s => be 2 d.toNat ++ be 3 s.toNat
  | .timeRead => []
  | .status => []
  | .identity => []
  | .checkMode m => [m]
  | .attentionSet m => be 4 m.toNat
  | .attentionClear m => be 4 m.toNat
  | .reset => []
  | .clearStore => []

/-- The payload length of a kind (R186: the sum of its fields' widths), or none for a kind not of Table 7-1. -/
def requestLength (kind : Byte) : Option Nat :=
  match kind.toNat with
  | 0x10 => some 12
  | 0x11 => some 5
  | 0x12 => some 18
  | 0x13 => some 2
  | 0x14 => some 0
  | 0x15 => some 2
  | 0x16 => some 18
  | 0x17 => some 5
  | 0x18 => some 5
  | 0x20 => some 9
  | 0x21 => some 1
  | 0x22 => some 1
  | 0x23 => some 0
  | 0x24 => some 52
  | 0x25 => some 0
  | 0x26 => some 0
  | 0x27 => some 0
  | 0x28 => some 2
  | 0x30 => some 1
  | 0x31 => some 1
  | 0x32 => some 1
  | 0x38 => some 7
  | 0x39 => some 0
  | 0x3A => some 3
  | 0x40 => some 1
  | 0x41 => some 1
  | 0x42 => some 1
  | 0x43 => some 1
  | 0x44 => some 0
  | 0x45 => some 1
  | 0x50 => some 1
  | 0x51 => some 0
  | 0x52 => some 0
  | 0x53 => some 1
  | 0x54 => some 1
  | 0x55 => some 1
  | 0x56 => some 1
  | 0x57 => some 0
  | 0x58 => some 0
  | 0x60 => some 5
  | 0x61 => some 0
  | 0x70 => some 0
  | 0x71 => some 0
  | 0x72 => some 1
  | 0x73 => some 4
  | 0x74 => some 4
  | 0x75 => some 0
  | 0x76 => some 0
  | _ => none

/-- The `w`-bit field in the bytes at an offset, `w` a whole number of bytes. -/
def bitsAt (w : Nat) (l : List Byte) (off : Nat) : BitVec w :=
  BitVec.ofNat w (field l off (w / 8))

/-- The request that a kind and a payload of that kind's length spell. -/
def requestOf (kind : Byte) (l : List Byte) : Option Request :=
  match kind.toNat with
  | 0x10 => some (.plate (bitsAt 16 l 0) (bytesAt 10 l 2))
  | 0x11 => some (.identify (bitsAt 16 l 0) (bitsAt 8 l 2) (bitsAt 8 l 3) (bitsAt 8 l 4))
  | 0x12 => some (.enqueue (bitsAt 8 l 0) (bitsAt 8 l 1) (bitsAt 8 l 2) (bitsAt 40 l 3) (bytesAt 10 l 8))
  | 0x13 => some (.removeVisit (bitsAt 16 l 0))
  | 0x14 => some .queueList
  | 0x15 => some (.visitRead (bitsAt 16 l 0))
  | 0x16 => some (.vehiclePut (bitsAt 40 l 0) (bitsAt 8 l 5) (bitsAt 8 l 6) (bytesAt 10 l 7) (bitsAt 8 l 17))
  | 0x17 => some (.vehicleDrop (bitsAt 40 l 0))
  | 0x18 => some (.vehicleGet (bitsAt 40 l 0))
  | 0x20 => some (.haulierPut (bitsAt 8 l 0) (bitsAt 8 l 1) (bitsAt 16 l 2) (bitsAt 32 l 4) (bitsAt 8 l 8))
  | 0x21 => some (.haulierDrop (bitsAt 8 l 0))
  | 0x22 => some (.haulierGet (bitsAt 8 l 0))
  | 0x23 => some .termsBegin
  | 0x24 => some (.termsBlock (bitsAt 8 l 0) (bitsAt 8 l 1) (bytesAt 48 l 2) (bitsAt 16 l 50))
  | 0x25 => some .termsCount
  | 0x26 => some .termsCommit
  | 0x27 => some .termsAbandon
  | 0x28 => some (.termsRead (bitsAt 8 l 0) (bitsAt 8 l 1))
  | 0x30 => some (.bayStatus (bitsAt 8 l 0))
  | 0x31 => some (.bayAbort (bitsAt 8 l 0))
  | 0x32 => some (.bayRelease (bitsAt 8 l 0))
  | 0x38 => some (.swap (bitsAt 8 l 0) (bitsAt 24 l 1) (bitsAt 24 l 4))
  | 0x39 => some .waterStatus
  | 0x3A => some (.allowanceSet (bitsAt 24 l 0))
  | 0x40 => some (.tankDump (bitsAt 8 l 0))
  | 0x41 => some (.tankHold (bitsAt 8 l 0))
  | 0x42 => some (.tankResume (bitsAt 8 l 0))
  | 0x43 => some (.tankServe (bitsAt 8 l 0))
  | 0x44 => some .tankStatus
  | 0x45 => some (.spotSample (bitsAt 8 l 0))
  | 0x50 => some (.exportOpen (bitsAt 8 l 0))
  | 0x51 => some .exportNext
  | 0x52 => some .exportStop
  | 0x53 => some (.holdSet (bitsAt 8 l 0))
  | 0x54 => some (.holdClear (bitsAt 8 l 0))
  | 0x55 => some (.releaseFirst (bitsAt 8 l 0))
  | 0x56 => some (.releaseLast (bitsAt 8 l 0))
  | 0x57 => some .releaseGo
  | 0x58 => some .journalStatus
  | 0x60 => some (.timeSet (bitsAt 16 l 0) (bitsAt 24 l 2))
  | 0x61 => some .timeRead
  | 0x70 => some .status
  | 0x71 => some .identity
  | 0x72 => some (.checkMode (bitsAt 8 l 0))
  | 0x73 => some (.attentionSet (bitsAt 32 l 0))
  | 0x74 => some (.attentionClear (bitsAt 32 l 0))
  | 0x75 => some .reset
  | 0x76 => some .clearStore
  | _ => none

/-- The request frame that a row of the table stands for, and the port it comes in at; none for the other rows. -/
def Instr.request : Instr → Option (Port × Request)
  | .aOn => none
  | .aOff => none
  | .bOn => none
  | .bOff => none
  | .treadleEdge => none
  | .tagFrame .. => none
  | .tagFrameGap => none
  | .tagReadChancePassed .. => none
  | .transitTimeout => none
  | .stuckTimeout => none
  | .tagWindowExpiry .. => none
  | .identTimerExpiry .. => none
  | .plate port visit pl => some (port, .plate visit pl)
  | .identify port visit haulier programme cls => some (port, .identify visit haulier programme cls)
  | .enqueue port haulier programme cls tag pl => some (port, .enqueue haulier programme cls tag pl)
  | .removeVisit port visit => some (port, .removeVisit visit)
  | .queueList port => some (port, .queueList)
  | .visitRead port visit => some (port, .visitRead visit)
  | .vehiclePut port tag haulier programme pl blocked => some (port, .vehiclePut tag haulier programme pl blocked)
  | .vehicleDrop port tag => some (port, .vehicleDrop tag)
  | .vehicleGet port tag => some (port, .vehicleGet tag)
  | .haulierPut port haulier state discount limit quota => some (port, .haulierPut haulier state discount limit quota)
  | .haulierDrop port haulier => some (port, .haulierDrop haulier)
  | .haulierGet port haulier => some (port, .haulierGet haulier)
  | .termsBegin port => some (port, .termsBegin)
  | .termsBlock port code index content digest => some (port, .termsBlock code index content digest)
  | .termsCount port => some (port, .termsCount)
  | .termsCommit port => some (port, .termsCommit)
  | .termsAbandon port => some (port, .termsAbandon)
  | .termsRead port code index => some (port, .termsRead code index)
  | .dispatchPass => none
  | .signMessageSent => none
  | .presenceAssert .. => none
  | .presenceClear .. => none
  | .entrySettleExpiry .. => none
  | .callTimerExpiry .. => none
  | .eStopAssert .. => none
  | .eStopClear .. => none
  | .flowPulse .. => none
  | .timeLimitExpiry .. => none
  | .waterWaitExpiry .. => none
  | .runOnExpiry .. => none
  | .exitTimerExpiry .. => none
  | .supplyLowAssert => none
  | .supplyLowClear => none
  | .pumpCycleEnd .. => none
  | .bayStatus port bay => some (port, .bayStatus bay)
  | .bayAbort port bay => some (port, .bayAbort bay)
  | .bayRelease port bay => some (port, .bayRelease bay)
  | .swap port resource expected new => some (port, .swap resource expected new)
  | .waterStatus port => some (port, .waterStatus)
  | .allowanceSet port litres => some (port, .allowanceSet litres)
  | .lowSwitchAssert .. => none
  | .lowSwitchClear .. => none
  | .highSwitchAssert .. => none
  | .highSwitchClear .. => none
  | .tankSettleExpiry .. => none
  | .resampleExpiry .. => none
  | .referenceCountDone => none
  | .conversionEnd .. => none
  | .span => none
  | .tankDump port tank => some (port, .tankDump tank)
  | .tankHold port tank => some (port, .tankHold tank)
  | .tankResume port tank => some (port, .tankResume tank)
  | .tankServe port tank => some (port, .tankServe tank)
  | .tankStatus port => some (port, .tankStatus)
  | .spotSample port probe => some (port, .spotSample probe)
  | .exportOpen port page => some (port, .exportOpen page)
  | .exportNext port => some (port, .exportNext)
  | .exportStop port => some (port, .exportStop)
  | .holdSet port page => some (port, .holdSet page)
  | .holdClear port page => some (port, .holdClear page)
  | .releaseFirst port page => some (port, .releaseFirst page)
  | .releaseLast port page => some (port, .releaseLast page)
  | .releaseGo port => some (port, .releaseGo)
  | .journalStatus port => some (port, .journalStatus)
  | .releaseWalkStep => none
  | .midnightPassage => none
  | .timeSet port day seconds => some (port, .timeSet day seconds)
  | .timeRead port => some (port, .timeRead)
  | .status port => some (port, .status)
  | .identity port => some (port, .identity)
  | .checkMode port mode => some (port, .checkMode mode)
  | .attentionSet port mask => some (port, .attentionSet mask)
  | .attentionClear port mask => some (port, .attentionClear mask)
  | .reset port => some (port, .reset)
  | .clearStore port => some (port, .clearStore)
  | .unknownKind .. => none
  | .frameGap .. => none
  | .replySent .. => none
  | .powerOn .. => none
  | .resetLine => none
  | .storeCheck => none
  | .startUpEnd => none
  | .claimAnswer .. => none
  | .powerLoss => none
  | .frameByte .. => none
  | .missingStopBit .. => none
  | .tagByte .. => none

end Sys2Proof
end

