-- ==== Sys2Proof/Machine/Types.lean ====
section
/-! DEFINITION. The records, enumerations and collections of the part's blocks, each with the table or rule of spec/
that gives it. Enumerations list their values in the order their table or rule first lists them, which is the order of
their codes in replies (R186). -/

namespace Sys2Proof.Machine

/-- Haulier numbers 0 to 63 (00 Table 5-2). -/
abbrev Haulier := Fin 64

/-- Journal page numbers 0 to 63; adding 1 goes to the next page of the ring (R145). -/
abbrev PageNo := Fin 64

/-- A plate: its characters, without padding (02 Table 1-1 Note 1). -/
abbrev Plate := List Byte

/-- A depot time: day, seconds of day, centiseconds (00 §5.2). -/
structure DepotTime where
  day : Nat
  secs : Nat
  cs : Nat
deriving DecidableEq, Repr

/-- One thing for each site link port. -/
structure PerPort (α : Type) where
  p1 : α
  p2 : α
deriving DecidableEq, Repr

/-- One thing for each bay. -/
structure PerBay (α : Type) where
  b1 : α
  b2 : α
  b3 : α
  b4 : α
  b5 : α
  b6 : α
deriving DecidableEq, Repr

/-- One thing for each tank. -/
structure PerTank (α : Type) where
  a : α
  b : α
deriving DecidableEq, Repr

/-! ### Lane Unit (chapter 01) -/

/-- Binding of a measurement (01 Table 2-1). -/
inductive Binding where
  | bound (visit : Nat)
  | refused
  | lost
deriving DecidableEq, Repr

/-- The measurement record (01 Table 2-1); timers hold the lane time at which they expire. -/
structure Measurement where
  binding : Binding
  t0 : Nat
  arrival : DepotTime
  tab : Option Nat
  ta : Option Nat
  axles : Nat
  lastEdge : Option Nat
  /-- counting FROZEN (R13). -/
  frozen : Bool
  /-- completed STUCK (R12). -/
  stuck : Bool
  transit : Option Nat
  stuckTimer : Option Nat
  /-- the window-close notice of the bound visit is held back (R18). -/
  heldNotice : Bool
deriving DecidableEq, Repr

/-- An open tag window (R17); no visit is DISCARD. Its width is in seconds. -/
structure TagWindow where
  visit : Option Nat
  aOn : Nat
  aOff : Option Nat
  width : Nat
deriving DecidableEq, Repr

/-- A read in the tag read buffer (R15, R16), with the W of its entry in seconds. -/
structure TagRead where
  id : TagId
  lane : Nat
  time : DepotTime
  width : Nat
deriving DecidableEq, Repr

/-- The Lane Unit (R3). No measurement is ARMED, a measurement is MEASURING. -/
structure Lane where
  meas : Option Measurement
  occupied : Bool
  windows : List TagWindow
  reads : List TagRead
  frame : Option (List Byte)
  /-- count of the timebase at the partial frame's last byte (R15). -/
  frameAt : Nat
deriving DecidableEq, Repr

/-! ### Identification Unit (chapter 02) -/

/-- Ident state (02 Table 1-1). -/
inductive IdentState where
  | measuring
  | pending
  | matched
  | unknown
  | conflict
deriving DecidableEq, Repr

/-- Hold reason (02 Table 1-1). -/
inductive HoldReason where
  | noHold
  | blocked
  | measure
  | oversize
  | noProgram
  | noTariff
  | onStop
  | credit
deriving DecidableEq, Repr

/-- Lane verdict (R19), also the lane hold reason of a hand-over (R23). -/
inductive LaneVerdict where
  | noVerdict
  | measure
  | oversize
deriving DecidableEq, Repr

/-- A visit record (02 Table 1-1) with its two marks (R19), its ident timer (R27) and whether its window-close notice
has been taken (R32). -/
structure Visit where
  number : Nat
  arrival : DepotTime
  axles : Option Nat
  length : Option Nat
  cls : Option Nat
  tags : List TagId
  plate : Option Plate
  haulier : Option Haulier
  programme : Option Nat
  ident : IdentState
  hold : HoldReason
  call : Option Bay
  noShow : Nat
  verdict : LaneVerdict
  blocked : Bool
  identTimer : Option Nat
  closed : Bool
deriving DecidableEq, Repr

/-- A Vehicle Register entry (R31). -/
structure VehicleEntry where
  tag : TagId
  haulier : Haulier
  programme : Option Nat
  plate : Option Plate
  blocked : Bool
deriving DecidableEq, Repr

/-- Cause of TAG-CONFLICT (R25). -/
inductive ConflictCause where
  | inUse
  | secondId
deriving DecidableEq, Repr

/-! ### Accounts and Terms (chapter 03) -/

/-- Haulier account state (03 Table 1-1). -/
inductive AccountState where
  | opened
  | onStop
  | closed
deriving DecidableEq, Repr

/-- A Haulier Table entry (03 Table 1-1). -/
structure HaulierEntry where
  state : AccountState
  discount : Nat
  limit : Nat
  quota : Nat
deriving DecidableEq, Repr

/-- A bank of the Terms Set: the 33 blocks of 03 Table 2-1, 48 content bytes each. -/
structure Bank where
  classTable : BlockContent
  programmes : Vector BlockContent 24
  tariff : Vector BlockContent 7
  settings : BlockContent
deriving DecidableEq, Repr

/-- A block of the Terms Set, named by its section and index (03 Table 2-1). -/
inductive BlockId where
  | classTable
  | programme (index : Fin 24)
  | tariff (index : Fin 7)
  | settings
deriving DecidableEq, Repr

/-- The staging state while a load is open (R51). -/
structure Staging where
  port : Port
  bank : Bank
  count : Nat
deriving DecidableEq, Repr

/-- Phase kind (03 Table 2-3). -/
inductive PhaseKind where
  | unused
  | preSoak
  | highPressure
  | brush
  | underbody
  | rinse
  | finalRinse
deriving DecidableEq, Repr

/-- Water source of a phase (03 Table 2-3). -/
inductive WaterSource where
  | freshOnly
  | reclaimPreferred
deriving DecidableEq, Repr

/-- The fields of a phase place (03 Table 2-3). -/
structure PhaseTerms where
  kind : PhaseKind
  source : WaterSource
  dose : Nat
  limit : Nat
  duty : Nat
  weight : Nat
deriving DecidableEq, Repr

/-- The failures a TERMS COMMIT reports (03 Table 3-1). -/
inductive CommitFailure where
  | phaseRange (programme phase : Nat)
  | weightSum (programme : Nat)
  | priceUndefined (programme : Nat)
  | thresholds
deriving DecidableEq, Repr

/-! ### Dispatcher and lane sign (chapter 04) -/

/-- Status line of the sign, in the order R73 lists them. -/
inductive SignStatus where
  | closed
  | full
  | wait
  | opened
deriving DecidableEq, Repr

/-- A call line (R72). -/
structure CallLine where
  bay : Bay
  visit : Nat
deriving DecidableEq, Repr

/-- A sign message in sending: its 18 bytes and the timebase count at which it began (R75). -/
structure SignMessage where
  bytes : List Byte
  began : Nat
deriving DecidableEq, Repr

/-- The Dispatcher (R58) with the sign port (R75). -/
structure Dispatcher where
  lastHaulier : Option Haulier
  run : Nat
  mark : Bool
  lines : List CallLine
  status : SignStatus
  sending : Option SignMessage
  again : Bool
deriving DecidableEq, Repr

/-! ### Bay Sequencers (chapter 05) -/

/-- Bay state (R76). -/
inductive BayState where
  | closed
  | idle
  | called
  | washing
  | exit
  | fault
deriving DecidableEq, Repr

/-- Sub-state of WASHING, or none outside it (05 Table 2-1). -/
inductive SubState where
  | claim
  | waterWait
  | run
  | runOn
  | outside
deriving DecidableEq, Repr

/-- Phase status (05 Table 2-1 Note 1). -/
inductive PhaseStatus where
  | done
  | short
  | skipped
  | aborted
  | notReached
deriving DecidableEq, Repr

/-- Abort mark (05 Table 2-1). -/
inductive AbortMark where
  | unmarked
  | presence
  | host
  | eStop
deriving DecidableEq, Repr

/-- A phase list entry (R78). -/
structure PhaseEntry where
  status : PhaseStatus
  rPhase : Nat
  lb : Nat
  lf : Nat
  fk : Nat
  degraded : Bool
  lost : Bool
deriving DecidableEq, Repr

/-- The terms snapshot taken at a call (R66). -/
structure Snapshot where
  programme : Nat
  phases : List PhaseTerms
  basePrice : Nat
  freshRate : Nat
  reclaimRate : Nat
  discount : Nat
  generation : Nat
deriving DecidableEq, Repr

/-- The bay work record (05 Table 2-1); its field "bay" is its place among the six. The current phase is 0 until entry. -/
structure WorkRecord where
  callTime : DepotTime
  terms : Snapshot
  visit : Option Visit
  startTime : Option DepotTime
  endTime : Option DepotTime
  phase : Nat
  sub : SubState
  claimTank : Option Tank
  claim : Nat
  abort : AbortMark
  chargeSeq : Option (BitVec 24)
  entries : List PhaseEntry
deriving DecidableEq, Repr

/-- A Bay Sequencer (R76). Timers hold the lane time at which they expire; `pumpPos` counts ticks of the pump cycle. -/
structure BayUnit where
  state : BayState
  record : Option WorkRecord
  dose : BitVec 16
  runOn : Nat
  spilled : Bool
  settle : Option Nat
  call : Option Nat
  limit : Option Nat
  wait : Option Nat
  runOnTimer : Option Nat
  exit : Option Nat
  pumpPos : Nat
  pumpDuty : Nat
  supply : Bool
  blend : Nat
deriving DecidableEq, Repr

/-! ### Resource Table (chapter 06) -/

/-- The resources SWAP names (06 Table 1-1). -/
inductive Resource where
  | freshRemain
  | overdraw
  | bayOpen
  | settleOwner
deriving DecidableEq, Repr

/-- A water-wait list entry (R106). -/
structure WaitEntry where
  bay : Bay
  estimate : Nat
deriving DecidableEq, Repr

/-- The Resource Table (R96). -/
structure Resources where
  fresh : Nat
  overdraw : Nat
  bayOpen : BitVec 6
  owner : Option Port
  preload : Nat
  waits : List WaitEntry
deriving DecidableEq, Repr

/-! ### Tank Sequencer and Probe Converter (chapter 07) -/

/-- Tank state (07 Table 1-1). -/
inductive TankState where
  | filling
  | settling
  | sampling
  | ready
  | service
  | dumping
  | held
deriving DecidableEq, Repr

/-- A converted value with its SATURATED flag (07 Table 1-1). -/
structure Reading where
  q : Nat
  saturated : Bool
deriving DecidableEq, Repr

/-- Awaited result of one probe (07 Table 1-1). -/
inductive Awaited where
  | notAwaited
  | awaited
  | received (r : Reading)
deriving DecidableEq, Repr

/-- Kind of outcome of a conversion (07 R127). -/
inductive OutcomeKind where
  | span
  | saturated
  | openProbe
  | good
deriving DecidableEq, Repr

/-- A converter fault of a sampling: the probe and its outcome (R117). -/
structure ProbeFault where
  probe : Probe
  outcome : OutcomeKind
deriving DecidableEq, Repr

/-- A tank record (07 Table 1-1) with its valves (07 Table 1-3). The fault count is 1 while `fault` holds the first
converter fault of the sampling. `settleLeft` is the settle timer's remaining time while the part is down. -/
structure TankUnit where
  state : TankState
  qSalt : Option Reading
  qTurb : Option Reading
  share : Option Nat
  settleTimer : Option Nat
  settleLeft : Option Nat
  resampleTimer : Option Nat
  salt : Awaited
  turb : Awaited
  fault : Option ProbeFault
  inlet : Bool
  dump : Bool
  outlet : Bool
deriving DecidableEq, Repr

/-- Why the service tank changed (R119). -/
inductive TankCause where
  | samplePass
  | handover
  | tankServe
  | lowSwitch
  | resampleFail
  | probeFault
  | tankDump
  | tankHold
deriving DecidableEq, Repr

/-- Phase of the converter (R126). -/
inductive ConverterPhase where
  | idle
  | reference
  | probe
deriving DecidableEq, Repr

/-- A request queue entry: a probe and its requesters (R128). -/
structure ConvRequest where
  probe : Probe
  tank : Bool
  spot1 : Bool
  spot2 : Bool
deriving DecidableEq, Repr

/-- The Probe Converter (R126). The probe being converted is the head of `requests` unless the phase is idle. -/
structure Converter where
  phase : ConverterPhase
  requests : List ConvRequest
  nRef : Nat
  up : BitVec 16
  time : BitVec 16
  saturated : Bool
deriving DecidableEq, Repr

/-! ### Charge Journal (chapter 09) -/

/-- The five totals of a day: accumulators and day closes (10 Table 1-1). -/
structure Totals where
  charges : Nat
  amount : Nat
  fresh : Nat
  reclaim : Nat
  overdraw : Nat
deriving DecidableEq, Repr

/-- A day close: its first and last day and its totals (R151). -/
structure DayClose where
  first : Nat
  last : Nat
  totals : Totals
deriving DecidableEq, Repr

/-- A phase entry of a CHARGE record (R142). -/
structure ChargePhase where
  kind : PhaseKind
  status : PhaseStatus
  rPhase : Nat
  lb : Nat
  lf : Nat
  fk : Nat
  degraded : Bool
  lost : Bool
deriving DecidableEq, Repr

/-- The flags of a CHARGE record (R141). -/
structure ChargeFlags where
  aborted : Bool
  short : Bool
  skipped : Bool
  degraded : Bool
  lost : Bool
  recovered : Bool
deriving DecidableEq, Repr

/-- The contents of a CHARGE record (R142), its sequence number apart. -/
structure Charge where
  visit : Nat
  haulier : Haulier
  bay : Bay
  programme : Nat
  cls : Nat
  generation : Nat
  axles : Option Nat
  length : Option Nat
  tag : Option TagId
  plate : Option Plate
  callTime : DepotTime
  startTime : DepotTime
  endTime : DepotTime
  litres : Nat
  fresh : Nat
  weight : Nat
  base : Nat
  water : Nat
  discount : Nat
  amount : Nat
  flags : ChargeFlags
  phases : List ChargePhase
deriving DecidableEq, Repr

/-- A journal record: its sequence number and what it is (R148). -/
inductive Record where
  | charge (seq : BitVec 24) (c : Charge)
  | dayClose (seq : BitVec 24) (d : DayClose)
deriving DecidableEq, Repr

/-- Page state (09 Table 1-1). -/
inductive PageState where
  | free
  | opened
  | closed
  | read
  | released
deriving DecidableEq, Repr

/-- A journal page; its used-slot count is the number of its records (R144). -/
structure JournalPage where
  state : PageState
  hold : Bool
  records : List Record
deriving DecidableEq, Repr

/-- Where an export cursor stands (R153). -/
inductive CursorPlace where
  | absent
  | slot (page : PageNo) (slot : Nat)
  | ringEnd
deriving DecidableEq, Repr

/-- An export cursor with its lost mark (R153). -/
structure Cursor where
  place : CursorPlace
  lost : Bool
deriving DecidableEq, Repr

/-- Release tagging state (R157). -/
inductive Tagging where
  | untagged
  | firstTagged (first : PageNo)
  | bothTagged (first last : PageNo)
deriving DecidableEq, Repr

/-- A release walk in progress (R159): its range, the next page to judge and its three counts. -/
structure Walk where
  first : PageNo
  last : PageNo
  next : PageNo
  released : Nat
  unread : Nat
  held : Nat
deriving DecidableEq, Repr

/-- The Charge Journal (R144). -/
structure Journal where
  pages : Vector JournalPage 64
  newest : PageNo
  nextSeq : BitVec 24
  reserved : Nat
  pendingClose : Option DayClose
  balances : Vector Nat 64
  cursors : PerPort Cursor
  tagging : Tagging
  walk : Option Walk
  lowArmed : Bool
deriving DecidableEq, Repr

/-! ### Depot Clock (chapter 10) -/

/-- The Depot Clock (10 Table 1-1). `sub` counts the 10 us ticks of the present centisecond. -/
structure Clock where
  time : DepotTime
  sub : Nat
  billingDay : Nat
  lastClosed : Nat
  acc : Totals
deriving DecidableEq, Repr

/-! ### Start-up (chapter 12) -/

/-- Where the part stands between resets: no main power, the store check of start-up, the rest of start-up, running. -/
inductive PartPhase where
  | off
  | checking
  | starting
  | running
deriving DecidableEq, Repr

/-- Start kind (R183). -/
inductive StartKind where
  | cold
  | warm
  | pending
deriving DecidableEq, Repr

/-- Reset cause (R183, R187). -/
inductive ResetCause where
  | powerOn
  | resetLine
  | resetRequest
  | clearStore
deriving DecidableEq, Repr

/-- The part's own progress: its phase, start kind and reset cause, and what this start-up has done so far (R193). -/
structure Part where
  phase : PartPhase
  startKind : StartKind
  cause : ResetCause
  recovered : Nat
  walkFinished : Bool
deriving DecidableEq, Repr

/-- The levels of the lines that rules read as levels. -/
structure Lines where
  presence : PerBay Bool
  estop : PerBay Bool
  supplyLow : Bool
  low : PerTank Bool
  high : PerTank Bool
deriving DecidableEq, Repr

/-! ### Events (chapter 11) -/

/-- The 29 event kinds in code order (11 Table 3-1). -/
inductive EventKind where
  | arrivalRefused
  | backout
  | tailgate
  | loopStuck
  | tagStray
  | tagConflict
  | visitHeld
  | callExpired
  | visitDropped
  | intrusion
  | exitOverstay
  | bayFault
  | washDone
  | washAborted
  | waterWait
  | phaseSkipped
  | reclaimLost
  | meterSpill
  | loadShed
  | overdraw
  | tankChange
  | probeFault
  | spotResult
  | journalLow
  | releaseDone
  | dayClosed
  | dayCloseDeferred
  | clockStep
  | started
deriving DecidableEq, Repr

/-- An occurrence: its kind with the fields the rule that latches it names, in that rule's order. -/
inductive Event where
  | arrivalRefused (arrival : DepotTime) (axles length cls : Option Nat)
  | backout (visit : Option Nat) (arrival : DepotTime) (axles : Nat)
  | tailgate (measured second : Option Nat)
  | loopStuck (visit : Option Nat) (axles : Nat)
  | tagStray (id : TagId) (time : DepotTime)
  | tagConflict (visit : Nat) (id : TagId) (cause : ConflictCause) (other : Option Nat)
  | visitHeld (visit : Nat) (ident : IdentState) (hold : HoldReason)
  | callExpired (visit : Nat) (bay : Bay) (count : Nat)
  | visitDropped (visit : Nat) (bay : Bay) (haulier : Option Haulier) (tag : Option TagId) (plate : Option Plate)
  | intrusion (bay : Bay) (time : DepotTime)
  | exitOverstay (bay : Bay) (visit : Nat)
  | bayFault (bay : Bay) (state : BayState) (visit : Option Nat)
  | washDone (visit : Nat) (bay : Bay) (haulier : Haulier) (seq : BitVec 24) (amount : Nat)
  | washAborted (visit : Nat) (bay : Bay) (haulier : Haulier) (seq : BitVec 24) (amount : Nat) (mark : AbortMark)
      (phase : Nat)
  | waterWait (bay : Bay) (visit phase estimate : Nat)
  | phaseSkipped (bay : Bay) (visit phase : Nat)
  | reclaimLost (bay : Bay) (visit phase : Nat) (tank : Tank) (lb : Nat)
  | meterSpill (bay : Bay) (visit phase : Nat)
  | loadShed (running : Nat)
  | overdraw (bay : Bay) (visit phase shortfall value : Nat)
  | tankChange (before after : Option Tank) (cause : TankCause) (share : Option Nat)
  | probeFault (tank : Tank) (state : TankState) (first second : ProbeFault)
  | spotResult (probe : Probe) (outcome : OutcomeKind) (periods q : Option Nat) (saturated : Bool) (nRef : Nat)
      (spot1 spot2 : Bool) (time : DepotTime)
  | journalLow (available reserved closed held : Nat)
  | releaseDone (first last : PageNo) (released unread held freed available : Nat)
  | dayClosed (seq : BitVec 24) (first last amount : Nat)
  | dayCloseDeferred (first last available reserved : Nat)
  | clockStep (port : Port) (before after : DepotTime) (difference : Int)
  | started (kind : StartKind) (cause : ResetCause) (recovered : Nat) (walk rollover pending : Bool)
deriving DecidableEq, Repr

/-- A latched kind on one port: its count 1 to 255, its latch time and its newest occurrence (R180). -/
structure LatchEntry where
  count : Nat
  time : DepotTime
  event : Event
deriving DecidableEq, Repr

/-! ### Link Interfaces (chapter 11) -/

/-- Reply codes (11 Table 2-1). -/
inductive ReplyCode where
  | accepted
  | mismatch
  | refusedBusy
  | refusedState
  | badArgument
  | notOwner
  | tableFull
  | queueFull
  | inUse
  | sequence
  | range
  | openInRange
  | termsInvalid
  | unknownKind
  | checkFailed
  | starting
  | endOfRecords
  | lostPosition
  | digestRejected
  | writeError
deriving DecidableEq, Repr

/-- What a request's rule answers: a code, the RELEASE-RESET flag and a payload (R178). -/
structure Reply where
  code : ReplyCode
  releaseReset : Bool
  payload : List Byte
deriving DecidableEq, Repr

/-- A complete request frame as received: kind, payload and the two check bytes (11 Table 7-2). -/
structure Frame where
  kind : Byte
  payload : List Byte
  check : BitVec 16
deriving DecidableEq, Repr

/-- Receiver state with the bytes of the frame so far (R174). -/
inductive Receiver where
  | hunt
  | kind
  | length (kind : Byte)
  | payload (kind length : Byte) (got : List Byte)
  | check (kind : Byte) (payload : List Byte) (first : Option Byte)
deriving DecidableEq, Repr

/-- A reply in sending: the reply frame's bytes and the timebase count at which it began (R177). -/
structure Sending where
  bytes : List Byte
  began : Nat
deriving DecidableEq, Repr

/-- A Link Interface (R174). `resetAfter` is the reset that follows the reply in sending (R184, R185). -/
structure Link where
  rx : Receiver
  rxAt : Nat
  held : Option Frame
  reply : Option Sending
  checkOn : Bool
  latch : Vector (Option LatchEntry) 29
  mask : BitVec 29
  attention : Bool
  resetAfter : Option ResetCause
deriving DecidableEq, Repr

end Sys2Proof.Machine
end

