-- ==== Sys2Proof/Machine/Per.lean ====
section
/-! DEFINITION. Reading and updating what there is one of for each port, bay, tank or probe, and the numbers that name
them on the wire. -/

namespace Sys2Proof.Machine

/-- What belongs to a port. -/
def PerPort.get {α : Type} (x : PerPort α) : Port → α
  | .one => x.p1
  | .two => x.p2

/-- Replace what belongs to a port. -/
def PerPort.set {α : Type} (x : PerPort α) (p : Port) (v : α) : PerPort α :=
  match p with
  | .one => { x with p1 := v }
  | .two => { x with p2 := v }

/-- The same for both ports. -/
def PerPort.map {α β : Type} (f : α → β) (x : PerPort α) : PerPort β :=
  { p1 := f x.p1, p2 := f x.p2 }

/-- What belongs to a bay. -/
def PerBay.get {α : Type} (x : PerBay α) : Bay → α
  | .b1 => x.b1
  | .b2 => x.b2
  | .b3 => x.b3
  | .b4 => x.b4
  | .b5 => x.b5
  | .b6 => x.b6

/-- Replace what belongs to a bay. -/
def PerBay.set {α : Type} (x : PerBay α) (b : Bay) (v : α) : PerBay α :=
  match b with
  | .b1 => { x with b1 := v }
  | .b2 => { x with b2 := v }
  | .b3 => { x with b3 := v }
  | .b4 => { x with b4 := v }
  | .b5 => { x with b5 := v }
  | .b6 => { x with b6 := v }

/-- The same for every bay. -/
def PerBay.map {α β : Type} (f : α → β) (x : PerBay α) : PerBay β :=
  { b1 := f x.b1, b2 := f x.b2, b3 := f x.b3, b4 := f x.b4, b5 := f x.b5, b6 := f x.b6 }

/-- The same thing for every bay. -/
def PerBay.all {α : Type} (v : α) : PerBay α :=
  { b1 := v, b2 := v, b3 := v, b4 := v, b5 := v, b6 := v }

/-- What belongs to a tank. -/
def PerTank.get {α : Type} (x : PerTank α) : Tank → α
  | .a => x.a
  | .b => x.b

/-- Replace what belongs to a tank. -/
def PerTank.set {α : Type} (x : PerTank α) (t : Tank) (v : α) : PerTank α :=
  match t with
  | .a => { x with a := v }
  | .b => { x with b := v }

/-- The same for both tanks. -/
def PerTank.map {α β : Type} (f : α → β) (x : PerTank α) : PerTank β :=
  { a := f x.a, b := f x.b }

/-- The port a request did not arrive on (00 Table 5-2 Note 1). -/
def otherPort : Port → Port
  | .one => .two
  | .two => .one

/-- The other tank. -/
def otherTank : Tank → Tank
  | .a => .b
  | .b => .a

/-- Port number 1 or 2. -/
def portNumber : Port → Nat
  | .one => 1
  | .two => 2

/-- SETTLE_OWNER as a number: 0 for none (06 Table 1-1). -/
def ownerNumber : Option Port → Nat
  | none => 0
  | some p => portNumber p

/-- The port a SETTLE_OWNER value names. -/
def ownerOf (n : Nat) : Option Port :=
  match n with
  | 1 => some .one
  | 2 => some .two
  | _ => none

/-- The bays in ascending bay number. -/
def allBays : List Bay := [.b1, .b2, .b3, .b4, .b5, .b6]

/-- Bay number 1 to 6. -/
def bayNumber : Bay → Nat
  | .b1 => 1
  | .b2 => 2
  | .b3 => 3
  | .b4 => 4
  | .b5 => 5
  | .b6 => 6

/-- The bay a number names, if it lies within 1 to 6. -/
def bayOf (n : Nat) : Option Bay :=
  match n with
  | 1 => some .b1
  | 2 => some .b2
  | 3 => some .b3
  | 4 => some .b4
  | 5 => some .b5
  | 6 => some .b6
  | _ => none

/-- Tank code: A 0, B 1 (R186). -/
def tankCode : Tank → Nat
  | .a => 0
  | .b => 1

/-- The tank a code names. -/
def tankOf (n : Nat) : Option Tank :=
  match n with
  | 0 => some .a
  | 1 => some .b
  | _ => none

/-- Probe code (R129's order). -/
def probeCode : Probe → Nat
  | .aSalt => 0
  | .aTurb => 1
  | .bSalt => 2
  | .bTurb => 3

/-- The probe a code names. -/
def probeOf (n : Nat) : Option Probe :=
  match n with
  | 0 => some .aSalt
  | 1 => some .aTurb
  | 2 => some .bSalt
  | 3 => some .bTurb
  | _ => none

/-- The tank a probe stands in (R128). -/
def probeTank : Probe → Tank
  | .aSalt => .a
  | .aTurb => .a
  | .bSalt => .b
  | .bTurb => .b

/-- The salinity probe of a tank. -/
def saltProbe : Tank → Probe
  | .a => .aSalt
  | .b => .bSalt

/-- The turbidity probe of a tank. -/
def turbProbe : Tank → Probe
  | .a => .aTurb
  | .b => .bTurb

/-- The haulier a number names, if it lies within 0 to 63. -/
def haulierOf (n : Nat) : Option Haulier :=
  if h : n < 64 then some ⟨n, h⟩ else none

/-- The journal page a number names, if it lies within 0 to 63. -/
def pageOf (n : Nat) : Option PageNo :=
  if h : n < 64 then some ⟨n, h⟩ else none

/-- The bit of BAY_OPEN that belongs to a bay: bit 0 for bay 1 (06 Table 1-1). -/
def bayBit (b : Bay) : Nat :=
  bayNumber b - 1

/-- Replace one element of a fixed-size table. -/
def putAt {α : Type} {n : Nat} (v : Vector α n) (i : Fin n) (x : α) : Vector α n :=
  v.set i.val x i.isLt

end Sys2Proof.Machine
end

