-- ==== Sys2Proof/Machine/Terms.lean ====
section
/-! DEFINITION. The Terms Set as bytes (03 R45 to R49, 11 Table 7-9): where each class row, phase, price and setting lies
in its block, the block tests of R53, the commit checks of R55, and the default bank of R45. -/

namespace Sys2Proof.Machine

/-- A block of zeros: what a cold start leaves where the defaults give nothing (R45). -/
def zeroBlock : BlockContent :=
  Vector.replicate 48 0

/-- The content of a block. -/
def Bank.block (b : Bank) : BlockId → BlockContent
  | .classTable => b.classTable
  | .programme i => b.programmes[i]
  | .tariff i => b.tariff[i]
  | .settings => b.settings

/-- Replace a block (R53). -/
def Bank.setBlock (b : Bank) (i : BlockId) (c : BlockContent) : Bank :=
  match i with
  | .classTable => { b with classTable := c }
  | .programme i => { b with programmes := putAt b.programmes i c }
  | .tariff i => { b with tariff := putAt b.tariff i c }
  | .settings => { b with settings := c }

/-- A setting: the unsigned integer at an offset of the Depot Settings block (11 Table 7-9). -/
def Bank.setting (b : Bank) (off width : Nat) : Nat :=
  field b.settings.toList off width

/-- Lane spacing D in centimetres. -/
def Bank.laneSpacing (b : Bank) : Nat := b.setting 0 2
/-- Transit timeout in seconds. -/
def Bank.transitTimeout (b : Bank) : Nat := b.setting 2 1
/-- Tag window width W in seconds. -/
def Bank.tagWidth (b : Bank) : Nat := b.setting 3 1
/-- Ident timeout in seconds. -/
def Bank.identTimeout (b : Bank) : Nat := b.setting 4 1
/-- Class limit of a bay. -/
def Bank.classLimit (b : Bank) (bay : Bay) : Nat := b.setting (4 + bayNumber bay) 1
/-- Entry settle time in seconds. -/
def Bank.entrySettle (b : Bank) : Nat := b.setting 11 1
/-- Call timeout in seconds. -/
def Bank.callTimeout (b : Bank) : Nat := b.setting 12 2
/-- Exit timeout in seconds. -/
def Bank.exitTimeout (b : Bank) : Nat := b.setting 14 2
/-- Water-wait limit in seconds. -/
def Bank.waterWaitLimit (b : Bank) : Nat := b.setting 16 2
/-- Settling time in minutes. -/
def Bank.settlingTime (b : Bank) : Nat := b.setting 18 1
/-- Resample interval in minutes. -/
def Bank.resampleInterval (b : Bank) : Nat := b.setting 19 1
/-- N_ref. -/
def Bank.nRef (b : Bank) : Nat := b.setting 20 2
/-- Qlow. -/
def Bank.qLow (b : Bank) : Nat := b.setting 22 2
/-- Qhigh. -/
def Bank.qHigh (b : Bank) : Nat := b.setting 24 2
/-- Qdump. -/
def Bank.qDump (b : Bank) : Nat := b.setting 26 2
/-- Tlimit. -/
def Bank.tLimit (b : Bank) : Nat := b.setting 28 2
/-- Clock tolerance in seconds. -/
def Bank.clockTolerance (b : Bank) : Nat := b.setting 30 1

/-- Maximum axle count of class row `r`, 1 to 6 (R46). -/
def Bank.maxAxles (b : Bank) (r : Nat) : Nat :=
  field b.classTable.toList (3 * (r - 1)) 1

/-- Maximum length of class row `r`, 1 to 6, in centimetres (R46). -/
def Bank.maxLength (b : Bank) (r : Nat) : Nat :=
  field b.classTable.toList (3 * (r - 1) + 1) 2

/-- The Programme Table block `i`, 0 to 23. -/
def Bank.programmeBlock (b : Bank) (i : Nat) : List Byte :=
  (b.programmes[i]?.getD zeroBlock).toList

/-- The phase count of programme `p`; 0 is not defined (R47). -/
def Bank.phaseCount (b : Bank) (p : Nat) : Nat :=
  if 1 ≤ p ∧ p ≤ 12 then field (b.programmeBlock (2 * (p - 1))) 0 1 else 0

/-- The phase kind a code names (03 Table 2-3); the block test keeps codes within 0 to 6. -/
def phaseKindOf (n : Nat) : PhaseKind :=
  match n with
  | 1 => .preSoak
  | 2 => .highPressure
  | 3 => .brush
  | 4 => .underbody
  | 5 => .rinse
  | 6 => .finalRinse
  | _ => .unused

/-- The water source a code names (03 Table 2-3); the block test keeps codes within 0 to 1. -/
def waterSourceOf (n : Nat) : WaterSource :=
  if n = 1 then .reclaimPreferred else .freshOnly

/-- Phase place `k`, 1 to 8, of programme `p`, 1 to 12 (R47, 11 Table 7-9). -/
def Bank.phase (b : Bank) (p k : Nat) : PhaseTerms :=
  let l := b.programmeBlock (2 * (p - 1) + (k - 1) / 4)
  let off := 1 + 9 * ((k - 1) % 4)
  { kind := phaseKindOf (field l off 1), source := waterSourceOf (field l (off + 1) 1), dose := field l (off + 2) 2,
    limit := field l (off + 4) 2, duty := field l (off + 6) 1, weight := field l (off + 7) 2 }

/-- Phases 1 to the count of programme `p`. -/
def Bank.phases (b : Bank) (p : Nat) : List PhaseTerms :=
  (List.range (b.phaseCount p)).map fun i => b.phase p (i + 1)

/-- The Tariff block `i`, 0 to 6. -/
def Bank.tariffBlock (b : Bank) (i : Nat) : List Byte :=
  (b.tariff[i]?.getD zeroBlock).toList

/-- The base price of programme `p` for class `c` in cents; 0 is not offered (R48). -/
def Bank.basePrice (b : Bank) (p c : Nat) : Nat :=
  if 1 ≤ p ∧ p ≤ 12 ∧ 1 ≤ c ∧ c ≤ 6 then
    field (b.tariffBlock ((p - 1) / 2)) (18 * ((p - 1) % 2) + 3 * (c - 1)) 3
  else 0

/-- FreshRate in cents per 100 litres (R48). -/
def Bank.freshRate (b : Bank) : Nat := field (b.tariffBlock 6) 0 2
/-- ReclaimRate in cents per 100 litres (R48). -/
def Bank.reclaimRate (b : Bank) : Nat := field (b.tariffBlock 6) 2 2

/-! ### Block tests (R53) -/

/-- A tested field of a block: its offset within the content, its width in bytes and its block range. -/
structure FieldTest where
  off : Nat
  width : Nat
  lo : Nat
  hi : Nat
deriving DecidableEq, Repr

/-- The tests of the phase place at an offset (03 Table 2-3, block range). -/
def phaseTests (off : Nat) : List FieldTest :=
  [⟨off, 1, 0, 6⟩, ⟨off + 1, 1, 0, 1⟩, ⟨off + 2, 2, 0, 4000⟩, ⟨off + 4, 2, 0, 1800⟩, ⟨off + 6, 1, 0, 255⟩,
    ⟨off + 7, 2, 0, 1000⟩]

/-- The tests of a Depot Settings block (03 Table 2-4 in the layout of 11 Table 7-9). -/
def settingTests : List FieldTest :=
  [⟨0, 2, 100, 2000⟩, ⟨2, 1, 5, 120⟩, ⟨3, 1, 0, 5⟩, ⟨4, 1, 0, 120⟩, ⟨5, 1, 1, 6⟩, ⟨6, 1, 1, 6⟩, ⟨7, 1, 1, 6⟩,
    ⟨8, 1, 1, 6⟩, ⟨9, 1, 1, 6⟩, ⟨10, 1, 1, 6⟩, ⟨11, 1, 2, 30⟩, ⟨12, 2, 30, 600⟩, ⟨14, 2, 30, 600⟩,
    ⟨16, 2, 0, 600⟩, ⟨18, 1, 1, 240⟩, ⟨19, 1, 5, 240⟩, ⟨20, 2, 256, 16384⟩, ⟨22, 2, 0, 65535⟩,
    ⟨24, 2, 0, 65535⟩, ⟨26, 2, 0, 65535⟩, ⟨28, 2, 0, 65535⟩, ⟨30, 1, 0, 60⟩]

/-- The tests of a block, in the order its fields lie (R46 to R49). Programme blocks of even index hold the phase
count; Tariff blocks 0 to 5 hold prices and block 6 the rates. -/
def blockTests : BlockId → List FieldTest
  | .classTable => (List.range 6).flatMap fun r => [⟨3 * r, 1, 2, 12⟩, ⟨3 * r + 1, 2, 0, 3000⟩]
  | .programme i =>
    (if i.val % 2 = 0 then [⟨0, 1, 0, 8⟩] else []) ++ (List.range 4).flatMap fun k => phaseTests (1 + 9 * k)
  | .tariff i =>
    if i.val < 6 then (List.range 12).map fun c => ⟨3 * c, 3, 0, 99999⟩ else [⟨0, 2, 0, 2000⟩, ⟨2, 2, 0, 2000⟩]
  | .settings => settingTests

/-- A tested field lies within its block range. -/
def FieldTest.passes (t : FieldTest) (content : BlockContent) : Bool :=
  t.lo ≤ field content.toList t.off t.width && field content.toList t.off t.width ≤ t.hi

/-- The block a section code and an index name; otherwise the offset, within the TERMS BLOCK payload, of the one that
names none (R53, R186). -/
def blockOf (code index : Nat) : Except Nat BlockId :=
  match code with
  | 1 => if index = 0 then .ok .classTable else .error 1
  | 2 => if h : index < 24 then .ok (.programme ⟨index, h⟩) else .error 1
  | 3 => if h : index < 7 then .ok (.tariff ⟨index, h⟩) else .error 1
  | 4 => if index = 0 then .ok .settings else .error 1
  | _ => .error 0

/-- The digest of a block: the check over its section code, index and content (R53). -/
def blockDigest (code index : Byte) (content : BlockContent) : BitVec 16 :=
  crc ([code, index] ++ content.toList)

/-! ### Commit checks (R55) -/

/-- The in-use range of a phase (03 Table 2-3). -/
def PhaseTerms.inUse (ph : PhaseTerms) : Bool :=
  ph.kind ≠ .unused && 1 ≤ ph.dose && ph.dose ≤ 4000 && 10 ≤ ph.limit && ph.limit ≤ 1800

/-- The first phase of a programme outside its in-use range. -/
def Bank.badPhase (b : Bank) (p : Nat) : Option Nat :=
  (List.range (b.phaseCount p)).findSome? fun i => if (b.phase p (i + 1)).inUse then none else some (i + 1)

/-- The checks of one programme, in the order of 03 Table 3-1. -/
def Bank.programmeFailure (b : Bank) (p : Nat) : Option CommitFailure :=
  if b.phaseCount p = 0 then
    if (List.range 6).all fun c => b.basePrice p (c + 1) = 0 then none else some (.priceUndefined p)
  else
    match b.badPhase p with
    | some k => some (.phaseRange p k)
    | none => if ((b.phases p).map (·.weight)).sum = 1000 then none else some (.weightSum p)

/-- The first commit check that fails (R55). -/
def Bank.commitFailure (b : Bank) : Option CommitFailure :=
  match (List.range 12).findSome? fun i => b.programmeFailure (i + 1) with
  | some f => some f
  | none => if b.qLow < b.qHigh ∧ b.qHigh ≤ b.qDump then none else some .thresholds

/-- The generation after a commit (R45). -/
def nextGeneration (g : Nat) : Nat :=
  if g = 255 then 1 else g + 1

/-! ### Defaults (R45) -/

/-- A block whose first bytes are given and whose others are 00h. -/
def blockFrom (l : List Byte) : BlockContent :=
  bytesAt 48 l 0

/-- The default Class Table (03 Table 2-2). -/
def defaultClassTable : BlockContent :=
  blockFrom (be 1 2 ++ be 2 800 ++ be 1 3 ++ be 2 1100 ++ be 1 4 ++ be 2 1300 ++ be 1 5 ++ be 2 1700 ++
    be 1 6 ++ be 2 1900 ++ be 1 9 ++ be 2 2600)

/-- The default Depot Settings (03 Table 2-4). -/
def defaultSettings : BlockContent :=
  blockFrom (be 2 400 ++ be 1 30 ++ be 1 2 ++ be 1 20 ++ be 1 6 ++ be 1 6 ++ be 1 6 ++ be 1 6 ++ be 1 3 ++ be 1 3 ++
    be 1 5 ++ be 2 180 ++ be 2 120 ++ be 2 120 ++ be 1 45 ++ be 1 30 ++ be 2 4096 ++ be 2 600 ++ be 2 1400 ++
    be 2 2200 ++ be 2 900 ++ be 1 5)

/-- The bank a cold start loads: no programme defined, every price and rate 0 (R45). -/
def defaultBank : Bank :=
  { classTable := defaultClassTable, programmes := Vector.replicate 24 zeroBlock,
    tariff := Vector.replicate 7 zeroBlock, settings := defaultSettings }

end Sys2Proof.Machine
end

