-- ==== Sys2Proof/Machine/Factory.lean ====
section
/-! DEFINITION. The value each block's state takes at a reset, and the factory state a cold start loads (12 Table 2-1 and
the rules it names). -/

namespace Sys2Proof.Machine

/-- Day 0, second 0 (R165). -/
def zeroTime : DepotTime := { day := 0, secs := 0, cs := 0 }

/-- The Lane Unit after any reset (R3): ARMED with an empty record, flag OFF, nothing collected. -/
def laneReset : Lane :=
  { meas := none, occupied := false, windows := [], reads := [], frame := none, frameAt := 0 }

/-- A blank sign message: status a space and three lines of spaces, with its start and check bytes (R75). -/
def blankSign : List Byte :=
  [0x5A] ++ List.replicate 16 0x20 ++ [xorAll (List.replicate 16 0x20)]

/-- The Dispatcher after any reset (R58), the sign port sending a blank message (R75). -/
def dispatcherReset (now : Nat) : Dispatcher :=
  { lastHaulier := none, run := 0, mark := false, lines := [], status := .closed,
    sending := some { bytes := blankSign, began := now }, again := false }

/-- A bay that holds nothing: CLOSED, outputs low and closed, timers stopped, counters 0 (R76). -/
def bayClosed : BayUnit :=
  { state := .closed, record := none, dose := 0, runOn := 0, spilled := false, settle := none, call := none,
    limit := none, wait := none, runOnTimer := none, exit := none, pumpPos := 0, pumpDuty := 0, supply := false,
    blend := 0 }

/-- The factory state of the Resource Table (06 Tables 1-1 and 1-2). -/
def waterFactory : Resources :=
  { fresh := 0, overdraw := 0, bayOpen := 0, owner := none, preload := 0, waits := [] }

/-- A tank after a cold start, before it enters its state: FILLING, no Q values, every valve closed (R112). -/
def tankFactory : TankUnit :=
  { state := .filling, qSalt := none, qTurb := none, share := none, settleTimer := none, settleLeft := none,
    resampleTimer := none, salt := .notAwaited, turb := .notAwaited, fault := none, inlet := false, dump := false,
    outlet := false }

/-- The Probe Converter after any reset (R126), its N_ref 0 and its SATURATED flag clear (log 7). -/
def converterReset : Converter :=
  { phase := .idle, requests := [], nRef := 0, up := 0, time := 0, saturated := false }

/-- Five totals of 0. -/
def zeroTotals : Totals :=
  { charges := 0, amount := 0, fresh := 0, reclaim := 0, overdraw := 0 }

/-- A FREE page (R145). -/
def freePage : JournalPage :=
  { state := .free, hold := false, records := [] }

/-- An export cursor as every reset leaves it (R153). -/
def cursorAbsent : Cursor :=
  { place := .absent, lost := false }

/-- The Charge Journal after a cold start (R144): page 0 OPEN and empty, the others FREE. -/
def journalFactory : Journal :=
  { pages := putAt (Vector.replicate 64 freePage) 0 { state := .opened, hold := false, records := [] }, newest := 0,
    nextSeq := 0, reserved := 0, pendingClose := none, balances := Vector.replicate 64 0,
    cursors := { p1 := cursorAbsent, p2 := cursorAbsent }, tagging := .untagged, walk := none, lowArmed := true }

/-- The Depot Clock after a cold start (10 Table 1-1). -/
def clockFactory : Clock :=
  { time := zeroTime, sub := 0, billingDay := 0, lastClosed := 0, acc := zeroTotals }

/-- The Haulier Table after a cold start (R39): entry 0 OPEN, the others CLOSED, every term 0. -/
def hauliersFactory : Vector HaulierEntry 64 :=
  putAt (Vector.replicate 64 { state := .closed, discount := 0, limit := 0, quota := 0 }) 0
    { state := .opened, discount := 0, limit := 0, quota := 0 }

/-- The code of STARTED (11 Table 3-1), the one bit of the attention mask after a reset (R174). -/
def startedMask : BitVec 29 := 1#29 <<< 28

/-- A Link Interface after any reset (R174). -/
def linkReset : Link :=
  { rx := .hunt, rxAt := 0, held := none, reply := none, checkOn := true, latch := Vector.replicate 29 none,
    mask := startedMask, attention := false, resetAfter := none }

/-- No section's check word valid, as after a clearing of the store (R187). -/
def noChecks : StoreChecks :=
  { terms := false, hauliers := false, register := false, water := false, journal := false, clock := false,
    tanks := false, records := false, counter := false }

/-- Every section's check word valid. -/
def allChecks : StoreChecks :=
  { terms := true, hauliers := true, register := true, water := true, journal := true, clock := true,
    tanks := true, records := true, counter := true }

end Sys2Proof.Machine
end

