-- ==== Sys2Proof/Machine/State.lean ====
section
/-! DEFINITION. The state of the part, whole, as plain data; the reasons a step could stop; the state after reset. -/

namespace Sys2Proof.Machine

/-- Why the machine stops with a fault: never. The spec gives every command an effect or says it has none, so there is
no constructor; what the spec calls FAULT is a bay's state and what it calls a converter fault is an outcome. -/
inductive Fault where
deriving DecidableEq, Repr

/-- Why a command is refused a meaning. -/
inductive Refusal where
  /-- Raised by an arm of `exec` whose command has no meaning yet, by its mnemonic; no arm does now. Safe: it stops. -/
  | notModelled (mnemonic : String)
deriving DecidableEq, Repr

/-- The state of the DW6 (INVENTORY.md, State): the queue of waiting commands, the timebase, the part's progress, the
levels of its lines, and the state of every block (00 Table 3-1). -/
@[ext]
structure State where
  /-- Commands waiting, first in first out. -/
  pending : List Instr
  /-- Count of 10 us ticks of the 100 kHz timebase (log 4). -/
  timebase : Nat
  part : Part
  lines : Lines
  lane : Lane
  /-- The Arrival Queue, oldest first (R20). -/
  queue : List Visit
  /-- The next-number counter (R21). -/
  nextVisit : Nat
  /-- The Vehicle Register (R31). -/
  register : List VehicleEntry
  /-- The Haulier Table (R39). -/
  hauliers : Vector HaulierEntry 64
  /-- The ACTIVE bank (R45). -/
  active : Bank
  /-- The terms generation (R45). -/
  generation : Nat
  /-- The staged load, if one is open (R51). -/
  staging : Option Staging
  disp : Dispatcher
  bays : PerBay BayUnit
  water : Resources
  tanks : PerTank TankUnit
  /-- The service tank (R112). -/
  service : Option Tank
  conv : Converter
  journal : Journal
  clock : Clock
  links : PerPort Link
  /-- Which sections of the Retained Store have a valid check word (R187). -/
  store : StoreChecks
deriving DecidableEq, Repr

/-- Right after the first power-on: a reset has been taken and start-up stands before its store check (R187), with no
section of the store valid (log 5). What a reset sets has the values of R3, R58, R76, R96, R112, R126, R144, R174; the
retained tables hold their factory values, which the cold start that follows loads again (R189). -/
def State.reset : State :=
  { pending := [], timebase := 0,
    part := { phase := .checking, startKind := .pending, cause := .powerOn, recovered := 0, walkFinished := false },
    lines := { presence := .all false, estop := .all false, supplyLow := false, low := ⟨false, false⟩,
               high := ⟨false, false⟩ },
    lane := laneReset, queue := [], nextVisit := 1, register := [], hauliers := hauliersFactory, active := defaultBank,
    generation := 0, staging := none, disp := dispatcherReset 0, bays := .all bayClosed, water := waterFactory,
    tanks := ⟨tankFactory, tankFactory⟩, service := none, conv := converterReset, journal := journalFactory,
    clock := clockFactory, links := ⟨linkReset, linkReset⟩, store := noChecks }

end Sys2Proof.Machine
end

