-- ==== Sys2Proof/Machine/Ops.lean ====
section
/-! DEFINITION. The named updates of State that every block's rules are written with: one block, bay, tank, port or
work record changed and the rest kept; the lane time; the pass-request notice. What each leaves alone stands in
Laws/State.lean. -/

namespace Sys2Proof.Machine

/-- Lane time: milliseconds of the part's own timebase (R4). -/
def State.laneTime (s : State) : Nat :=
  s.timebase / Config.ticksPerMs

/-- Start-up has ended and main power is present: the blocks take their events (R188, R193). -/
def State.running (s : State) : Bool :=
  s.part.phase == .running

/-- Start-up is in progress (R176, R188). -/
def State.startingUp (s : State) : Bool :=
  s.part.phase == .checking || s.part.phase == .starting

/-- The lane time at which a timer started now for some milliseconds expires. -/
def State.afterMs (s : State) (ms : Nat) : Nat :=
  s.laneTime + ms

/-- The lane time at which a timer started now for some seconds expires. -/
def State.afterSeconds (s : State) (seconds : Nat) : Nat :=
  s.laneTime + 1000 * seconds

/-- The lane time at which a timer started now for some minutes expires. -/
def State.afterMinutes (s : State) (minutes : Nat) : Nat :=
  s.laneTime + 60000 * minutes

/-- Update the Lane Unit. -/
def State.modLane (s : State) (f : Lane → Lane) : State :=
  { s with lane := f s.lane }

/-- Update the measurement in progress, if there is one. -/
def State.modMeas (s : State) (f : Measurement → Measurement) : State :=
  { s with lane := { s.lane with meas := s.lane.meas.map f } }

/-- Update the Dispatcher. -/
def State.modDisp (s : State) (f : Dispatcher → Dispatcher) : State :=
  { s with disp := f s.disp }

/-- Set the pass-request mark: any notice of R59. -/
def State.requestPass (s : State) : State :=
  { s with disp := { s.disp with mark := true } }

/-- Update the Resource Table. -/
def State.modWater (s : State) (f : Resources → Resources) : State :=
  { s with water := f s.water }

/-- Update one bay. -/
def State.modBay (s : State) (b : Bay) (f : BayUnit → BayUnit) : State :=
  { s with bays := s.bays.set b (f (s.bays.get b)) }

/-- Update the work record of one bay, if it holds one. -/
def State.modRecord (s : State) (b : Bay) (f : WorkRecord → WorkRecord) : State :=
  s.modBay b fun u => { u with record := u.record.map f }

/-- Update one tank. -/
def State.modTank (s : State) (t : Tank) (f : TankUnit → TankUnit) : State :=
  { s with tanks := s.tanks.set t (f (s.tanks.get t)) }

/-- Update the Probe Converter. -/
def State.modConv (s : State) (f : Converter → Converter) : State :=
  { s with conv := f s.conv }

/-- Update the Charge Journal. -/
def State.modJournal (s : State) (f : Journal → Journal) : State :=
  { s with journal := f s.journal }

/-- Update the Depot Clock. -/
def State.modClock (s : State) (f : Clock → Clock) : State :=
  { s with clock := f s.clock }

/-- Update one Link Interface. -/
def State.modLink (s : State) (p : Port) (f : Link → Link) : State :=
  { s with links := s.links.set p (f (s.links.get p)) }

/-- Update the levels of the lines. -/
def State.modLines (s : State) (f : Lines → Lines) : State :=
  { s with lines := f s.lines }

/-- The work record of a bay. -/
def State.record (s : State) (b : Bay) : Option WorkRecord :=
  (s.bays.get b).record

/-- The sub-state of a bay: its record's while it is WASHING, none outside (R76). -/
def State.subState (s : State) (b : Bay) : SubState :=
  if (s.bays.get b).state = .washing then
    match s.record b with
    | some r => r.sub
    | none => .outside
  else .outside

/-- The number of the visit that a bay's work record holds. -/
def State.recordVisit (s : State) (b : Bay) : Option Nat :=
  match s.record b with
  | some r => r.visit.map (·.number)
  | none => none

/-- The current phase's place in the phase list, from 0. -/
def WorkRecord.place (r : WorkRecord) : Nat :=
  r.phase - 1

/-- The terms of the current phase. -/
def WorkRecord.phaseTerms (r : WorkRecord) : Option PhaseTerms :=
  r.terms.phases[r.place]?

/-- The entry of the current phase. -/
def WorkRecord.entry (r : WorkRecord) : Option PhaseEntry :=
  r.entries[r.place]?

/-- Update the entry of the current phase. -/
def WorkRecord.modEntry (r : WorkRecord) (f : PhaseEntry → PhaseEntry) : WorkRecord :=
  { r with entries := r.entries.modify r.place f }

/-- The number of the visit a record holds; 0 is not a visit number. -/
def WorkRecord.visitNumber (r : WorkRecord) : Nat :=
  match r.visit with
  | some v => v.number
  | none => 0

/-- The BAY_OPEN bit of a bay (06 Table 1-1). -/
def State.bayIsOpen (s : State) (b : Bay) : Bool :=
  s.water.bayOpen.getLsbD (bayBit b)

end Sys2Proof.Machine
end

