-- ==== Sys2Proof/Machine/Flags.lean ====
section
/-! DEFINITION. The part's flags: the event latch of each port with its counts and occurrences (R180), the attention
lines (R182), and the encoding of each kind's instance record, its fields in the order its rule names them (R186). -/

namespace Sys2Proof.Machine

/-- The kind of an occurrence. -/
def Event.kind : Event → EventKind
  | .arrivalRefused .. => .arrivalRefused
  | .backout .. => .backout
  | .tailgate .. => .tailgate
  | .loopStuck .. => .loopStuck
  | .tagStray .. => .tagStray
  | .tagConflict .. => .tagConflict
  | .visitHeld .. => .visitHeld
  | .callExpired .. => .callExpired
  | .visitDropped .. => .visitDropped
  | .intrusion .. => .intrusion
  | .exitOverstay .. => .exitOverstay
  | .bayFault .. => .bayFault
  | .washDone .. => .washDone
  | .washAborted .. => .washAborted
  | .waterWait .. => .waterWait
  | .phaseSkipped .. => .phaseSkipped
  | .reclaimLost .. => .reclaimLost
  | .meterSpill .. => .meterSpill
  | .loadShed .. => .loadShed
  | .overdraw .. => .overdraw
  | .tankChange .. => .tankChange
  | .probeFault .. => .probeFault
  | .spotResult .. => .spotResult
  | .journalLow .. => .journalLow
  | .releaseDone .. => .releaseDone
  | .dayClosed .. => .dayClosed
  | .dayCloseDeferred .. => .dayCloseDeferred
  | .clockStep .. => .clockStep
  | .started .. => .started

/-- The code of a kind, 0 to 28 (11 Table 3-1); it is the kind's bit in the attention mask. -/
def EventKind.code : EventKind → Fin 29
  | .arrivalRefused => 0
  | .backout => 1
  | .tailgate => 2
  | .loopStuck => 3
  | .tagStray => 4
  | .tagConflict => 5
  | .visitHeld => 6
  | .callExpired => 7
  | .visitDropped => 8
  | .intrusion => 9
  | .exitOverstay => 10
  | .bayFault => 11
  | .washDone => 12
  | .washAborted => 13
  | .waterWait => 14
  | .phaseSkipped => 15
  | .reclaimLost => 16
  | .meterSpill => 17
  | .loadShed => 18
  | .overdraw => 19
  | .tankChange => 20
  | .probeFault => 21
  | .spotResult => 22
  | .journalLow => 23
  | .releaseDone => 24
  | .dayClosed => 25
  | .dayCloseDeferred => 26
  | .clockStep => 27
  | .started => 28

/-- The entry a port's latch holds for a kind, if its flag is set (R174). -/
def Link.latched (l : Link) (k : EventKind) : Option LatchEntry :=
  l.latch[k.code]

/-- At least one kind latched on the port has its bit set in the port's mask (R182). -/
def Link.wantsAttention (l : Link) : Bool :=
  (List.finRange 29).any fun i => l.latch[i].isSome && l.mask.getLsbD i.val

/-- The attention line follows the latch and the mask (R182). -/
def Link.follow (l : Link) : Link :=
  { l with attention := l.wantsAttention }

/-- The latch entry of a kind after one more occurrence (R180). -/
def latchAgain (old : Option LatchEntry) (time : DepotTime) (e : Event) : LatchEntry :=
  match old with
  | none => { count := 1, time := time, event := e }
  | some o => { count := min 255 (o.count + 1), time := time, event := e }

/-- An occurrence latched on one port (R180). -/
def Link.latchEvent (l : Link) (time : DepotTime) (e : Event) : Link :=
  let i := e.kind.code
  Link.follow { l with latch := putAt l.latch i (some (latchAgain l.latch[i] time e)) }

/-- An event is latched: on both ports at once, whatever the masks, with the depot time of the latching (R180). -/
def State.latch (s : State) (e : Event) : State :=
  { s with links := s.links.map fun l => l.latchEvent s.clock.time e }

/-! ### Encodings (R186) -/

/-- A depot time: the day in 2 bytes, then seconds × 100 + centiseconds in 3. -/
def timeBytes (t : DepotTime) : List Byte :=
  be 2 t.day ++ be 3 (t.secs * 100 + t.cs)

/-- A presence byte: bit n set when the n-th optional field is present. -/
def presence (l : List Bool) : List Byte :=
  be 1 (flagByte l)

/-- An optional unsigned integer in `k` bytes, 0 when absent. -/
def optBytes (k : Nat) (o : Option Nat) : List Byte :=
  be k (o.getD 0)

/-- An optional tank: FFh for none. -/
def tankByte : Option Tank → List Byte
  | some t => be 1 (tankCode t)
  | none => [0xFF]

/-- An optional bay: FFh for none. -/
def bayByte : Option Bay → List Byte
  | some b => be 1 (bayNumber b)
  | none => [0xFF]

/-- A tag ID in 5 bytes, 0 for none. -/
def tagBytes : Option TagId → List Byte
  | some t => be 5 t.toNat
  | none => be 5 0

/-- A plate in 10 bytes, padded at the end with 00h, all 00h for none. -/
def plateBytes : Option Plate → List Byte
  | some p => (p ++ List.replicate (10 - p.length) 0).take 10
  | none => List.replicate 10 0

/-- The instance record of an occurrence: its fields in the order its rule names them (R186); SPOT-RESULT's requesting ports
are one byte of flags, and ARRIVAL-REFUSED always has its arrival time, its presence byte standing after it (log 20). -/
def Event.encode : Event → List Byte
  | .arrivalRefused t ax len c =>
    timeBytes t ++ presence [ax.isSome, len.isSome, c.isSome] ++ optBytes 1 ax ++ optBytes 2 len ++ optBytes 1 c
  | .backout v t ax => presence [v.isSome] ++ optBytes 2 v ++ timeBytes t ++ be 1 ax
  | .tailgate m n => presence [m.isSome, n.isSome] ++ optBytes 2 m ++ optBytes 2 n
  | .loopStuck v ax => presence [v.isSome] ++ optBytes 2 v ++ be 1 ax
  | .tagStray id t => be 5 id.toNat ++ timeBytes t
  | .tagConflict v id c o => be 2 v ++ be 5 id.toNat ++ be 1 c.ctorIdx ++ presence [o.isSome] ++ optBytes 2 o
  | .visitHeld v i h => be 2 v ++ be 1 i.ctorIdx ++ be 1 h.ctorIdx
  | .callExpired v b n => be 2 v ++ be 1 (bayNumber b) ++ be 1 n
  | .visitDropped v b h t p =>
    be 2 v ++ be 1 (bayNumber b) ++ presence [h.isSome, t.isSome, p.isSome] ++ optBytes 1 (h.map (·.val)) ++
      tagBytes t ++ plateBytes p
  | .intrusion b t => be 1 (bayNumber b) ++ timeBytes t
  | .exitOverstay b v => be 1 (bayNumber b) ++ be 2 v
  | .bayFault b st v => be 1 (bayNumber b) ++ be 1 st.ctorIdx ++ presence [v.isSome] ++ optBytes 2 v
  | .washDone v b h q a => be 2 v ++ be 1 (bayNumber b) ++ be 1 h.val ++ be 3 q.toNat ++ be 3 a
  | .washAborted v b h q a m k =>
    be 2 v ++ be 1 (bayNumber b) ++ be 1 h.val ++ be 3 q.toNat ++ be 3 a ++ be 1 m.ctorIdx ++ be 1 k
  | .waterWait b v k e => be 1 (bayNumber b) ++ be 2 v ++ be 1 k ++ be 2 e
  | .phaseSkipped b v k => be 1 (bayNumber b) ++ be 2 v ++ be 1 k
  | .reclaimLost b v k t lb => be 1 (bayNumber b) ++ be 2 v ++ be 1 k ++ be 1 (tankCode t) ++ be 2 lb
  | .meterSpill b v k => be 1 (bayNumber b) ++ be 2 v ++ be 1 k
  | .loadShed n => be 1 n
  | .overdraw b v k sh o => be 1 (bayNumber b) ++ be 2 v ++ be 1 k ++ be 2 sh ++ be 3 o
  | .tankChange x y c r => tankByte x ++ tankByte y ++ be 1 c.ctorIdx ++ presence [r.isSome] ++ optBytes 2 r
  | .probeFault t st f g =>
    be 1 (tankCode t) ++ be 1 st.ctorIdx ++ be 1 (probeCode f.probe) ++ be 1 f.outcome.ctorIdx ++
      be 1 (probeCode g.probe) ++ be 1 g.outcome.ctorIdx
  | .spotResult p o n q sat r x y t =>
    be 1 (probeCode p) ++ be 1 o.ctorIdx ++ presence [n.isSome, q.isSome] ++ optBytes 2 n ++ optBytes 2 q ++
      yesNo sat ++ be 2 r ++ be 1 (flagByte [x, y]) ++ timeBytes t
  | .journalLow a r c h => be 2 a ++ be 1 r ++ be 1 c ++ be 1 h
  | .releaseDone f l r u h n a =>
    be 1 f.val ++ be 1 l.val ++ be 1 r ++ be 1 u ++ be 1 h ++ be 1 n ++ be 2 a
  | .dayClosed q f l a => be 3 q.toNat ++ be 2 f ++ be 2 l ++ be 4 a
  | .dayCloseDeferred f l a r => be 2 f ++ be 2 l ++ be 2 a ++ be 1 r
  | .clockStep p t u d => be 1 (portNumber p) ++ timeBytes t ++ timeBytes u ++ signedBytes d
  | .started k c n w r p => be 1 k.ctorIdx ++ be 1 c.ctorIdx ++ be 1 n ++ yesNo w ++ yesNo r ++ yesNo p

end Sys2Proof.Machine
end

