-- ==== Sys2Proof/Machine/Operands.lean ====
section
/-! DEFINITION. The operand forms of the host requests: how a field of a request is read (in range, absent or
malformed) by R186 and the request's rule, and the replies that answer them (R178). -/

namespace Sys2Proof.Machine

/-- A character a plate may hold: A to Z, 0 to 9 or a hyphen (02 Table 1-1 Note 1). -/
def isPlateChar (c : Byte) : Bool :=
  (0x41 ≤ c.toNat && c.toNat ≤ 0x5A) || (0x30 ≤ c.toNat && c.toNat ≤ 0x39) || c.toNat = 0x2D

/-- A plate field: malformed, or absent (all 00h), or the plate it holds, padded at its end with 00h (R186). -/
def plateOf (v : PlateField) : Option (Option Plate) :=
  let body := v.toList.takeWhile (· ≠ 0)
  let rest := v.toList.dropWhile (· ≠ 0)
  if !body.all isPlateChar || !rest.all (· == 0) then none
  else if body.isEmpty then some none
  else some (some body)

/-- A programme number within 1 to 12. -/
def programmeOf (n : Nat) : Option Nat :=
  if 1 ≤ n ∧ n ≤ 12 then some n else none

/-- A class within 1 to 6. -/
def classOf (n : Nat) : Option Nat :=
  if 1 ≤ n ∧ n ≤ 6 then some n else none

/-- An optional field: 0 is absent, and a value out of range is malformed (R186). -/
def optionalOf (f : Nat → Option Nat) (n : Nat) : Option (Option Nat) :=
  if n = 0 then some none else (f n).map some

/-- A yes-or-no item: 0 or 1 (R186). -/
def yesNoOf (n : Nat) : Option Bool :=
  match n with
  | 0 => some false
  | 1 => some true
  | _ => none

/-- The account state a HAULIER PUT may name: OPEN or ON-STOP (R42). -/
def accountStateOf (n : Nat) : Option AccountState :=
  match n with
  | 0 => some .opened
  | 1 => some .onStop
  | _ => none

/-- The resource a code names (06 Table 1-1). -/
def resourceOf (n : Nat) : Option Resource :=
  match n with
  | 1 => some .freshRemain
  | 2 => some .overdraw
  | 3 => some .bayOpen
  | 4 => some .settleOwner
  | _ => none

/-- Upper bound of a resource (06 Table 1-1). -/
def resourceBound : Resource → Nat
  | .freshRemain => Config.maxLitres
  | .overdraw => Config.maxLitres
  | .bayOpen => 63
  | .settleOwner => 2

/-- ACCEPTED with a payload. -/
def accept (payload : List Byte) : Reply :=
  { code := .accepted, releaseReset := false, payload := payload }

/-- A code without payload. -/
def refuse (c : ReplyCode) : Reply :=
  { code := c, releaseReset := false, payload := [] }

/-- A code with what its rule names. -/
def answer (c : ReplyCode) (payload : List Byte) : Reply :=
  { code := c, releaseReset := false, payload := payload }

end Sys2Proof.Machine
end

