-- ==== Sys2Proof/Machine/JournalOps.lean ====
section
/-! DEFINITION. What the Charge Journal does for other blocks (chapter 09): its ring of pages and counts, appends,
reservations, day closes, balances, and the release walk with its reclaim pass. -/

namespace Sys2Proof.Machine

/-- The OPEN page, if there is one: it is the newest page (R145). -/
def Journal.openPage (j : Journal) : Option PageNo :=
  if j.pages[j.newest].state = .opened then some j.newest else none

/-- How many pages are in a state. -/
def Journal.countState (j : Journal) (st : PageState) : Nat :=
  j.pages.toList.countP fun p => p.state == st

/-- How many pages are held. -/
def Journal.heldPages (j : Journal) : Nat :=
  j.pages.toList.countP (·.hold)

/-- Unused slots of the OPEN page. -/
def Journal.openSlots (j : Journal) : Nat :=
  match j.openPage with
  | some p => Config.pageSlots - j.pages[p].records.length
  | none => 0

/-- The available count: unused slots of the OPEN page plus 16 for each FREE page (R146). -/
def Journal.available (j : Journal) : Nat :=
  j.openSlots + Config.pageSlots * j.countState .free

/-- The pages from the one after the newest round to the newest itself. -/
def Journal.ring (j : Journal) : List PageNo :=
  (List.finRange 64).map fun i => j.newest + 1 + i

/-- The oldest page: the first of the non-FREE run (R145). -/
def Journal.oldest (j : Journal) : PageNo :=
  (j.ring.find? fun p => j.pages[p].state ≠ .free).getD j.newest

/-- The journal may take a call (R65 conditions 2 and 3). -/
def Journal.takesCall (j : Journal) : Bool :=
  j.reserved + 2 ≤ j.available && j.pendingClose.isNone

/-- A cursor at the ring end moves to slot 0 of the page that opens (R155). -/
def Cursor.toOpened (c : Cursor) (p : PageNo) : Cursor :=
  if c.place = .ringEnd then { c with place := .slot p 0 } else c

/-- A page becomes OPEN and is then the newest (R145, R155). -/
def Journal.becomeOpen (j : Journal) (p : PageNo) : Journal :=
  { j with pages := putAt j.pages p { j.pages[p] with state := .opened }, newest := p,
           cursors := j.cursors.map (·.toOpened p) }

/-- The OPEN page after its 16th slot: CLOSED, and the next page of the ring OPEN if it is FREE (R145). -/
def Journal.closeFull (j : Journal) (p : PageNo) : Journal :=
  if j.pages[p].records.length = Config.pageSlots then
    let j' : Journal := { j with pages := putAt j.pages p { j.pages[p] with state := .closed } }
    if j'.pages[p + 1].state = .free then j'.becomeOpen (p + 1) else j'
  else j

/-- A record takes the next sequence number and the next unused slot of the OPEN page (R148). Without an OPEN page,
which no run brings about, nothing is appended (log 30). -/
def Journal.append (j : Journal) (mk : BitVec 24 → Record) : Journal :=
  match j.openPage with
  | none => j
  | some p =>
    let page := j.pages[p]
    Journal.closeFull
      { j with pages := putAt j.pages p { page with records := page.records ++ [mk j.nextSeq] },
               nextSeq := j.nextSeq + 1 } p

/-- The amounts of a haulier's CHARGE records in a list (R150). -/
def amountsOf (h : Haulier) (l : List Record) : Nat :=
  (l.map fun r =>
    match r with
    | .charge _ c => if c.haulier = h then c.amount else 0
    | .dayClose _ _ => 0).sum

/-- The amounts of a haulier on pages that are neither RELEASED nor FREE (R41, R150). -/
def Journal.owed (j : Journal) (h : Haulier) : Nat :=
  (j.pages.toList.map fun p =>
    if p.state = .released ∨ p.state = .free then 0 else amountsOf h p.records).sum

/-- The balances recomputed from the records (R192). -/
def Journal.recomputeBalances (j : Journal) : Journal :=
  { j with balances := Vector.ofFn fun h => j.owed h }

/-! ### Counts, JOURNAL-LOW, reservations -/

/-- JOURNAL-LOW judged by the margin after a change of either count (R147), the first change after start-up too (log 44).
The comparison is made once start-up has ended (log 14). -/
def State.judgeLow (s : State) : State :=
  if !s.running then s
  else if s.journal.available < s.journal.reserved + Config.lowMargin then
    if s.journal.lowArmed then
      (s.modJournal fun j => { j with lowArmed := false }).latch
        (.journalLow s.journal.available s.journal.reserved (s.journal.countState .closed) s.journal.heldPages)
    else s
  else s.modJournal fun j => { j with lowArmed := true }

/-- A reserve notice (R146). -/
def State.reserve (s : State) : State :=
  (s.modJournal fun j => { j with reserved := j.reserved + 1 }).judgeLow

/-- A DAY-CLOSE record appended and DAY-CLOSED latched (R151). -/
def State.appendDayClose (s : State) (d : DayClose) : State :=
  ((s.modJournal fun j => j.append fun q => .dayClose q d).latch
    (.dayClosed s.journal.nextSeq d.first d.last d.totals.amount)).judgeLow

/-- The journal has room for a DAY-CLOSE (R151). -/
def Journal.hasRoomForClose (j : Journal) : Bool :=
  j.reserved + 1 ≤ j.available

/-- A pending DAY-CLOSE is written as soon as there is room (R152). -/
def State.writePendingClose (s : State) : State :=
  match s.journal.pendingClose with
  | none => s
  | some d =>
    if s.journal.hasRoomForClose then
      ((s.appendDayClose d).modJournal fun j => { j with pendingClose := none }).requestPass
    else s

/-- A reservation drop: the reserved count falls, and a pending DAY-CLOSE is written if that makes room (R146, R152). -/
def State.dropReservation (s : State) : State :=
  (s.modJournal fun j => { j with reserved := j.reserved - 1 }).judgeLow.writePendingClose

/-- Totals added, each saturating at 4,294,967,295 (R152, R172). -/
def Totals.plus (a b : Totals) : Totals :=
  { charges := satAdd Config.maxTotal a.charges b.charges, amount := satAdd Config.maxTotal a.amount b.amount,
    fresh := satAdd Config.maxTotal a.fresh b.fresh, reclaim := satAdd Config.maxTotal a.reclaim b.reclaim,
    overdraw := satAdd Config.maxTotal a.overdraw b.overdraw }

/-- The DAY-CLOSE that is made pending, latched as DAY-CLOSE-DEFERRED (R151, R152). -/
def State.deferClose (s : State) (d : DayClose) : State :=
  (s.modJournal fun j => { j with pendingClose := some d }).latch
    (.dayCloseDeferred d.first d.last s.journal.available s.journal.reserved)

/-- A DAY-CLOSE notice: written, made pending, or merged into the pending one (R151, R152). -/
def State.dayCloseNotice (s : State) (d : DayClose) : State :=
  match s.journal.pendingClose with
  | some old => s.deferClose { first := old.first, last := d.last, totals := old.totals.plus d.totals }
  | none => if s.journal.hasRoomForClose then s.appendDayClose d else s.deferClose d

/-- A charge notice to the Depot Clock (R149, R172). -/
def State.noteCharge (s : State) (c : Charge) : State :=
  let d : Totals :=
    { charges := 1, amount := c.amount, fresh := c.fresh, reclaim := c.litres - c.fresh, overdraw := 0 }
  s.modClock fun k => { k with acc := k.acc.plus d }

/-- A CHARGE append (R149): the record, the reservation consumed, the balance raised, the charge notice given. -/
def State.appendCharge (s : State) (c : Charge) : State :=
  ((s.modJournal fun j =>
      let j' := j.append fun q => .charge q c
      { j' with reserved := j.reserved - 1,
                balances := putAt j.balances c.haulier (j.balances[c.haulier] + c.amount) }).noteCharge c).judgeLow

/-! ### Release walk -/

/-- A cursor that stands on a page being freed takes the lost mark (R155). -/
def Cursor.loseOn (c : Cursor) (p : PageNo) : Cursor :=
  match c.place with
  | .slot q _ => if q = p then { c with lost := true } else c
  | _ => c

/-- A RELEASED page is freed; it becomes OPEN at once if it is the page that opens next (R145, R155, R162). -/
def Journal.freeOne (j : Journal) (p : PageNo) : Journal :=
  let j' : Journal := { j with pages := putAt j.pages p freePage, cursors := j.cursors.map (·.loseOn p) }
  if j.openPage = none ∧ p = j.newest + 1 then j'.becomeOpen p else j'

/-- The reclaim pass from a page on, over at most so many pages: the journal after it and how many pages it freed
(R162). -/
def Journal.reclaim : Nat → PageNo → Journal → Journal × Nat
  | 0, _, j => (j, 0)
  | n + 1, p, j =>
    if j.pages[p].state = .released then
      let r := Journal.reclaim n (p + 1) (j.freeOne p)
      (r.1, r.2 + 1)
    else (j, 0)

/-- The balances after the amounts on a page have left them (R150, R160). -/
def Journal.dropAmounts (j : Journal) (l : List Record) : Vector Nat 64 :=
  Vector.ofFn fun h => j.balances[h] - amountsOf h l

/-- The walk judges a page (R160). -/
def Journal.judgePage (j : Journal) (w : Walk) : Journal × Walk :=
  let page := j.pages[w.next]
  if page.hold then (j, { w with held := w.held + 1 })
  else
    match page.state with
    | .closed => (j, { w with unread := w.unread + 1 })
    | .read =>
      ({ j with pages := putAt j.pages w.next { page with state := .released }, balances := j.dropAmounts page.records },
        { w with released := w.released + 1 })
    | _ => (j, w)

/-- What follows the judgement of a page: the next page to judge, or the walk's end after the last (R160, R162). -/
def Journal.walkOn (j : Journal) (w : Walk) : Journal :=
  let r := j.judgePage w
  if w.next = w.last then { r.1 with walk := none } else { r.1 with walk := some { r.2 with next := w.next + 1 } }

/-- The walk's counts after it has judged its next page. -/
def Journal.walkCounts (j : Journal) (w : Walk) : Walk :=
  (j.judgePage w).2

/-- The journal a reclaim pass leaves, with how many pages it freed. A page freed changes the available count, and
JOURNAL-LOW is then judged, once for the whole pass (log 44); a pass that frees none changes no count (R147, R162). -/
def State.takeReclaim (s : State) (r : Journal × Nat) : State :=
  if r.2 = 0 then s.modJournal fun _ => r.1 else (s.modJournal fun _ => r.1).judgeLow

/-- The end of a release walk: the reclaim pass, the pending DAY-CLOSE if `writes` (not in start-up, R192), RELEASE-DONE,
and the pass-request notice (R162). -/
def State.endWalk (s : State) (w : Walk) (writes : Bool) : State :=
  let r := s.journal.reclaim 64 s.journal.oldest
  let s₁ := s.takeReclaim r
  let s₂ := if writes then s₁.writePendingClose else s₁
  (s₂.latch (.releaseDone w.first w.last w.released w.unread w.held r.2 r.1.available)).requestPass

/-- One step of a running walk: a page judged, and after the last page of the range the walk's end (R160, R162). -/
def State.walkStep (s : State) (w : Walk) (writes : Bool) : State :=
  let counts := s.journal.walkCounts w
  let s₁ := s.modJournal fun j => j.walkOn w
  if w.next = w.last then s₁.endWalk counts writes else s₁

/-- A walk run to its end, over at most so many pages (R192). -/
def State.finishWalk : Nat → State → State
  | 0, s => s
  | n + 1, s =>
    match s.journal.walk with
    | none => s
    | some w => State.finishWalk n (s.walkStep w false)

/-- How many pages a range holds, in ring order (R159). -/
def rangeLength (first last : PageNo) : Nat :=
  (last - first).val + 1

end Sys2Proof.Machine
end

