-- ==== Sys2Proof/Machine/Pricing.lean ====
section
/-! DEFINITION. The Pricing Unit (chapter 08): a bay work record priced into the contents of a CHARGE record. It reads
nothing but the record (R131). -/

namespace Sys2Proof.Machine

/-- Fresh litres of a phase: Lb × (256 − R_phase) ÷ 256 rounded up, plus Lf (R87). -/
def freshLitres (rPhase lb lf : Nat) : Nat :=
  divUp (lb * (256 - rPhase)) 256 + lf

/-- A phase that ran, in whole or in part: its entry counts for pricing (R132). -/
def PhaseStatus.ran : PhaseStatus → Bool
  | .done => true
  | .short => true
  | .aborted => true
  | .skipped => false
  | .notReached => false

/-- The entry as pricing takes it: a SKIPPED or NOT-REACHED entry with zeros and clear flags (R132). -/
def PhaseEntry.priced (e : PhaseEntry) : PhaseEntry :=
  if e.status.ran then e
  else { e with rPhase := 0, lb := 0, lf := 0, fk := 0, degraded := false, lost := false }

/-- Phase litres L_k (R132). -/
def PhaseEntry.litres (e : PhaseEntry) : Nat :=
  e.lb + e.lf

/-- Earned weight e_k of a phase (R133). -/
def earned (t : PhaseTerms) (e : PhaseEntry) : Nat :=
  match e.status with
  | .done => t.weight
  | .short => min t.weight (t.weight * e.litres / t.dose)
  | .aborted => min t.weight (t.weight * e.litres / t.dose)
  | .skipped => 0
  | .notReached => 0

/-- The phases of the snapshot, each with its entry as pricing takes it. -/
def WorkRecord.pricedPhases (r : WorkRecord) : List (PhaseTerms × PhaseEntry) :=
  (r.terms.phases.zip r.entries).map fun x => (x.1, x.2.priced)

/-- Earned weight W of the visit (R134). -/
def WorkRecord.weight (r : WorkRecord) : Nat :=
  (r.pricedPhases.map fun x => earned x.1 x.2).sum

/-- Total litres L (R135). -/
def WorkRecord.litres (r : WorkRecord) : Nat :=
  (r.pricedPhases.map fun x => x.2.litres).sum

/-- Fresh litres F (R135). -/
def WorkRecord.fresh (r : WorkRecord) : Nat :=
  (r.pricedPhases.map fun x => x.2.fk).sum

/-- Base part B: base price × W ÷ 1000, rounded half up (R136). -/
def basePart (basePrice weight : Nat) : Nat :=
  (basePrice * weight + 500) / 1000

/-- Water part S: rounded up once over the visit (R137). -/
def waterPart (fresh reclaimed freshRate reclaimRate : Nat) : Nat :=
  divUp (fresh * freshRate + reclaimed * reclaimRate) 100

/-- Discount part D, truncated (R138). -/
def discountPart (subtotal discount : Nat) : Nat :=
  subtotal * discount / 1000

/-- Base part of a record (R136). -/
def WorkRecord.base (r : WorkRecord) : Nat :=
  basePart r.terms.basePrice r.weight

/-- Water part of a record (R137). -/
def WorkRecord.water (r : WorkRecord) : Nat :=
  waterPart r.fresh (r.litres - r.fresh) r.terms.freshRate r.terms.reclaimRate

/-- Discount part of a record (R138). -/
def WorkRecord.discount (r : WorkRecord) : Nat :=
  discountPart (r.base + r.water) r.terms.discount

/-- The amount (R138). -/
def WorkRecord.amount (r : WorkRecord) : Nat :=
  r.base + r.water - r.discount

/-- The flags of the CHARGE record (R141). -/
def WorkRecord.flags (r : WorkRecord) (recovered : Bool) : ChargeFlags :=
  { aborted := r.abort ≠ .unmarked || recovered
    short := r.pricedPhases.any fun x => x.2.status == .short
    skipped := r.pricedPhases.any fun x => x.2.status == .skipped
    degraded := r.pricedPhases.any fun x => x.2.degraded
    lost := r.pricedPhases.any fun x => x.2.lost
    recovered := recovered }

/-- The CHARGE record of a work record (R142). A record priced has its visit and its times; where one is absent, which
no run brings about, its field is 0; so is a class that a hand-over after the call made absent (log 30). -/
def WorkRecord.price (r : WorkRecord) (b : Bay) (recovered : Bool) : Charge :=
  { visit := r.visitNumber
    haulier := (r.visit.bind (·.haulier)).getD 0
    bay := b
    programme := r.terms.programme
    cls := (r.visit.bind (·.cls)).getD 0
    generation := r.terms.generation
    axles := r.visit.bind (·.axles)
    length := r.visit.bind (·.length)
    tag := r.visit.bind (·.tags.head?)
    plate := r.visit.bind (·.plate)
    callTime := r.callTime
    startTime := r.startTime.getD zeroTime
    endTime := r.endTime.getD zeroTime
    litres := r.litres
    fresh := r.fresh
    weight := r.weight
    base := r.base
    water := r.water
    discount := r.discount
    amount := r.amount
    flags := r.flags recovered
    phases := r.pricedPhases.map fun x =>
      { kind := x.1.kind, status := x.2.status, rPhase := x.2.rPhase, lb := x.2.lb, lf := x.2.lf, fk := x.2.fk,
        degraded := x.2.degraded, lost := x.2.lost } }

end Sys2Proof.Machine
end

