-- ==== Sys2Proof/Machine/BayOps.lean ====
section
/-! DEFINITION. What bays and the Resource Table do together (chapters 05 and 06): RUN and its end, claims, grants,
first-fit, settlement, the charging step, and the moves between bay states. -/

namespace Sys2Proof.Machine

/-! ### RUN -/

/-- Effective duty of a phase: halved while SUPPLY-LOW is asserted (R94, R95). -/
def State.effectiveDuty (s : State) (duty : Nat) : Nat :=
  if s.lines.supplyLow then duty / 2 else duty

/-- The duty of the phase a bay is at, as effective now. -/
def State.bayDuty (s : State) (b : Bay) : Nat :=
  match (s.record b).bind (·.phaseTerms) with
  | some t => s.effectiveDuty t.duty
  | none => 0

/-- Dose counter preset: 65,536 less the dose (R83). -/
def dosePreset (dose : Nat) : BitVec 16 :=
  BitVec.ofNat 16 (65536 - dose)

/-- Entry into RUN (R83): the outputs and the time-limit timer of a bay for a phase at a reclaim share. -/
def BayUnit.run (u : BayUnit) (t : PhaseTerms) (share duty deadline : Nat) : BayUnit :=
  { u with dose := dosePreset t.dose, blend := share, supply := true, pumpPos := 0, pumpDuty := duty,
           limit := some deadline, wait := none,
           record := u.record.map fun r => { r with sub := .run } }

/-- A bay enters RUN of its current phase (R83). -/
def State.enterRun (s : State) (b : Bay) : State :=
  match s.record b with
  | none => s
  | some r =>
    match r.phaseTerms, r.entry with
    | some t, some e =>
      s.modBay b fun u => u.run t e.rPhase (s.effectiveDuty t.duty) (s.afterSeconds t.limit)
    | _, _ => s

/-- The end of RUN (R84): outputs low and closed, time limit stopped, status written, RUN-ON begun (R86). -/
def BayUnit.endRun (u : BayUnit) (st : PhaseStatus) (deadline : Nat) : BayUnit :=
  { u with supply := false, blend := 0, pumpPos := 0, pumpDuty := 0, limit := none, runOnTimer := some deadline,
           runOn := 0, spilled := false,
           record := u.record.map fun r => { r.modEntry (fun e => { e with status := st }) with sub := .runOn } }

/-- RUN ends at a bay with a status. -/
def State.endRun (s : State) (b : Bay) (st : PhaseStatus) : State :=
  s.modBay b fun u => u.endRun st (s.afterSeconds Config.runOnSeconds)

/-! ### Claims and the water-wait list -/

/-- The estimate E of a claim (R104). -/
def estimate (dose share : Nat) : Nat :=
  divUp (dose * (256 - share)) 256

/-- A grant (R81, R82, R106): FRESH_REMAIN falls by E, the outstanding claim becomes E, the bay goes to RUN. -/
def State.grant (s : State) (b : Bay) (e : Nat) : State :=
  ((s.modWater fun w => { w with fresh := w.fresh - e }).modRecord b fun r => { r with claim := e }).enterRun b

/-- A bay leaves the water-wait list without a grant; its timer stops (R82, R88, R106). -/
def State.withdraw (s : State) (b : Bay) : State :=
  (s.modWater fun w => { w with waits := w.waits.filter fun x => x.bay ≠ b }).modBay b fun u => { u with wait := none }

/-- A waiting entry is granted: it leaves the list, the timer stops and the bay takes its grant (R82, R106). -/
def State.grantWaiter (s : State) (x : WaitEntry) : State :=
  (s.withdraw x.bay).grant x.bay x.estimate

/-- The walk of a first-fit pass over entries, oldest first (R107). -/
def State.firstFitOver : List WaitEntry → State → State
  | [], s => s
  | x :: l, s =>
    if x.estimate ≤ s.water.fresh then State.firstFitOver l (s.grantWaiter x) else State.firstFitOver l s

/-- A first-fit pass (R107). -/
def State.firstFit (s : State) : State :=
  State.firstFitOver s.water.waits s

/-! ### Settlement -/

/-- An overdrawing settlement: FRESH_REMAIN 0, OVERDRAW raised, latched, and noted to the Depot Clock (R108, R109). -/
def State.overdrawBy (s : State) (b : Bay) (shortfall : Nat) : State :=
  let value := satAdd Config.maxLitres s.water.overdraw shortfall
  let d : Totals := { charges := 0, amount := 0, fresh := 0, reclaim := 0, overdraw := shortfall }
  let r := s.record b
  (((s.modWater fun w => { w with fresh := 0, overdraw := value }).latch
    (.overdraw b ((r.map (·.visitNumber)).getD 0) ((r.map (·.phase)).getD 0) shortfall value)).modClock
      fun k => { k with acc := k.acc.plus d })

/-- A settlement of a claim E against the fresh litres F used (R108); the outstanding claim becomes 0. -/
def State.settleClaim (s : State) (b : Bay) (e f : Nat) : State :=
  let s₀ := s.modRecord b fun r => { r with claim := 0 }
  if f < e then
    (s₀.modWater fun w => { w with fresh := satAdd Config.maxLitres w.fresh (e - f) }).firstFit
  else if f - e ≤ s.water.fresh then
    s₀.modWater fun w => { w with fresh := w.fresh - (f - e) }
  else s₀.overdrawBy b (f - e - s.water.fresh)

/-! ### CLAIM -/

/-- The tank a phase may claim from and its share: the service tank and the R it publishes, unless the source is
FRESH-ONLY or the tank's LOW switch is asserted (R81, R121). -/
def State.reclaimOffer (s : State) (src : WaterSource) : Option Tank × Nat :=
  match src, s.service with
  | .reclaimPreferred, some t =>
    if s.lines.low.get t then (none, 0) else (some t, (s.tanks.get t).share.getD 0)
  | _, _ => (none, 0)

/-- A bay enters CLAIM of phase `k`: R_phase and the claim tank are snapshotted (R81). -/
def State.enterClaim (s : State) (b : Bay) (k : Nat) : State :=
  s.modRecord b fun r =>
    match r.terms.phases[k - 1]? with
    | none => { r with phase := k, sub := .claim }
    | some t =>
      let offer := s.reclaimOffer t.source
      { r with phase := k, sub := .claim, claimTank := offer.1,
               entries := r.entries.modify (k - 1) fun e => { e with rPhase := offer.2 } }

/-! ### Moves between bay states -/

/-- A bay goes to IDLE, or to CLOSED if its BAY_OPEN bit is clear; IDLE gives the pass-request notice, and INTRUSION if
presence is asserted (R59, R71, R77). -/
def State.goIdle (s : State) (b : Bay) : State :=
  if s.bayIsOpen b then
    let s₁ := (s.modBay b fun u => { u with state := .idle }).requestPass
    if s.lines.presence.get b then s₁.latch (.intrusion b s.clock.time) else s₁
  else s.modBay b fun u => { u with state := .closed }

/-- An open notice (R77): a CLOSED bay whose bit is set, or an IDLE bay whose bit is clear, moves; no other does. -/
def State.openNotice (s : State) (b : Bay) : State :=
  match (s.bays.get b).state with
  | .closed => if s.bayIsOpen b then s.goIdle b else s
  | .idle => if s.bayIsOpen b then s else s.goIdle b
  | _ => s

/-- Open notices to the bays whose bit changed (R101), in ascending bay number (log 26). -/
def State.openNotices (s : State) (old : BitVec 6) : State :=
  allBays.foldl (fun s b => if old.getLsbD (bayBit b) = s.bayIsOpen b then s else s.openNotice b) s

/-- BAY_OPEN takes a value: if that changes it, the open notices and the Dispatcher's notice follow (R101). -/
def State.setBayOpen (s : State) (v : BitVec 6) : State :=
  if s.water.bayOpen = v then s
  else ((s.modWater fun w => { w with bayOpen := v }).openNotices s.water.bayOpen).requestPass

/-- A fault notice: the bay's BAY_OPEN bit is cleared (R89, R101). -/
def State.faultNotice (s : State) (b : Bay) : State :=
  s.setBayOpen (s.water.bayOpen &&& ~~~(1#6 <<< bayBit b))

/-- A bay's outputs low and closed, its timers stopped and its record gone, in a state. -/
def BayUnit.emptied (u : BayUnit) (st : BayState) : BayUnit :=
  { u with state := st, record := none, settle := none, call := none, limit := none, wait := none, runOnTimer := none,
           exit := none, pumpPos := 0, pumpDuty := 0, supply := false, blend := 0 }

/-- Entry into FAULT (R89): nothing is held, the fault notice is given, BAY-FAULT is latched with the state in which the
e-stop was taken and the visit the bay held. -/
def State.enterFault (s : State) (b : Bay) (st : BayState) : State :=
  ((s.modBay b fun u => u.emptied .fault).faultNotice b).latch (.bayFault b st (s.recordVisit b))

/-- A bay leaves EXIT: its record is cleared and it goes to IDLE or CLOSED (R92). -/
def State.leaveExit (s : State) (b : Bay) : State :=
  (s.modBay b fun u => { u with record := none, exit := none }).goIdle b

/-- Entry into EXIT (R92): straight on if presence is clear, otherwise the exit timer starts. -/
def State.enterExit (s : State) (b : Bay) : State :=
  let s₁ := s.modBay b fun u => { u with state := .exit }
  if s.lines.presence.get b then
    s₁.modBay b fun u => { u with exit := some (s.afterSeconds s.active.exitTimeout) }
  else s₁.leaveExit b

/-- The event of a charging step (R91). -/
def chargeEvent (r : WorkRecord) (c : Charge) (q : BitVec 24) : Event :=
  if r.abort = .unmarked then .washDone c.visit c.bay c.haulier q c.amount
  else .washAborted c.visit c.bay c.haulier q c.amount r.abort r.phase

/-- The charging step (R91): end time, price, append, charge sequence, and WASH-DONE or WASH-ABORTED. -/
def State.chargeStep (s : State) (b : Bay) : State :=
  match s.record b with
  | none => s
  | some r =>
    let r' := { r with endTime := some s.clock.time }
    let c := r'.price b false
    let q := s.journal.nextSeq
    (((s.modRecord b fun _ => { r' with chargeSeq := some q, sub := .outside }).appendCharge c).latch
      (chargeEvent r c q))

/-- The abort mark of a bay's record. -/
def State.abortMark (s : State) (b : Bay) : AbortMark :=
  match s.record b with
  | some r => r.abort
  | none => .unmarked

/-- A bay leaves WASHING: it charges, then goes to EXIT, or to FAULT under mark E-STOP (R89, R91). -/
def State.leaveWashing (s : State) (b : Bay) : State :=
  if s.abortMark b = .eStop then (s.chargeStep b).enterFault b .washing
  else (s.chargeStep b).enterExit b

/-- After a phase that ended with no mark: CLAIM of the next phase, or the end of the wash after the last (R82, R87). -/
def State.nextPhase (s : State) (b : Bay) : State :=
  match s.record b with
  | none => s
  | some r => if r.phase < r.terms.phases.length then s.enterClaim b (r.phase + 1) else s.leaveWashing b

/-- The water-wait limit runs out (R82): the bay withdraws, the phase is SKIPPED, PHASE-SKIPPED is latched and the bay
moves on. -/
def State.skipPhase (s : State) (b : Bay) : State :=
  match s.record b with
  | none => s
  | some r =>
    (((s.withdraw b).modRecord b fun r =>
        r.modEntry fun e => { e with status := .skipped, lb := 0, lf := 0, fk := 0 }).latch
      (.phaseSkipped b r.visitNumber r.phase)).nextPhase b

/-- A claim whose answer comes under an abort mark leaves its phase NOT-REACHED with R_phase 0 and no FRESH-DEGRADED
(R88). -/
def State.leaveClaim (s : State) (b : Bay) : State :=
  (s.modRecord b fun r => r.modEntry fun e => { e with rPhase := 0, degraded := false }).leaveWashing b

/-- The claim of a bay is answered (R81, R105): GRANTED, DEGRADED or WAIT; under an abort mark as R88 gives. -/
def State.answerClaim (s : State) (b : Bay) (r : WorkRecord) (t : PhaseTerms) (e : PhaseEntry) : State :=
  let est := estimate t.dose e.rPhase
  let marked := r.abort ≠ .unmarked
  if est ≤ s.water.fresh then
    if marked then
      (((s.modWater fun w => { w with fresh := w.fresh - est }).modRecord b fun r => { r with claim := est }).settleClaim
        b est 0).leaveClaim b
    else s.grant b est
  else if 0 < e.rPhase ∧ t.source = .reclaimPreferred then
    if marked then s.leaveClaim b
    else
      (s.modRecord b fun r =>
        { r.modEntry (fun e => { e with rPhase := 256, degraded := true }) with claim := 0 }).enterRun b
  else if marked then s.leaveClaim b
  else
    let s₁ := ((s.modWater fun w => { w with waits := w.waits ++ [⟨b, est⟩] }).modRecord b
        fun r => { r with sub := .waterWait }).latch (.waterWait b r.visitNumber r.phase est)
    if s.active.waterWaitLimit = 0 then s₁.skipPhase b
    else s₁.modBay b fun u => { u with wait := some (s.afterSeconds s.active.waterWaitLimit) }

/-- The run-on window ends (R87): F_k, settlement, and the move that follows. -/
def State.endRunOn (s : State) (b : Bay) : State :=
  match s.record b with
  | none => s
  | some r =>
    match r.entry with
    | none => s
    | some e =>
      let f := freshLitres e.rPhase e.lb e.lf
      let s₁ := ((s.modBay b fun u => { u with runOnTimer := none, runOn := 0, spilled := false }).modRecord b
        fun r => r.modEntry fun e => { e with fk := f }).settleClaim b r.claim f
      if r.abort = .unmarked then s₁.nextPhase b else s₁.leaveWashing b

/-- What an abort mark brings about by sub-state (R88, R89, R90): in CLAIM the answer is awaited, in WATER-WAIT the bay
withdraws and leaves, in RUN the run ends ABORTED, in RUN-ON the window runs on. -/
def State.abortBySub (s : State) (b : Bay) : State :=
  match s.subState b with
  | .waterWait => (s.withdraw b).leaveWashing b
  | .run => s.endRun b .aborted
  | .claim => s
  | .runOn => s
  | .outside => s

/-- An abort by presence loss or by the host: the mark is set unless one is set already (R88, R90). -/
def State.abortWash (s : State) (b : Bay) (m : AbortMark) : State :=
  if s.abortMark b = .unmarked then (s.modRecord b fun r => { r with abort := m }).abortBySub b else s

/-- An e-stop in WASHING: the mark becomes E-STOP, replacing another (R89). -/
def State.eStopWash (s : State) (b : Bay) : State :=
  (s.modRecord b fun r => { r with abort := .eStop }).abortBySub b

/-- A flow pulse added to the current phase's Lb, or to its Lf once RECLAIM-LOST is set (R84, R86). -/
def PhaseEntry.pulse (e : PhaseEntry) : PhaseEntry :=
  if e.lost then { e with lf := e.lf + 1 } else { e with lb := e.lb + 1 }

/-- A flow pulse taken in RUN (R84). -/
def State.pulseInRun (s : State) (b : Bay) : State :=
  let dose := (s.bays.get b).dose + 1
  let s₁ := (s.modRecord b fun r => r.modEntry PhaseEntry.pulse).modBay b fun u => { u with dose := dose }
  if dose = 0 then s₁.endRun b .done else s₁

/-- A flow pulse taken in RUN-ON, counted up to the cap; METER-SPILL once a window beyond it (R86). -/
def State.pulseInRunOn (s : State) (b : Bay) : State :=
  let u := s.bays.get b
  if u.runOn < Config.runOnCap then
    (s.modRecord b fun r => r.modEntry PhaseEntry.pulse).modBay b fun u => { u with runOn := u.runOn + 1 }
  else if u.spilled then s
  else
    (s.modBay b fun u => { u with spilled := true }).latch
      (.meterSpill b (((s.record b).map (·.visitNumber)).getD 0) (((s.record b).map (·.phase)).getD 0))

/-- A bay takes a reclaim-loss notice for a tank (R85): only in RUN of a phase with a share drawn from that tank and no
loss yet. -/
def State.loseReclaim (s : State) (t : Tank) (b : Bay) : State :=
  match s.record b with
  | none => s
  | some r =>
    match r.entry with
    | none => s
    | some e =>
      if s.subState b = .run ∧ 0 < e.rPhase ∧ r.claimTank = some t ∧ e.lost = false then
        ((s.modRecord b fun r => r.modEntry fun e => { e with lost := true }).modBay b
            fun u => { u with blend := 0 }).latch (.reclaimLost b r.visitNumber r.phase t e.lb)
      else s

/-- A reclaim-loss notice to the bays (R85, R121), in ascending bay number (log 26). -/
def State.reclaimLoss (s : State) (t : Tank) : State :=
  allBays.foldl (fun s b => s.loseReclaim t b) s

/-! ### Calls ended -/

/-- A call line removed from the sign memory, with its pass-request notice (R59, R72). -/
def State.removeLine (s : State) (b : Bay) : State :=
  s.modDisp fun d => { d with lines := d.lines.filter (fun l => l.bay ≠ b), mark := true }

/-- A call ends without entry (R69, R70): timers stop, the reservation is dropped, the record is cleared, the line is
removed. Where the bay goes is the caller's. -/
def State.endCall (s : State) (b : Bay) : State :=
  ((s.modBay b fun u => { u with settle := none, call := none, record := none }).dropReservation).removeLine b

/-- The pump output of a bay: high for the first counts of each sub-cycle of 64, the duty spread over the four (R94). -/
def BayUnit.pumpHigh (u : BayUnit) : Bool :=
  let count := u.pumpPos / 10
  let i := count / 64
  u.supply && decide (count % 64 < u.pumpDuty / 4 + (if i < u.pumpDuty % 4 then 1 else 0))

/-- How many bays are in RUN (R95). -/
def State.baysInRun (s : State) : Nat :=
  allBays.countP fun b => s.subState b == .run

end Sys2Proof.Machine
end

