-- ==== Sys2Proof/Machine/Sign.lean ====
section
/-! DEFINITION. The lane sign (chapter 04 section 5): its status line, its messages and when they are sent; and how a
command of the field wiring runs, with the sign judged at its end. -/

namespace Sys2Proof.Machine

/-- A queued visit, by number. -/
def State.visitOf (s : State) (n : Nat) : Option Visit :=
  s.queue.find? fun v => v.number == n

/-- The status line as its inputs stand (R73). -/
def State.signStatus (s : State) : SignStatus :=
  if s.water.bayOpen = 0 then .closed
  else if Config.queueCapacity ≤ s.queue.length then .full
  else if s.journal.takesCall then .opened
  else .wait

/-- The status character (R75). -/
def SignStatus.char : SignStatus → Byte
  | .opened => 0x4F
  | .full => 0x46
  | .closed => 0x43
  | .wait => 0x57

/-- Short identifier of a visit: from its tag, else its plate, else its number (R74). -/
def Visit.shortId (v : Visit) : List Byte :=
  match v.tags.head?, v.plate with
  | some t, _ => lastDigits 4 t.toNat
  | none, some p => (List.replicate (4 - p.length) 0x20 ++ p).drop (p.length - 4)
  | none, none => lastDigits 4 v.number

/-- A line field: the bay digit and the short identifier (R75). A line names a queued visit; where it names none, which
no run brings about, its identifier is that of its number (log 30). -/
def State.lineField (s : State) (l : CallLine) : List Byte :=
  lastDigits 1 (bayNumber l.bay) ++
    (match s.visitOf l.visit with
     | some v => v.shortId
     | none => lastDigits 4 l.visit)

/-- The three line fields: five spaces for an empty line (R75). -/
def State.lineFields (s : State) : List Byte :=
  let used := s.disp.lines.flatMap s.lineField
  (used ++ List.replicate (15 - used.length) 0x20).take 15

/-- The sign message of the sign memory as it stands (R75). -/
def State.signBytes (s : State) : List Byte :=
  let body := [s.disp.status.char] ++ s.lineFields
  [0x5A] ++ body ++ [xorAll body]

/-- A message begins with the sign memory as it stands. -/
def State.beginSign (s : State) : State :=
  s.modDisp fun d => { d with sending := some { bytes := s.signBytes, began := s.timebase }, again := false }

/-- The sign memory has changed: a message is sent, now or after the one in sending (R75). -/
def State.sendSign (s : State) : State :=
  match s.disp.sending with
  | none => s.beginSign
  | some _ => s.modDisp fun d => { d with again := true }

/-- The status line takes the value its inputs give. -/
def State.recomputeStatus (s : State) : State :=
  s.modDisp fun d => { d with status := s.signStatus }

/-- The end of a step of the running part: the status line is recomputed, and a sign memory that differs from the one
before the step is sent (R73, R75; log 11). -/
def State.settleSign (before after : State) : State :=
  if before.running && after.running then
    let s := after.recomputeStatus
    if s.disp.lines = before.disp.lines ∧ s.disp.status = before.disp.status then s else s.sendSign
  else after

/-- An event of the field wiring or of the part itself: taken while the part runs, and otherwise not taken (R3, R193). -/
def State.event (s : State) (f : State → State) : Host.Outcome State Fault Refusal :=
  .next (if s.running then s.settleSign (f s) else s)

end Sys2Proof.Machine
end

