-- ==== Sys2Proof/Machine/Ident.lean ====
section
/-! DEFINITION. The Identification Unit and the Arrival Queue (chapter 02): creating, changing and removing visits, tag
adoption, matching, holds, the Vehicle Register, and its host requests. -/

namespace Sys2Proof.Machine

/-! ### Holds and notices -/

/-- The identification hold of a visit (R29). -/
def Visit.identHold (v : Visit) : HoldReason :=
  if v.blocked then .blocked
  else
    match v.verdict with
    | .measure => .measure
    | .oversize => .oversize
    | .noVerdict => if v.ident = .matched ∧ v.programme = none then .noProgram else .noHold

/-- A hold reason that the Identification Unit sets. -/
def HoldReason.fromIdent : HoldReason → Bool
  | .blocked => true
  | .measure => true
  | .oversize => true
  | .noProgram => true
  | .noHold => false
  | .noTariff => false
  | .onStop => false
  | .credit => false

/-- The hold reason recomputed (R29). -/
def Visit.rehold (v : Visit) : Visit :=
  if v.identHold = .noHold then { v with hold := if v.hold.fromIdent then .noHold else v.hold }
  else { v with hold := v.identHold }

/-- A change that gives the Dispatcher a visit-change notice (R30). -/
def Visit.changed (old new : Visit) : Bool :=
  old.ident ≠ new.ident || old.hold ≠ new.hold || old.haulier ≠ new.haulier || old.programme ≠ new.programme ||
    old.cls ≠ new.cls

/-- A change that latches VISIT-HELD (R30). -/
def Visit.becameHeld (old new : Visit) : Bool :=
  (old.ident ≠ new.ident && (new.ident = .unknown || new.ident = .conflict)) ||
    (old.hold = .noHold && new.hold ≠ .noHold)

/-- A queued visit replaced, at its place. -/
def State.putVisit (s : State) (v : Visit) : State :=
  { s with queue := s.queue.map fun x => if x.number = v.number then v else x }

/-- VISIT-HELD latched if the change calls for it (R30). -/
def State.noteHeld (s : State) (old new : Visit) : State :=
  if old.becameHeld new then s.latch (.visitHeld new.number new.ident new.hold) else s

/-- The visit-change notice, if the change calls for it (R30, R59). -/
def State.noteChange (s : State) (old new : Visit) : State :=
  if old.changed new then s.requestPass else s

/-- A queued visit changed by a rule of this chapter, with what R30 makes follow. Its number is not changed. -/
def State.changeVisit (s : State) (n : Nat) (f : Visit → Visit) : State :=
  match s.visitOf n with
  | none => s
  | some v =>
    let v' := { f v with number := n }
    ((s.putVisit v').noteChange v v').noteHeld v v'

/-! ### Numbers, creation, removal -/

/-- The visits that bays hold in their work records. -/
def State.bayVisits (s : State) : List Visit :=
  allBays.filterMap fun b => (s.record b).bind (·.visit)

/-- Every visit the part holds: queued ones, then those in bays. -/
def State.heldVisits (s : State) : List Visit :=
  s.queue ++ s.bayVisits

/-- The bay whose work record holds a visit. -/
def State.bayHolding (s : State) (n : Nat) : Option Bay :=
  allBays.find? fun b => s.recordVisit b == some n

/-- The visit number after another, passing from 65,535 to 1 (R21). -/
def numberAfter (n : Nat) : Nat :=
  if n = 65535 then 1 else n + 1

/-- The first number from `n` on that no held visit carries, over at most so many numbers (R21). -/
def State.freeNumber (s : State) : Nat → Nat → Nat
  | 0, n => n
  | k + 1, n => if s.heldVisits.any fun v => v.number == n then s.freeNumber k (numberAfter n) else n

/-- The number the next visit takes: at most 22 are in use (R21). -/
def State.nextNumber (s : State) : Nat :=
  s.freeNumber 22 s.nextVisit

/-- The Arrival Queue holds 16 visits (R20). -/
def State.queueIsFull (s : State) : Bool :=
  Config.queueCapacity ≤ s.queue.length

/-- A visit as R19 creates it for the lane. -/
def newVisit (n : Nat) (arrival : DepotTime) : Visit :=
  { number := n, arrival := arrival, axles := none, length := none, cls := none, tags := [], plate := none,
    haulier := none, programme := none, ident := .measuring, hold := .noHold, call := none, noShow := 0,
    verdict := .noVerdict, blocked := false, identTimer := none, closed := false }

/-- A visit joins at the tail and the counter moves past its number (R20, R21). -/
def State.joinQueue (s : State) (v : Visit) : State :=
  { s with queue := s.queue ++ [v], nextVisit := numberAfter v.number }

/-- The Lane Unit asks for a visit: the state and the number of the visit created, if one was (R22). -/
def State.createVisit (s : State) (arrival : DepotTime) : State × Option Nat :=
  if s.queueIsFull then (s, none)
  else (s.joinQueue (newVisit s.nextNumber arrival), some s.nextNumber)

/-- The measurement of a visit that has left the queue becomes LOST, and a notice held back for it is dropped (R14, R18,
R24). -/
def Measurement.lose (m : Measurement) (n : Nat) : Measurement :=
  if m.binding = .bound n then { m with binding := .lost, heldNotice := false } else m

/-- A visit leaves the queue otherwise than into its bay; its call is not yet dealt with (R24). -/
def State.dropVisit (s : State) (n : Nat) : State :=
  { s with queue := s.queue.filter fun v => v.number ≠ n }.modMeas fun m => m.lose n

/-- A call-cancel notice: the call ends and the bay goes to IDLE or CLOSED (R70). -/
def State.cancelCall (s : State) (b : Bay) : State :=
  (s.endCall b).goIdle b

/-- A queued visit is removed, its call cancelled if it has one (R24). -/
def State.removeVisit (s : State) (n : Nat) : State :=
  match s.visitOf n with
  | none => s
  | some v =>
    match v.call with
    | none => s.dropVisit n
    | some b => (s.dropVisit n).cancelCall b

/-! ### Hand-over and tags -/

/-- The ident state after the hand-over (R23). -/
def IdentState.afterHandOver : IdentState → IdentState
  | .measuring => .pending
  | .pending => .pending
  | .matched => .matched
  | .unknown => .unknown
  | .conflict => .conflict

/-- The measurement hand-over to a queued visit (R23). A visit that has gone into its bay takes none (log 12). The hold
of a visit already called is recomputed like any other's, to MEASURE or OVERSIZE where the verdict is that, though R60
says that a called visit's hold stays NONE (DESIGN CHOICE, log 48). -/
def State.handOver (s : State) (n : Nat) (axles length cls : Option Nat) (verdict : LaneVerdict) : State :=
  s.changeVisit n fun v =>
    Visit.rehold { v with axles := axles, length := length, cls := cls, verdict := verdict,
                          ident := v.ident.afterHandOver }

/-- The number of another visit that carries an ID (R25, R36). -/
def State.carrier (s : State) (n : Nat) (id : TagId) : Option Nat :=
  (s.heldVisits.find? fun v => v.number ≠ n && v.tags.contains id).map (·.number)

/-- A visit goes to CONFLICT; its ident timer stops (R25). -/
def Visit.toConflict (v : Visit) : Visit :=
  { v with ident := .conflict, identTimer := none }

/-- A read offered to a queued visit without a call (R25). -/
def State.offerQueued (s : State) (v : Visit) (id : TagId) : State :=
  if v.tags.contains id then s
  else
    match s.carrier v.number id, v.tags with
    | some o, _ =>
      (s.changeVisit v.number Visit.toConflict).latch (.tagConflict v.number id .inUse (some o))
    | none, [] => s.changeVisit v.number fun v => { v with tags := [id] }
    | none, [t] =>
      (s.changeVisit v.number fun v => { v with tags := [t, id] }.toConflict).latch
        (.tagConflict v.number id .secondId none)
    | none, _ =>
      (s.changeVisit v.number Visit.toConflict).latch (.tagConflict v.number id .secondId none)

/-- A read offered to a visit that is called or in its bay; `adopt` takes the ID (R26). -/
def State.offerCalled (s : State) (v : Visit) (id : TagId) (adopt : State → State) : State :=
  if v.tags.contains id then s
  else
    match s.carrier v.number id, v.tags with
    | none, [] => adopt s
    | none, _ => s.latch (.tagConflict v.number id .secondId none)
    | some o, _ => s.latch (.tagConflict v.number id .inUse (some o))

/-- A visit in a work record takes an ID (R26). -/
def State.adoptInBay (s : State) (b : Bay) (id : TagId) : State :=
  s.modRecord b fun r => { r with visit := r.visit.map fun v => { v with tags := [id] } }

/-- A read offered to a visit wherever it is held (R17, R25, R26); a visit no longer held takes nothing. -/
def State.offerRead (s : State) (n : Nat) (id : TagId) : State :=
  match s.visitOf n with
  | some v =>
    match v.call with
    | none => s.offerQueued v id
    | some _ => s.offerCalled v id fun s => s.changeVisit n fun v => { v with tags := [id] }
  | none =>
    match s.bayHolding n with
    | none => s
    | some b =>
      match (s.record b).bind (·.visit) with
      | none => s
      | some v => s.offerCalled v id fun s => s.adoptInBay b id

/-! ### Matching -/

/-- The register entry of a tag ID (R31). -/
def State.lookup (s : State) (id : TagId) : Option VehicleEntry :=
  s.register.find? fun e => e.tag == id

/-- A register match (R27); the ident timer stops. -/
def Visit.takeMatch (v : Visit) (e : VehicleEntry) : Visit :=
  { v with haulier := some e.haulier, programme := e.programme, blocked := e.blocked, ident := .matched,
           identTimer := none }

/-- No match at the window close: the ident timer starts, or with a timeout of 0 the visit is UNKNOWN at once (R27). -/
def State.startIdentTimer (s : State) (v : Visit) : Visit :=
  if s.active.identTimeout = 0 then { v with ident := .unknown }
  else { v with identTimer := some (s.afterSeconds s.active.identTimeout) }

/-- The entry found for a visit with exactly one tag ID. -/
def State.entryFor (s : State) (v : Visit) : Option VehicleEntry :=
  match v.tags with
  | [t] => s.lookup t
  | _ => none

/-- What the window-close notice makes of a visit (R27). -/
def State.closedVisit (s : State) (v : Visit) : Visit :=
  if v.ident = .pending then
    match s.entryFor v with
    | some e => { v with closed := true }.takeMatch e |>.rehold
    | none => (s.startIdentTimer { v with closed := true }).rehold
  else { v with closed := true }

/-- The window-close notice (R27). -/
def State.windowClosed (s : State) (n : Nat) : State :=
  s.changeVisit n s.closedVisit

/-- An ident timer expires (R28). -/
def State.identExpired (s : State) (n : Nat) : State :=
  s.changeVisit n fun v =>
    match v.identTimer with
    | some _ => { v with ident := .unknown, identTimer := none }
    | none => v

/-! ### Requests on visits -/

/-- PLATE on a queued visit: the plate stored and matched by ident state (R34). -/
def State.plateVisit (s : State) (p : Plate) (v : Visit) : Visit :=
  let v₁ := { v with plate := some p }
  let matching := s.register.filter fun e => e.plate == some p
  match v.ident, matching with
  | .matched, _ => v₁.rehold
  | .conflict, _ => v₁.rehold
  | _, [] => v₁.rehold
  | _, [e] => (v₁.takeMatch e).rehold
  | _, _ :: _ :: _ => v₁.toConflict.rehold

/-- The ident state of a queued visit; used for a reply, where the visit stands in the queue. -/
def State.identOf (s : State) (n : Nat) : Nat :=
  ((s.visitOf n).map fun v => v.ident.ctorIdx).getD 0

/-- The hold reason of a queued visit; used for a reply, where the visit stands in the queue. -/
def State.holdOf (s : State) (n : Nat) : Nat :=
  ((s.visitOf n).map fun v => v.hold.ctorIdx).getD 0

/-- How a request that names a visit not in the queue is refused: REFUSED-STATE in a bay, BAD-ARGUMENT nowhere. -/
def State.refuseVisit (s : State) (n : Nat) : Reply :=
  if (s.bayHolding n).isSome then refuse .refusedState else refuse .badArgument

/-- PLATE (R34). The plate's form is tested before where the visit stands (DESIGN CHOICE, log 49). -/
def State.doPlate (s : State) (n : Nat) (field : PlateField) : State × Reply :=
  match plateOf field with
  | some (some p) =>
    match s.visitOf n with
    | none => (s, s.refuseVisit n)
    | some _ =>
      let s' := s.changeVisit n (s.plateVisit p)
      (s', accept (be 1 (s'.identOf n)))
  | _ => (s, refuse .badArgument)

/-- A visit after IDENTIFY (R35). -/
def Visit.identify (v : Visit) (h : Haulier) (p : Nat) (c : Option Nat) : Visit :=
  let cls := c.or v.cls
  Visit.rehold
    { v with haulier := some h, programme := some p, cls := cls,
             verdict := if cls.isSome then .noVerdict else v.verdict,
             tags := v.tags.take 1, blocked := if h = 0 then false else v.blocked, ident := .matched,
             identTimer := none }

/-- IDENTIFY (R35). The fields' ranges are tested before where the visit stands, whether it is called and whether it is
MEASURING (DESIGN CHOICE, log 49). -/
def State.doIdentify (s : State) (n haulier programme cls : Nat) : State × Reply :=
  match haulierOf haulier, programmeOf programme, optionalOf classOf cls with
  | some h, some p, some c =>
    match s.visitOf n with
    | none => (s, s.refuseVisit n)
    | some v =>
      if v.call.isSome ∨ v.ident = .measuring then (s, refuse .refusedState)
      else
        let s' := s.changeVisit n fun v => v.identify h p c
        (s', accept (be 1 (s'.holdOf n)))
  | _, _, _ => (s, refuse .badArgument)

/-- The visit an ENQUEUE creates (R36). -/
def enqueuedVisit (n : Nat) (arrival : DepotTime) (h : Haulier) (p c : Nat) (tag : TagId) (plate : Option Plate) :
    Visit :=
  { newVisit n arrival with
    cls := some c, tags := if tag = 0 then [] else [tag], plate := plate, haulier := some h, programme := some p,
    ident := .matched }

/-- ENQUEUE (R36). -/
def State.doEnqueue (s : State) (haulier programme cls : Nat) (tag : TagId) (plate : PlateField) : State × Reply :=
  match haulierOf haulier, programmeOf programme, classOf cls, plateOf plate with
  | some h, some p, some c, some pl =>
    if s.queueIsFull then (s, refuse .queueFull)
    else if tag ≠ 0 ∧ (s.carrier 0 tag).isSome then (s, refuse .inUse)
    else
      let n := s.nextNumber
      ((s.joinQueue (enqueuedVisit n s.clock.time h p c tag pl)).requestPass, accept (be 2 n))
  | _, _, _, _ => (s, refuse .badArgument)

/-- REMOVE VISIT (R37). The reply carries the bay whose call it cancelled, if there was one. -/
def State.doRemoveVisit (s : State) (n : Nat) : State × Reply :=
  match s.visitOf n with
  | none => (s, s.refuseVisit n)
  | some v =>
    (s.removeVisit n, accept (match v.call with
                              | some b => be 1 (bayNumber b)
                              | none => []))

/-- The summary of a visit in QUEUE LIST (R38). -/
def Visit.summary (v : Visit) : List Byte :=
  be 2 v.number ++ be 1 v.ident.ctorIdx ++ be 1 v.hold.ctorIdx ++ bayByte v.call ++ be 1 v.noShow

/-- QUEUE LIST (R38); the number of visits is itself the count byte of the list (log 20). -/
def State.doQueueList (s : State) : Reply :=
  accept (be 1 s.queue.length ++ s.queue.flatMap Visit.summary)

/-- A visit record of 39 bytes (11 Table 7-5). -/
def Visit.encode (v : Visit) : List Byte :=
  be 2 v.number ++ timeBytes v.arrival ++
    presence [v.axles.isSome, v.length.isSome, v.cls.isSome, v.plate.isSome, v.haulier.isSome, v.programme.isSome] ++
    optBytes 1 v.axles ++ optBytes 2 v.length ++ optBytes 1 v.cls ++ be 1 v.tags.length ++ tagBytes v.tags[0]? ++
    tagBytes v.tags[1]? ++ plateBytes v.plate ++ optBytes 1 (v.haulier.map (·.val)) ++ optBytes 1 v.programme ++
    be 1 v.ident.ctorIdx ++ be 1 v.hold.ctorIdx ++ bayByte v.call ++ be 1 v.noShow

/-- VISIT READ (R38). -/
def State.doVisitRead (s : State) (n : Nat) : Reply :=
  match s.visitOf n with
  | none => s.refuseVisit n
  | some v => accept v.encode

/-! ### Requests on the Vehicle Register -/

/-- A visit that a VEHICLE PUT of a key matches (R32). -/
def Visit.awaitsKey (v : Visit) (id : TagId) : Bool :=
  ((v.ident = .pending && v.closed) || v.ident = .unknown) && v.tags = [id]

/-- Every waiting visit that carries just the key takes a register match (R32). -/
def State.matchWaiting (s : State) (e : VehicleEntry) : State :=
  s.queue.foldl (fun s v => if v.awaitsKey e.tag then s.changeVisit v.number fun v => (v.takeMatch e).rehold else s) s

/-- An entry replaced or added (R32). -/
def putEntry (l : List VehicleEntry) (e : VehicleEntry) : List VehicleEntry :=
  if l.any fun x => x.tag == e.tag then l.map fun x => if x.tag = e.tag then e else x else l ++ [e]

/-- VEHICLE PUT (R32): REPLACED is coded 0 and ADDED 1, in the order the rule first lists them. The fields are tested
before the room in the register (DESIGN CHOICE, log 49). -/
def State.doVehiclePut (s : State) (tag : TagId) (haulier programme : Nat) (plate : PlateField) (blocked : Nat) :
    State × Reply :=
  match haulierOf haulier, optionalOf programmeOf programme, plateOf plate, yesNoOf blocked with
  | some h, some p, some pl, some b =>
    if tag = 0 then (s, refuse .badArgument)
    else
      let present := s.register.any fun x => x.tag == tag
      if !present && Config.registerCapacity ≤ s.register.length then (s, refuse .tableFull)
      else
        let e : VehicleEntry := { tag := tag, haulier := h, programme := p, plate := pl, blocked := b }
        let s' := { s with register := putEntry s.register e }
        (s'.matchWaiting e, accept (be 1 (if present then 0 else 1) ++ be 2 s'.register.length))
  | _, _, _, _ => (s, refuse .badArgument)

/-- VEHICLE DROP (R33). -/
def State.doVehicleDrop (s : State) (tag : TagId) : State × Reply :=
  if s.register.any fun x => x.tag == tag then
    let s' := { s with register := s.register.filter fun x => x.tag ≠ tag }
    (s', accept (be 2 s'.register.length))
  else (s, refuse .badArgument)

/-- A register entry with its optional fields behind a presence byte (R31, R186). -/
def VehicleEntry.encode (e : VehicleEntry) : List Byte :=
  be 5 e.tag.toNat ++ be 1 e.haulier.val ++ presence [e.programme.isSome, e.plate.isSome] ++ optBytes 1 e.programme ++
    plateBytes e.plate ++ yesNo e.blocked

/-- VEHICLE GET (R33). -/
def State.doVehicleGet (s : State) (tag : TagId) : Reply :=
  match s.lookup tag with
  | none => refuse .badArgument
  | some e => accept e.encode

/-! ### Its event -/

/-- IDENT_TIMER_EXPIRY (R28). -/
def execIdentTimerExpiry (visit : Nat) (s : State) : Host.Outcome State Fault Refusal :=
  s.event fun s => s.identExpired visit

end Sys2Proof.Machine
end

