-- ==== Sys2Proof/Machine/Lane.lean ====
section
/-! DEFINITION. The Lane Unit (chapter 01): the measurement and its ends, the tag reader line, the tag read buffer and
the tag windows, with the commands of the lane's lines and timers. -/

namespace Sys2Proof.Machine

/-! ### Measurement -/

/-- Elapsed time of an event in a measurement: at least 1, saturating at 65,535 (R4). -/
def elapsed (now t0 : Nat) : Nat :=
  max 1 (min Config.maxElapsed (now - t0))

/-- Length of a vehicle: D × t_a ÷ t_ab, truncated, capped at 65,535 (R9). -/
def vehicleLength (d ta tab : Nat) : Nat :=
  min 65535 (d * ta / tab)

/-- The lowest row of the Class Table that admits a vehicle (R10). -/
def Bank.classFor (b : Bank) (axles length : Nat) : Option Nat :=
  ((List.range 6).find? fun i => axles ≤ b.maxAxles (i + 1) && length ≤ b.maxLength (i + 1)).map (· + 1)

/-- Class and lane hold reason of a completed measurement (R10). -/
def Bank.classify (b : Bank) (axles : Nat) (length : Option Nat) : Option Nat × LaneVerdict :=
  match length with
  | none => (none, .measure)
  | some len =>
    if axles ≤ 1 then (none, .measure)
    else if 3000 < len then (none, .oversize)
    else
      match b.classFor axles len with
      | some c => (some c, .noVerdict)
      | none => (none, .oversize)

/-- The visit a measurement is bound to. -/
def Binding.visit : Binding → Option Nat
  | .bound n => some n
  | .refused => none
  | .lost => none

/-- A window-close notice that was held back is given directly after the hand-over (R18). -/
def State.giveHeldNotice (s : State) (m : Measurement) (n : Nat) : State :=
  if m.heldNotice then s.windowClosed n else s

/-- A measurement completes with a length or none: the hand-over to a BOUND visit, ARRIVAL-REFUSED for a REFUSED one,
nothing for a LOST one (R9, R14). -/
def State.report (s : State) (m : Measurement) (length : Option Nat) : State :=
  let r := s.active.classify m.axles length
  match m.binding with
  | .bound n => (s.handOver n (some m.axles) length r.1 r.2).giveHeldNotice m n
  | .refused => s.latch (.arrivalRefused m.arrival (some m.axles) length r.1)
  | .lost => s

/-- The measurement record is emptied and the unit returns to ARMED. -/
def State.rearm (s : State) : State :=
  s.modLane fun l => { l with meas := none }

/-- A measurement completes and its record is emptied (R9). -/
def State.complete (s : State) (m : Measurement) (length : Option Nat) : State :=
  (s.report m length).rearm

/-- The completion STUCK: LOOP-STUCK, and the completion with t_a and length absent (R12). -/
def State.stuckEnd (s : State) (m : Measurement) : State :=
  (s.latch (.loopStuck m.binding.visit m.axles)).report m none

/-- The measurement marked completed STUCK, its timers stopped (R12). -/
def Measurement.markStuck (m : Measurement) : Measurement :=
  { m with stuck := true, transit := none, stuckTimer := none, heldNotice := false }

/-- Is a visit's measurement still in progress (R18)? -/
def State.measuring (s : State) (n : Nat) : Bool :=
  match s.lane.meas with
  | some m => m.binding == .bound n && !m.stuck
  | none => false

/-! ### Tag windows and reads -/

/-- The window-close notice of a window that leaves the list, held back while its visit is measured (R18). -/
def State.closeNotice (s : State) (w : TagWindow) : State :=
  match w.visit with
  | none => s
  | some n => if s.measuring n then s.modMeas fun m => { m with heldNotice := true } else s.windowClosed n

/-- The window at a place is closed: it leaves the list and gives its notice (R18). -/
def State.closeWindow (s : State) (place : Nat) : State :=
  match s.lane.windows[place]? with
  | none => s
  | some w => (s.modLane fun l => { l with windows := l.windows.eraseIdx place }).closeNotice w

/-- A window takes a read: offered to its visit, or dropped (R17). -/
def State.windowTakes (s : State) (visit : Option Nat) (id : TagId) : State :=
  match visit with
  | none => s
  | some n => s.offerRead n id

/-- A read lies in reach of a window that opens now with a width (R17). -/
def TagRead.inReach (r : TagRead) (now width : Nat) : Bool :=
  now ≤ r.lane + 1000 * width

/-- A window opens: a full list closes its oldest first; then it takes the buffered reads in its reach, oldest first
(R17). -/
def State.openWindow (s : State) (visit : Option Nat) : State :=
  let s₁ := if Config.windowCapacity ≤ s.lane.windows.length then s.closeWindow 0 else s
  let now := s₁.laneTime
  let width := s₁.active.tagWidth
  let taken := s₁.lane.reads.filter fun r => r.inReach now width
  let s₂ := s₁.modLane fun l =>
    { l with windows := l.windows ++ [{ visit := visit, aOn := now, aOff := none, width := width }],
             reads := l.reads.filter fun r => !r.inReach now width }
  taken.foldl (fun s r => s.windowTakes visit r.id) s₂

/-- The newest window gets its A-off time (R8, R17). -/
def markOff (now : Nat) : List TagWindow → List TagWindow
  | [] => []
  | [w] => [{ w with aOff := some now }]
  | w :: v :: l => w :: markOff now (v :: l)

/-- A window of width 0 expires at its A-off (R18). -/
def State.expireAtOff (s : State) : State :=
  match s.lane.windows.getLast? with
  | none => s
  | some w => if w.width = 0 then s.closeWindow (s.lane.windows.length - 1) else s

/-- A read is dropped unserved (R16). -/
def State.strayRead (s : State) (r : TagRead) : State :=
  s.latch (.tagStray r.id r.time)

/-- A read that no window takes enters the buffer, a ninth pushing out the oldest; with W = 0 it is stray at once
(R16). -/
def State.bufferRead (s : State) (id : TagId) : State :=
  let r : TagRead := { id := id, lane := s.laneTime, time := s.clock.time, width := s.active.tagWidth }
  if r.width = 0 then s.strayRead r
  else
    match s.lane.reads with
    | [] => s.modLane fun l => { l with reads := [r] }
    | old :: rest =>
      if Config.readCapacity ≤ s.lane.reads.length then
        (s.modLane fun l => { l with reads := rest ++ [r] }).strayRead old
      else s.modLane fun l => { l with reads := l.reads ++ [r] }

/-- An accepted read: the newest open window takes it, otherwise it is buffered (R15, R17). -/
def State.takeRead (s : State) (id : TagId) : State :=
  match s.lane.windows.getLast? with
  | some w => s.windowTakes w.visit id
  | none => s.bufferRead id

/-- The check byte of a tag frame: the exclusive-or of the five ID bytes (R15). -/
def tagCheck (id : TagId) : Byte :=
  xorAll (be 5 id.toNat)

/-- A whole tag frame: accepted unless its check byte is wrong or its ID is 0 (R15). -/
def State.takeTagFrame (s : State) (id : TagId) (check : Byte) : State :=
  if check = tagCheck id ∧ id ≠ 0 then s.takeRead id else s

/-! ### Commands -/

/-- A measurement starts (R5). -/
def newMeasurement (s : State) (binding : Binding) : Measurement :=
  { binding := binding, t0 := s.laneTime, arrival := s.clock.time, tab := none, ta := none, axles := 0,
    lastEdge := none, frozen := false, stuck := false, transit := none,
    stuckTimer := some (s.afterMs Config.maxElapsed), heldNotice := false }

/-- The binding of a measurement whose visit was or was not created (R5). -/
def bindingOf : Option Nat → Binding
  | some n => .bound n
  | none => .refused

/-- An A-on in ARMED: a visit is asked for, the measurement starts, and a window opens (R5, R17, R22). -/
def State.startMeasurement (s : State) : State :=
  let r := s.createVisit s.clock.time
  (r.1.modLane fun l => { l with meas := some (newMeasurement s (bindingOf r.2)) }).openWindow r.2

/-- An A-on in MEASURING: a tailgate (R13). The second vehicle's visit is handed over at once, or its arrival refused. -/
def State.tailgate (s : State) (m : Measurement) : State :=
  let arrival := s.clock.time
  let r := (s.modMeas fun m => { m with frozen := true }).createVisit arrival
  let s₁ := r.1.latch (.tailgate m.binding.visit r.2)
  (match r.2 with
   | some n => s₁.handOver n none none none .measure
   | none => s₁.latch (.arrivalRefused arrival none none none)).openWindow r.2

/-- Loop A asserts (R5). -/
def State.aOn (s : State) : State :=
  if s.lane.occupied then s
  else
    let s₁ := s.modLane fun l => { l with occupied := true }
    match s.lane.meas with
    | none => s₁.startMeasurement
    | some m => s₁.tailgate m

/-- What an A-off does to the measurement (the table of R8). -/
def State.aOffMeasurement (s : State) : State :=
  match s.lane.meas with
  | none => s
  | some m =>
    if m.stuck then s.rearm
    else
      match m.ta with
      | some _ => s
      | none =>
        let e := elapsed s.laneTime m.t0
        if e = Config.maxElapsed then (s.stuckEnd m).rearm
        else
          match m.tab with
          | some tab => s.complete { m with ta := some e } (some (vehicleLength s.active.laneSpacing e tab))
          | none =>
            s.modMeas fun m =>
              { m with ta := some e, stuckTimer := none, transit := some (s.afterSeconds s.active.transitTimeout) }

/-- Loop A clears (R8). -/
def State.aOff (s : State) : State :=
  if s.lane.occupied then
    ((s.modLane fun l => { l with occupied := false, windows := markOff s.laneTime l.windows }).aOffMeasurement).expireAtOff
  else s

/-- Loop B asserts (R7). -/
def State.bOn (s : State) : State :=
  match s.lane.meas with
  | none => s
  | some m =>
    if m.stuck ∨ m.tab.isSome then s
    else
      let e := elapsed s.laneTime m.t0
      if e = Config.maxElapsed then s.complete m none
      else
        match m.ta with
        | some ta => s.complete { m with tab := some e } (some (vehicleLength s.active.laneSpacing ta e))
        | none => s.modMeas fun m => { m with tab := some e }

/-- Is a treadle edge now counted (R6)? -/
def Measurement.counts (m : Measurement) (now : Nat) : Bool :=
  !m.frozen && !m.stuck &&
    (match m.lastEdge with
     | none => true
     | some t => t + Config.debounceMs ≤ now)

/-- A treadle edge (R6). -/
def Measurement.edge (m : Measurement) (now : Nat) : Measurement :=
  if m.counts now then { m with axles := min 15 (m.axles + 1), lastEdge := some now } else m

/-- The transit timer expires: a backout (R11). -/
def State.backout (s : State) (m : Measurement) : State :=
  let s₁ := s.latch (.backout m.binding.visit m.arrival m.axles)
  (match m.binding with
   | .bound n => s₁.removeVisit n
   | .refused => s₁
   | .lost => s₁).rearm

/-- The transit timer's expiry, where it runs (R11). -/
def State.transitExpired (s : State) : State :=
  match s.lane.meas with
  | none => s
  | some m => if m.transit.isSome then s.backout m else s

/-- The stuck timer's expiry, where it runs (R12). -/
def State.stuckExpired (s : State) : State :=
  match s.lane.meas with
  | none => s
  | some m => if m.stuckTimer.isSome then (s.stuckEnd m).modMeas Measurement.markStuck else s

/-- A buffered read's chance passes (R16). -/
def State.chancePassed (s : State) (place : Nat) : State :=
  match s.lane.reads[place]? with
  | none => s
  | some r => (s.modLane fun l => { l with reads := l.reads.eraseIdx place }).strayRead r

/-- A window that has its A-off time expires (R18). -/
def State.windowExpired (s : State) (place : Nat) : State :=
  match s.lane.windows[place]? with
  | none => s
  | some w => if w.aOff.isSome then s.closeWindow place else s

/-- The partial tag frame as the line's time finds it: a gap of more than 50 ms after its last byte discards it (R15). -/
def Lane.partialFrame (l : Lane) (timebase : Nat) : Option (List Byte) :=
  if l.frameAt + Config.tagGapTicks < timebase then none else l.frame

/-- A byte on the tag reader line (R15); after too long a gap it is examined as outside a frame. -/
def State.tagByte (s : State) (b : Byte) : State :=
  match s.lane.partialFrame s.timebase with
  | none => s.modLane fun l => if b = 0x7E then { l with frame := some [], frameAt := s.timebase } else { l with frame := none }
  | some got =>
    let l' := got ++ [b]
    if l'.length = 6 then
      (s.modLane fun l => { l with frame := none, frameAt := s.timebase }).takeTagFrame (BitVec.ofNat 40 (field l' 0 5)) b
    else s.modLane fun l => { l with frame := some l', frameAt := s.timebase }

/-- A_ON (R5). -/
def execAOn (s : State) : Host.Outcome State Fault Refusal :=
  s.event State.aOn

/-- A_OFF (R8). -/
def execAOff (s : State) : Host.Outcome State Fault Refusal :=
  s.event State.aOff

/-- B_ON (R7). -/
def execBOn (s : State) : Host.Outcome State Fault Refusal :=
  s.event State.bOn

/-- B_OFF (R7): ignored. -/
def execBOff (s : State) : Host.Outcome State Fault Refusal :=
  .next s

/-- TREADLE_EDGE (R6). -/
def execTreadleEdge (s : State) : Host.Outcome State Fault Refusal :=
  s.event fun s => s.modMeas fun m => m.edge s.laneTime

/-- TAG_FRAME: a whole frame, start byte to check byte; a partial frame before it is gone (R15, log 13). -/
def execTagFrame (id : TagId) (check : Byte) (s : State) : Host.Outcome State Fault Refusal :=
  s.event fun s => (s.modLane fun l => { l with frame := none }).takeTagFrame id check

/-- TAG_FRAME_GAP (R15). -/
def execTagFrameGap (s : State) : Host.Outcome State Fault Refusal :=
  s.event fun s => s.modLane fun l => { l with frame := none }

/-- TAG_READ_CHANCE_PASSED (R16). -/
def execTagReadChancePassed (place : Nat) (s : State) : Host.Outcome State Fault Refusal :=
  s.event fun s => s.chancePassed place

/-- TRANSIT_TIMEOUT (R11). -/
def execTransitTimeout (s : State) : Host.Outcome State Fault Refusal :=
  s.event State.transitExpired

/-- STUCK_TIMEOUT (R12). -/
def execStuckTimeout (s : State) : Host.Outcome State Fault Refusal :=
  s.event State.stuckExpired

/-- TAG_WINDOW_EXPIRY (R18). -/
def execTagWindowExpiry (place : Nat) (s : State) : Host.Outcome State Fault Refusal :=
  s.event fun s => s.windowExpired place

/-- TAG_BYTE (R15). -/
def execTagByte (byte : Byte) (s : State) : Host.Outcome State Fault Refusal :=
  s.event fun s => s.tagByte byte

end Sys2Proof.Machine
end

