-- ==== Sys2Proof/Machine/Accounts.lean ====
section
/-! DEFINITION. Haulier accounts and the staged load of terms (chapter 03), and the owner test of R103. -/

namespace Sys2Proof.Machine

/-- SETTLE_OWNER names a port (R103). -/
def State.owns (s : State) (p : Port) : Bool :=
  s.water.owner == some p

/-! ### Hauliers -/

/-- A haulier's entry and balance, as HAULIER PUT and HAULIER GET answer them (R42, R44). -/
def State.haulierBytes (s : State) (h : Haulier) : List Byte :=
  let e := s.hauliers[h]
  be 1 e.state.ctorIdx ++ be 2 e.discount ++ be 4 e.limit ++ be 1 e.quota ++ be 4 s.journal.balances[h]

/-- The entry a HAULIER PUT names, if every field is in range (R42). -/
def haulierEntryOf (state discount limit quota : Nat) : Option HaulierEntry :=
  match accountStateOf state with
  | none => none
  | some st =>
    if discount ≤ 500 ∧ limit ≤ 99999999 ∧ quota ≤ 15 then
      some { state := st, discount := discount, limit := limit, quota := quota }
    else none

/-- An entry of the Haulier Table replaced, with the haulier-change notice (R40). -/
def State.putHaulier (s : State) (h : Haulier) (e : HaulierEntry) : State :=
  { s with hauliers := putAt s.hauliers h e }.requestPass

/-- HAULIER PUT (R42). -/
def State.doHaulierPut (s : State) (p : Port) (haulier state discount limit quota : Nat) : State × Reply :=
  if !s.owns p then (s, refuse .notOwner)
  else
    match haulierOf haulier, haulierEntryOf state discount limit quota with
    | some h, some e =>
      let s' := s.putHaulier h e
      (s', accept (s'.haulierBytes h))
    | _, _ => (s, refuse .badArgument)

/-- How many held visits carry a haulier (R43). -/
def State.visitsOf (s : State) (h : Haulier) : Nat :=
  s.heldVisits.countP fun v => v.haulier == some h

/-- HAULIER DROP (R43). -/
def State.doHaulierDrop (s : State) (p : Port) (haulier : Nat) : State × Reply :=
  if !s.owns p then (s, refuse .notOwner)
  else
    match haulierOf haulier with
    | none => (s, refuse .badArgument)
    | some h =>
      if h = 0 then (s, refuse .badArgument)
      else if s.hauliers[h].state = .closed then (s, refuse .refusedState)
      else if s.journal.balances[h] ≠ 0 ∨ s.visitsOf h ≠ 0 then
        (s, answer .inUse (be 4 s.journal.balances[h] ++ be 1 (s.visitsOf h)))
      else (s.putHaulier h { s.hauliers[h] with state := .closed }, accept [])

/-- HAULIER GET (R44). -/
def State.doHaulierGet (s : State) (haulier : Nat) : Reply :=
  match haulierOf haulier with
  | none => refuse .badArgument
  | some h => accept (s.haulierBytes h)

/-! ### Staged load -/

/-- Another port's load is open (R51). -/
def State.busyFor (s : State) (p : Port) : Bool :=
  match s.staging with
  | none => false
  | some g => g.port ≠ p

/-- The two tests every TERMS request but TERMS READ meets first (R51). -/
def State.termsRefusal (s : State) (p : Port) : Option ReplyCode :=
  if s.busyFor p then some .refusedBusy
  else if s.owns p then none
  else some .notOwner

/-- TERMS BEGIN (R52). -/
def State.doTermsBegin (s : State) (p : Port) : State × Reply :=
  match s.termsRefusal p with
  | some c => (s, refuse c)
  | none => ({ s with staging := some { port := p, bank := s.active, count := 0 } }, accept (be 1 s.generation))

/-- The first tested field of a block that lies out of range, as its offset in the TERMS BLOCK payload (R53, R186). -/
def badField (i : BlockId) (content : BlockContent) : Option Nat :=
  ((blockTests i).find? fun t => !t.passes content).map (·.off + 2)

/-- What staging answers to a block, and the staging after it (R53). -/
def Staging.takeBlock (g : Staging) (code index : Byte) (content : BlockContent) (digest : BitVec 16) :
    Staging × Reply :=
  if digest ≠ blockDigest code index content then (g, refuse .digestRejected)
  else
    match blockOf code.toNat index.toNat with
    | .error off => (g, answer .writeError (be 1 off))
    | .ok i =>
      match badField i content with
      | some off => (g, answer .writeError (be 1 off))
      | none =>
        let n := satAdd 65535 g.count 1
        ({ g with bank := g.bank.setBlock i content, count := n }, accept (be 2 n))

/-- TERMS BLOCK (R53). -/
def State.doTermsBlock (s : State) (p : Port) (code index : Byte) (content : BlockContent) (digest : BitVec 16) :
    State × Reply :=
  match s.termsRefusal p, s.staging with
  | some c, _ => (s, refuse c)
  | none, none => (s, refuse .refusedState)
  | none, some g =>
    let r := g.takeBlock code index content digest
    ({ s with staging := some r.1 }, r.2)

/-- TERMS COUNT (R54). -/
def State.doTermsCount (s : State) (p : Port) : Reply :=
  match s.termsRefusal p, s.staging with
  | some c, _ => refuse c
  | none, none => refuse .refusedState
  | none, some g => accept (be 2 g.count ++ be 1 s.generation)

/-- A failed commit check: its kind, then programme and phase where they apply (R55, log 24). -/
def CommitFailure.encode : CommitFailure → List Byte
  | .phaseRange p k => be 1 0 ++ presence [true, true] ++ be 1 p ++ be 1 k
  | .weightSum p => be 1 1 ++ presence [true, false] ++ be 1 p ++ be 1 0
  | .priceUndefined p => be 1 2 ++ presence [true, false] ++ be 1 p ++ be 1 0
  | .thresholds => be 1 3 ++ presence [false, false] ++ be 1 0 ++ be 1 0

/-- STAGING becomes ACTIVE, with the terms-commit notice (R56). The notice is given as the reply begins and does not
wait for its last byte, the model's choice (log 46). -/
def State.commit (s : State) (bank : Bank) : State :=
  { s with active := bank, generation := nextGeneration s.generation, staging := none }.requestPass

/-- TERMS COMMIT (R55, R56). -/
def State.doTermsCommit (s : State) (p : Port) : State × Reply :=
  match s.termsRefusal p, s.staging with
  | some c, _ => (s, refuse c)
  | none, none => (s, refuse .refusedState)
  | none, some g =>
    match g.bank.commitFailure with
    | some f => (s, answer .termsInvalid f.encode)
    | none => (s.commit g.bank, accept (be 1 (nextGeneration s.generation)))

/-- TERMS ABANDON (R54). -/
def State.doTermsAbandon (s : State) (p : Port) : State × Reply :=
  match s.termsRefusal p, s.staging with
  | some c, _ => (s, refuse c)
  | none, none => (s, refuse .refusedState)
  | none, some _ => ({ s with staging := none }, accept [])

/-- TERMS READ (R57). -/
def State.doTermsRead (s : State) (code index : Byte) : Reply :=
  match blockOf code.toNat index.toNat with
  | .error _ => refuse .badArgument
  | .ok i =>
    let content := s.active.block i
    accept (be 1 s.generation ++ [code, index] ++ content.toList ++ be 2 (blockDigest code index content).toNat)

end Sys2Proof.Machine
end

