-- ==== Sys2Proof/Machine/Water.lean ====
section
/-! DEFINITION. The host requests to the Resource Table (chapter 06): SWAP with the notices that follow a change, WATER
STATUS and ALLOWANCE SET. Claims, grants and settlements stand in BayOps. -/

namespace Sys2Proof.Machine

/-- The value of a resource (06 Table 1-1). -/
def Resources.value (w : Resources) : Resource → Nat
  | .freshRemain => w.fresh
  | .overdraw => w.overdraw
  | .bayOpen => w.bayOpen.toNat
  | .settleOwner => ownerNumber w.owner

/-- Staging is closed unless its port is the owner (R51). -/
def closeStaging (g : Option Staging) (owner : Option Port) : Option Staging :=
  match g with
  | none => none
  | some g => if owner = some g.port then some g else none

/-- SETTLE_OWNER takes a value: where that changes it, staging closes and a release tagging is cancelled (R51, R102,
R158). -/
def State.setOwner (s : State) (o : Option Port) : State :=
  if s.water.owner = o then s
  else
    { (s.modWater fun w => { w with owner := o }).modJournal fun j => { j with tagging := .untagged } with
      staging := closeStaging s.staging o }

/-- FRESH_REMAIN takes a value; a rise runs a first-fit pass (R99, R107). -/
def State.setFresh (s : State) (n : Nat) : State :=
  if s.water.fresh < n then (s.modWater fun w => { w with fresh := n }).firstFit
  else s.modWater fun w => { w with fresh := n }

/-- A resource takes a new value, with what follows a change (R99). -/
def State.setResource (s : State) (r : Resource) (n : Nat) : State :=
  match r with
  | .freshRemain => s.setFresh n
  | .overdraw => s.modWater fun w => { w with overdraw := n }
  | .bayOpen => s.setBayOpen (BitVec.ofNat 6 n)
  | .settleOwner => s.setOwner (ownerOf n)

/-- A SWAP of SETTLE_OWNER that a port may not make (R99 test 3). -/
def badOwnerSwap (p : Port) (expected new : Nat) : Bool :=
  (new ≠ 0 && new ≠ portNumber p) || (new = portNumber p && expected = portNumber (otherPort p))

/-- The tests of SWAP before the comparison (R99 tests 2 and 3). -/
def swapRefused (p : Port) (r : Resource) (expected new : Nat) : Bool :=
  resourceBound r < new || (r = .settleOwner && badOwnerSwap p expected new)

/-- SWAP (R99). The reply carries RELEASE-RESET if the change of owner cancelled a release tagging (R158, R178). -/
def State.doSwap (s : State) (p : Port) (code expected new : Nat) : State × Reply :=
  match resourceOf code with
  | none => (s, refuse .badArgument)
  | some r =>
    let old := s.water.value r
    if swapRefused p r expected new then (s, refuse .badArgument)
    else if old ≠ expected then (s, answer .mismatch (be 3 old))
    else
      let s' := s.setResource r new
      (s', { accept (be 3 old) with releaseReset := decide (s'.journal.tagging ≠ s.journal.tagging) })

/-- The outstanding claim of a bay; 0 where it holds none (R98). -/
def State.claimOf (s : State) (b : Bay) : Nat :=
  ((s.record b).map (·.claim)).getD 0

/-- WATER STATUS (R98); the six outstanding claims carry no count byte (log 20). -/
def State.doWaterStatus (s : State) : Reply :=
  let w := s.water
  accept (be 3 w.fresh ++ be 3 w.overdraw ++ be 1 w.bayOpen.toNat ++ be 1 (ownerNumber w.owner) ++ be 3 w.preload ++
    be 1 w.waits.length ++ w.waits.flatMap (fun x => be 1 (bayNumber x.bay) ++ be 2 x.estimate) ++
    allBays.flatMap fun b => be 2 (s.claimOf b))

/-- No bay is in CLAIM, WATER-WAIT, RUN or RUN-ON (R110). -/
def State.noneWashing (s : State) : Bool :=
  allBays.all fun b => s.subState b == .outside

/-- ALLOWANCE SET (R110): IMMEDIATE is coded 0, AT-ROLLOVER 1. -/
def State.doAllowanceSet (s : State) (n : Nat) : State × Reply :=
  if Config.maxLitres < n then (s, refuse .badArgument)
  else
    let s₁ := s.modWater fun w => { w with preload := n }
    if s.noneWashing then (s₁.modWater fun w => { w with fresh := n }, accept (be 1 0 ++ be 3 n))
    else (s₁, accept (be 1 1 ++ be 3 s.water.fresh))

end Sys2Proof.Machine
end

