-- ==== Sys2Proof/Machine/Bays.lean ====
section
/-! DEFINITION. The Bay Sequencers' commands (chapters 04 section 4 and 05): presence, calls, entry, e-stop, flow, the
bay timers and SUPPLY-LOW, and the bay requests. -/

namespace Sys2Proof.Machine

/-- The queued visit that a bay calls. -/
def State.calledTo (s : State) (b : Bay) : Option Visit :=
  s.queue.find? fun v => v.call == some b

/-- A queued visit loses its call (R69, R70). -/
def State.clearCall (s : State) (v : Visit) : State :=
  s.putVisit { v with call := none }

/-! ### Presence and calls -/

/-- Presence asserts (R68, R71). -/
def State.presenceAsserted (s : State) (b : Bay) : State :=
  match (s.bays.get b).state with
  | .called => s.modBay b fun u => { u with settle := some (s.afterSeconds s.active.entrySettle) }
  | .idle => s.latch (.intrusion b s.clock.time)
  | .closed => s
  | .washing => s
  | .exit => s
  | .fault => s

/-- Presence clears (R59, R68, R88, R92). -/
def State.presenceCleared (s : State) (b : Bay) : State :=
  match (s.bays.get b).state with
  | .called => s.modBay b fun u => { u with settle := none }
  | .washing => s.abortWash b .presence
  | .exit => s.leaveExit b
  | .idle => s.requestPass
  | .closed => s
  | .fault => s

/-- The visit leaves the queue and passes into the work record (R68, R80). -/
def WorkRecord.takeIn (r : WorkRecord) (v : Visit) (now : DepotTime) : WorkRecord :=
  { r with visit := some v, startTime := some now }

/-- The called visit enters the bay, which begins to wash (R68, R80). A measurement still in progress for it stays BOUND to
it (log 12). -/
def State.enterBay (s : State) (b : Bay) (v : Visit) : State :=
  let s₁ := { s with queue := s.queue.filter fun x => x.number ≠ v.number }
  let s₂ := (s₁.modBay b fun u => { u with state := .washing, settle := none, call := none }).modRecord b
    fun r => r.takeIn v s.clock.time
  (s₂.removeLine b).enterClaim b 1

/-- The settle timer expires, where it runs (R68). -/
def State.settleExpired (s : State) (b : Bay) : State :=
  let u := s.bays.get b
  if u.state = .called ∧ u.settle.isSome then
    match s.calledTo b with
    | some v => s.enterBay b v
    | none => s
  else s

/-- What a call expiry makes of the visit (R69): a no-show, or the visit is dropped. -/
def State.noShow (s : State) (b : Bay) (v : Visit) : State :=
  if v.noShow = 0 then
    (s.putVisit { v with call := none, noShow := 1 }).latch (.callExpired v.number b 1)
  else (s.dropVisit v.number).latch (.visitDropped v.number b v.haulier v.tags.head? v.plate)

/-- The call timer expires, where it runs (R69). -/
def State.callExpired (s : State) (b : Bay) : State :=
  let u := s.bays.get b
  if u.state = .called ∧ u.call.isSome then
    match s.calledTo b with
    | some v => ((s.noShow b v).endCall b).goIdle b
    | none => s
  else s

/-! ### E-stop -/

/-- E-stop asserts (R89). -/
def State.eStopAsserted (s : State) (b : Bay) : State :=
  match (s.bays.get b).state with
  | .closed => s.enterFault b .closed
  | .idle => s.enterFault b .idle
  | .called =>
    ((match s.calledTo b with
      | some v => s.clearCall v
      | none => s).endCall b).enterFault b .called
  | .washing => s.eStopWash b
  | .exit => s.enterFault b .exit
  | .fault => s

/-! ### Flow and timers -/

/-- A flow pulse (R84, R86): counted in RUN and RUN-ON only. -/
def State.flowPulse (s : State) (b : Bay) : State :=
  match s.subState b with
  | .run => s.pulseInRun b
  | .runOn => s.pulseInRunOn b
  | .claim => s
  | .waterWait => s
  | .outside => s

/-- The time limit expires in RUN (R84). -/
def State.limitExpired (s : State) (b : Bay) : State :=
  if s.subState b = .run ∧ (s.bays.get b).limit.isSome then s.endRun b .short else s

/-- The water-wait limit expires in WATER-WAIT (R82). -/
def State.waitExpired (s : State) (b : Bay) : State :=
  if s.subState b = .waterWait ∧ (s.bays.get b).wait.isSome then s.skipPhase b else s

/-- The run-on window ends (R87). -/
def State.runOnExpired (s : State) (b : Bay) : State :=
  if s.subState b = .runOn ∧ (s.bays.get b).runOnTimer.isSome then s.endRunOn b else s

/-- The exit timer expires in EXIT (R92). -/
def State.exitExpired (s : State) (b : Bay) : State :=
  let u := s.bays.get b
  if u.state = .exit ∧ u.exit.isSome then
    (s.modBay b fun u => { u with exit := none }).latch (.exitOverstay b ((s.recordVisit b).getD 0))
  else s

/-- A pump cycle ends in RUN: the next takes up the effective duty (R94). Taken mid-cycle it ends the cycle there (log 15). -/
def State.pumpCycle (s : State) (b : Bay) : State :=
  if s.subState b = .run then s.modBay b fun u => { u with pumpPos := 0, pumpDuty := s.bayDuty b } else s

/-- A claim is answered (R81, R105). -/
def State.claimAnswer (s : State) (b : Bay) : State :=
  if s.subState b = .claim then
    match s.record b with
    | none => s
    | some r =>
      match r.phaseTerms, r.entry with
      | some t, some e => s.answerClaim b r t e
      | _, _ => s
  else s

/-! ### Requests -/

/-- A phase of a terms snapshot in nine bytes, as in a programme block. -/
def PhaseTerms.encode (t : PhaseTerms) : List Byte :=
  be 1 t.kind.ctorIdx ++ be 1 t.source.ctorIdx ++ be 2 t.dose ++ be 2 t.limit ++ be 1 t.duty ++ be 2 t.weight

/-- A terms snapshot (R66); its phase count is the count byte of the list of its phases. -/
def Snapshot.encode (t : Snapshot) : List Byte :=
  be 1 t.programme ++ be 1 t.phases.length ++ t.phases.flatMap PhaseTerms.encode ++ be 3 t.basePrice ++
    be 2 t.freshRate ++ be 2 t.reclaimRate ++ be 2 t.discount ++ be 1 t.generation

/-- A phase list entry (R78). -/
def PhaseEntry.encode (e : PhaseEntry) : List Byte :=
  be 1 e.status.ctorIdx ++ be 2 e.rPhase ++ be 2 e.lb ++ be 2 e.lf ++ be 2 e.fk ++
    be 1 (flagByte [e.degraded, e.lost])

/-- An optional depot time, zeros when absent. -/
def optTime (t : Option DepotTime) : List Byte :=
  (t.map timeBytes).getD (be 5 0)

/-- An optional visit record, zeros when absent. -/
def optVisit (v : Option Visit) : List Byte :=
  (v.map Visit.encode).getD (List.replicate 39 0)

/-- A work record, its fields in the order of 05 Table 2-1 (R79, R186, log 20). -/
def WorkRecord.encode (r : WorkRecord) (b : Bay) : List Byte :=
  be 1 (bayNumber b) ++ timeBytes r.callTime ++ r.terms.encode ++
    presence [r.visit.isSome, r.startTime.isSome, r.endTime.isSome, r.chargeSeq.isSome] ++ optVisit r.visit ++
    optTime r.startTime ++ optTime r.endTime ++ be 1 r.phase ++ be 1 r.sub.ctorIdx ++ tankByte r.claimTank ++
    be 2 r.claim ++ be 1 r.abort.ctorIdx ++ be 3 ((r.chargeSeq.map (·.toNat)).getD 0) ++ be 1 r.entries.length ++
    r.entries.flatMap PhaseEntry.encode

/-- Seconds left on the timer of a washing bay, truncated; 0 where none runs (R79, log 23). -/
def State.secondsLeft (s : State) (b : Bay) : Nat :=
  let u := s.bays.get b
  match u.limit.or (u.wait.or u.runOnTimer) with
  | some d => (d - s.laneTime) / 1000
  | none => 0

/-- The work record part of BAY STATUS: in CALLED, WASHING and EXIT (R79). -/
def State.recordBytes (s : State) (b : Bay) : List Byte :=
  match (s.bays.get b).state, s.record b with
  | .called, some r => r.encode b
  | .washing, some r => r.encode b
  | .exit, some r => r.encode b
  | _, _ => []

/-- The counter and timer part of BAY STATUS: in WASHING (R79). -/
def State.runningBytes (s : State) (b : Bay) : List Byte :=
  if (s.bays.get b).state = .washing then be 2 (s.bays.get b).dose.toNat ++ be 2 (s.secondsLeft b) else []

/-- BAY STATUS (R79); a line that is asserted is coded 1 (log 20). -/
def State.doBayStatus (s : State) (bay : Nat) : Reply :=
  match bayOf bay with
  | none => refuse .badArgument
  | some b =>
    accept (be 1 (s.bays.get b).state.ctorIdx ++ be 1 (s.subState b).ctorIdx ++ yesNo (s.lines.presence.get b) ++
      yesNo (s.lines.estop.get b) ++ yesNo (s.bayIsOpen b) ++ s.recordBytes b ++ s.runningBytes b)

/-- BAY ABORT (R90). -/
def State.doBayAbort (s : State) (bay : Nat) : State × Reply :=
  match bayOf bay with
  | none => (s, refuse .badArgument)
  | some b =>
    if (s.bays.get b).state = .washing then
      (s.abortWash b .host, accept (be 1 (((s.record b).map (·.phase)).getD 0) ++ be 1 (s.subState b).ctorIdx))
    else (s, refuse .refusedState)

/-- BAY RELEASE (R93). -/
def State.doBayRelease (s : State) (bay : Nat) : State × Reply :=
  match bayOf bay with
  | none => (s, refuse .badArgument)
  | some b =>
    if (s.bays.get b).state = .fault ∧ s.lines.estop.get b = false then
      ((s.modBay b fun u => { u with state := .closed }).openNotice b, accept [])
    else (s, refuse .refusedState)

/-! ### Commands -/

/-- PRESENCE_ASSERT (R68, R71). The level is followed at all times. -/
def execPresenceAssert (bay : Bay) (s : State) : Host.Outcome State Fault Refusal :=
  (s.modLines fun l => { l with presence := l.presence.set bay true }).event fun s => s.presenceAsserted bay

/-- PRESENCE_CLEAR (R88, R92). The level is followed at all times. -/
def execPresenceClear (bay : Bay) (s : State) : Host.Outcome State Fault Refusal :=
  (s.modLines fun l => { l with presence := l.presence.set bay false }).event fun s => s.presenceCleared bay

/-- ENTRY_SETTLE_EXPIRY (R68). -/
def execEntrySettleExpiry (bay : Bay) (s : State) : Host.Outcome State Fault Refusal :=
  s.event fun s => s.settleExpired bay

/-- CALL_TIMER_EXPIRY (R69). -/
def execCallTimerExpiry (bay : Bay) (s : State) : Host.Outcome State Fault Refusal :=
  s.event fun s => s.callExpired bay

/-- E_STOP_ASSERT (R89). The level is followed at all times. -/
def execEStopAssert (bay : Bay) (s : State) : Host.Outcome State Fault Refusal :=
  (s.modLines fun l => { l with estop := l.estop.set bay true }).event fun s => s.eStopAsserted bay

/-- E_STOP_CLEAR (R89): nothing but the level changes. -/
def execEStopClear (bay : Bay) (s : State) : Host.Outcome State Fault Refusal :=
  .next (s.modLines fun l => { l with estop := l.estop.set bay false })

/-- FLOW_PULSE (R84, R86). -/
def execFlowPulse (bay : Bay) (s : State) : Host.Outcome State Fault Refusal :=
  s.event fun s => s.flowPulse bay

/-- TIME_LIMIT_EXPIRY (R84). -/
def execTimeLimitExpiry (bay : Bay) (s : State) : Host.Outcome State Fault Refusal :=
  s.event fun s => s.limitExpired bay

/-- WATER_WAIT_EXPIRY (R82). -/
def execWaterWaitExpiry (bay : Bay) (s : State) : Host.Outcome State Fault Refusal :=
  s.event fun s => s.waitExpired bay

/-- RUN_ON_EXPIRY (R87). -/
def execRunOnExpiry (bay : Bay) (s : State) : Host.Outcome State Fault Refusal :=
  s.event fun s => s.runOnExpired bay

/-- EXIT_TIMER_EXPIRY (R92). -/
def execExitTimerExpiry (bay : Bay) (s : State) : Host.Outcome State Fault Refusal :=
  s.event fun s => s.exitExpired bay

/-- SUPPLY_LOW_ASSERT (R95). The level is followed at all times; LOAD-SHED is latched with the bays in RUN. -/
def execSupplyLowAssert (s : State) : Host.Outcome State Fault Refusal :=
  (s.modLines fun l => { l with supplyLow := true }).event fun s => s.latch (.loadShed s.baysInRun)

/-- SUPPLY_LOW_CLEAR (R95): nothing but the level changes. -/
def execSupplyLowClear (s : State) : Host.Outcome State Fault Refusal :=
  .next (s.modLines fun l => { l with supplyLow := false })

/-- PUMP_CYCLE_END (R94). -/
def execPumpCycleEnd (bay : Bay) (s : State) : Host.Outcome State Fault Refusal :=
  s.event fun s => s.pumpCycle bay

/-- CLAIM_ANSWER (R105). -/
def execClaimAnswer (bay : Bay) (s : State) : Host.Outcome State Fault Refusal :=
  s.event fun s => s.claimAnswer bay

end Sys2Proof.Machine
end

