-- ==== Sys2Proof/Machine/Journal.lean ====
section
/-! DEFINITION. The host requests to the Charge Journal (chapter 09): export, holds, release tagging, JOURNAL STATUS, the
record layouts of chapter 11, and the release walk's command. -/

namespace Sys2Proof.Machine

/-! ### Record layouts -/

/-- A phase entry of a CHARGE record: 11 bytes (11 Table 7-6). -/
def ChargePhase.encode (x : ChargePhase) : List Byte :=
  be 1 x.kind.ctorIdx ++ be 1 x.status.ctorIdx ++ be 2 x.rPhase ++ be 2 x.lb ++ be 2 x.lf ++ be 2 x.fk ++
    be 1 (flagByte [x.degraded, x.lost])

/-- The flags byte of a CHARGE record (R141, 11 Table 7-6). -/
def ChargeFlags.encode (f : ChargeFlags) : List Byte :=
  be 1 (flagByte [f.aborted, f.short, f.skipped, f.degraded, f.lost, f.recovered])

/-- The five totals of a day, four bytes each. -/
def Totals.encode (t : Totals) : List Byte :=
  be 4 t.charges ++ be 4 t.amount ++ be 4 t.fresh ++ be 4 t.reclaim ++ be 4 t.overdraw

/-- A CHARGE record after its sequence number and kind (11 Table 7-6). -/
def Charge.encode (c : Charge) : List Byte :=
  be 2 c.visit ++ be 1 c.haulier.val ++ be 1 (bayNumber c.bay) ++ be 1 c.programme ++ be 1 c.cls ++
    be 1 c.generation ++ presence [c.axles.isSome, c.length.isSome, c.tag.isSome, c.plate.isSome] ++
    optBytes 1 c.axles ++ optBytes 2 c.length ++ tagBytes c.tag ++ plateBytes c.plate ++ timeBytes c.callTime ++
    timeBytes c.startTime ++ timeBytes c.endTime ++ be 2 c.litres ++ be 2 c.fresh ++ be 2 c.weight ++ be 3 c.base ++
    be 3 c.water ++ be 3 c.discount ++ be 3 c.amount ++ c.flags.encode ++ be 1 c.phases.length ++
    c.phases.flatMap ChargePhase.encode

/-- A journal record (11 Tables 7-6 and 7-7). -/
def Record.encode : Record → List Byte
  | .charge q c => be 3 q.toNat ++ be 1 0 ++ c.encode
  | .dayClose q d => be 3 q.toNat ++ be 1 1 ++ be 2 d.first ++ be 2 d.last ++ d.totals.encode

/-- The sequence number of a record. -/
def Record.seq : Record → BitVec 24
  | .charge q _ => q
  | .dayClose q _ => q

/-! ### Release tagging and its cancelling (R158) -/

/-- A reply with the RELEASE-RESET flag if a tagging was cancelled (R158, R178). -/
def Reply.flagged (r : Reply) (cancelled : Bool) : Reply :=
  { r with releaseReset := cancelled }

/-- A release tagging is in progress. -/
def State.tagged (s : State) : Bool :=
  s.journal.tagging ≠ .untagged

/-- The tagging state becomes NONE. -/
def State.untag (s : State) : State :=
  s.modJournal fun j => { j with tagging := .untagged }

/-- A journal request that cancels a release tagging if `cancels`, and is then taken by its own rule (R158). -/
def State.cancelling (s : State) (cancels : Bool) (f : State → State × Reply) : State × Reply :=
  if cancels && s.tagged then
    let r := f s.untag
    (r.1, r.2.flagged true)
  else f s

/-! ### Export (R153 to R155) -/

/-- The export cursor of a port replaced. -/
def State.putCursor (s : State) (p : Port) (c : Cursor) : State :=
  s.modJournal fun j => { j with cursors := j.cursors.set p c }

/-- EXPORT OPEN by its own rule (R153). -/
def State.openExport (s : State) (p : Port) (page : Nat) : State × Reply :=
  match pageOf page with
  | none => (s, refuse .badArgument)
  | some i =>
    let pg := s.journal.pages[i]
    if pg.state = .free then (s, refuse .refusedState)
    else
      (s.putCursor p { place := .slot i 0, lost := false },
        accept (be 1 pg.state.ctorIdx ++ yesNo pg.hold ++ be 1 pg.records.length ++
          presence [pg.records.head?.isSome] ++ be 3 ((pg.records.head?.map fun r => r.seq.toNat).getD 0)))

/-- EXPORT OPEN (R153, R158). -/
def State.doExportOpen (s : State) (p : Port) (page : Nat) : State × Reply :=
  s.cancelling (s.owns p) fun s => s.openExport p page

/-- A page after a read has passed its slot 15: a CLOSED page becomes READ (R154). -/
def JournalPage.readOut (pg : JournalPage) : JournalPage :=
  if pg.state = .closed then { pg with state := .read } else pg

/-- Where a cursor goes from slot 15 of a page (R154). -/
def Journal.afterPage (j : Journal) (i : PageNo) : CursorPlace :=
  if i = j.newest then .ringEnd else .slot (i + 1) 0

/-- The reply that returns a record with its page, its slot and the page's state after the step (R154). -/
def recordReply (i : PageNo) (slot : Nat) (st : PageState) (r : Record) : Reply :=
  accept (be 1 i.val ++ be 1 slot ++ be 1 st.ctorIdx ++ r.encode)

/-- A read at a slot of a page (R154). -/
def State.readSlot (s : State) (p : Port) (i : PageNo) (slot : Nat) : State × Reply :=
  let pg := s.journal.pages[i]
  match pg.records[slot]? with
  | none => (s, refuse .endOfRecords)
  | some r =>
    if slot < 15 then (s.putCursor p { place := .slot i (slot + 1), lost := false }, recordReply i slot pg.state r)
    else
      ((s.modJournal fun j => { j with pages := putAt j.pages i pg.readOut }).putCursor p
          { place := s.journal.afterPage i, lost := false },
        recordReply i slot pg.readOut.state r)

/-- EXPORT NEXT by its own rule (R154). -/
def State.nextExport (s : State) (p : Port) : State × Reply :=
  let c := s.journal.cursors.get p
  if c.lost then (s.putCursor p cursorAbsent, refuse .lostPosition)
  else
    match c.place with
    | .absent => (s, refuse .refusedState)
    | .ringEnd => (s, refuse .endOfRecords)
    | .slot i n => s.readSlot p i n

/-- EXPORT NEXT (R154, R158). -/
def State.doExportNext (s : State) (p : Port) : State × Reply :=
  s.cancelling (s.owns p) fun s => s.nextExport p

/-- EXPORT STOP (R153, R158). -/
def State.doExportStop (s : State) (p : Port) : State × Reply :=
  s.cancelling (s.owns p) fun s => (s.putCursor p cursorAbsent, accept [])

/-! ### Holds (R156) -/

/-- A page may carry a hold: it is neither FREE nor RELEASED (R156). -/
def JournalPage.holdable (pg : JournalPage) : Bool :=
  pg.state ≠ .free && pg.state ≠ .released

/-- The state and hold flag of a page, as hold and tagging requests answer them. -/
def JournalPage.brief (pg : JournalPage) : List Byte :=
  be 1 pg.state.ctorIdx ++ yesNo pg.hold

/-- HOLD SET or HOLD CLEAR by its own rule (R156). -/
def State.putHold (s : State) (p : Port) (page : Nat) (hold : Bool) : State × Reply :=
  if s.journal.walk.isSome then (s, refuse .refusedBusy)
  else if !s.owns p then (s, refuse .notOwner)
  else
    match pageOf page with
    | none => (s, refuse .badArgument)
    | some i =>
      let pg := s.journal.pages[i]
      if hold && !pg.holdable then (s, refuse .refusedState)
      else
        (s.modJournal fun j => { j with pages := putAt j.pages i { pg with hold := hold } }, accept pg.brief)

/-- HOLD SET (R156, R158). -/
def State.doHoldSet (s : State) (p : Port) (page : Nat) : State × Reply :=
  s.cancelling true fun s => s.putHold p page true

/-- HOLD CLEAR (R156, R158). -/
def State.doHoldClear (s : State) (p : Port) (page : Nat) : State × Reply :=
  s.cancelling true fun s => s.putHold p page false

/-! ### Release (R157, R159) -/

/-- The first four tests of RELEASE FIRST and RELEASE LAST, then what the request does with its page (R157). -/
def State.tagPage (s : State) (p : Port) (page : Nat) (f : PageNo → JournalPage → State × Reply) : State × Reply :=
  if s.journal.walk.isSome then (s, refuse .refusedBusy)
  else if !s.owns p then (s, refuse .notOwner)
  else
    match pageOf page with
    | none => (s, refuse .badArgument)
    | some i => if s.journal.pages[i].state = .free then (s, refuse .refusedState) else f i s.journal.pages[i]

/-- RELEASE FIRST (R157). -/
def State.doReleaseFirst (s : State) (p : Port) (page : Nat) : State × Reply :=
  s.tagPage p page fun i pg => (s.modJournal fun j => { j with tagging := .firstTagged i }, accept pg.brief)

/-- RELEASE LAST (R157). -/
def State.doReleaseLast (s : State) (p : Port) (page : Nat) : State × Reply :=
  s.tagPage p page fun i pg =>
    match s.journal.tagging with
    | .untagged => (s, refuse .sequence)
    | .firstTagged f => (s.modJournal fun j => { j with tagging := .bothTagged f i }, accept pg.brief)
    | .bothTagged f _ => (s.modJournal fun j => { j with tagging := .bothTagged f i }, accept pg.brief)

/-- Age of a page along the non-FREE run: 0 for the oldest (R159). -/
def Journal.age (j : Journal) (i : PageNo) : Nat :=
  (i - j.oldest).val

/-- The pages of a range, in ring order (R159). -/
def rangePages (first last : PageNo) : List PageNo :=
  ((List.finRange 64).take (rangeLength first last)).map fun i => first + i

/-- The range contains the OPEN page (R159). -/
def Journal.rangeHoldsOpen (j : Journal) (first last : PageNo) : Bool :=
  (rangePages first last).any fun i => j.pages[i].state == .opened

/-- A walk at its start (R159). -/
def newWalk (first last : PageNo) : Walk :=
  { first := first, last := last, next := first, released := 0, unread := 0, held := 0 }

/-- RELEASE GO (R159). -/
def State.doReleaseGo (s : State) (p : Port) : State × Reply :=
  if s.journal.walk.isSome then (s, refuse .refusedBusy)
  else if !s.owns p then (s, refuse .notOwner)
  else
    match s.journal.tagging with
    | .untagged => (s, refuse .sequence)
    | .firstTagged _ => (s, refuse .sequence)
    | .bothTagged f l =>
      if s.journal.age l < s.journal.age f then (s.untag, refuse .range)
      else if s.journal.rangeHoldsOpen f l then (s.untag, refuse .openInRange)
      else
        (s.untag.modJournal fun j => { j with walk := some (newWalk f l) },
          accept (be 1 f.val ++ be 1 l.val ++ be 1 (rangeLength f l)))

/-! ### JOURNAL STATUS (R163) -/

/-- The records of the journal from the oldest on (R145). -/
def Journal.records (j : Journal) : List Record :=
  j.ring.flatMap fun i => j.pages[i].records

/-- One page of JOURNAL STATUS: state, hold flag, used-slot count. -/
def JournalPage.status (pg : JournalPage) : List Byte :=
  pg.brief ++ be 1 pg.records.length

/-- The tagging state with its pages, 0 where absent. -/
def Tagging.encode : Tagging → List Byte
  | .untagged => [0, 0, 0]
  | .firstTagged f => be 1 1 ++ be 1 f.val ++ be 1 0
  | .bothTagged f l => be 1 2 ++ be 1 f.val ++ be 1 l.val

/-- The release walk: whether it runs, its range, next page and counts, 0 where none runs. -/
def walkBytes (w : Option Walk) : List Byte :=
  match w with
  | none => yesNo false ++ List.replicate 6 0
  | some w =>
    yesNo true ++ be 1 w.first.val ++ be 1 w.last.val ++ be 1 w.next.val ++ be 1 w.released ++ be 1 w.unread ++
      be 1 w.held

/-- An export cursor in three bytes (R186), then its lost mark. -/
def Cursor.encode (c : Cursor) : List Byte :=
  (match c.place with
   | .absent => [0, 0, 0]
   | .slot p n => be 1 1 ++ be 1 p.val ++ be 1 n
   | .ringEnd => [2, 0, 0]) ++ yesNo c.lost

/-- A day close: first day, last day and totals; zeros when absent. -/
def closeBytes (d : Option DayClose) : List Byte :=
  match d with
  | none => List.replicate 24 0
  | some d => be 2 d.first ++ be 2 d.last ++ d.totals.encode

/-- An optional sequence number, 0 when absent. -/
def seqBytes (r : Option Record) : List Byte :=
  be 3 ((r.map fun r => r.seq.toNat).getD 0)

/-- The picture JOURNAL STATUS gives, with a presence byte before its four optional fields (R163); its 64 page
entries carry no count byte (log 20). -/
def Journal.picture (j : Journal) (p : Port) : List Byte :=
  j.pages.toList.flatMap JournalPage.status ++ be 1 j.oldest.val ++ be 1 j.newest.val ++
    presence [j.openPage.isSome, j.records.head?.isSome, j.records.getLast?.isSome, j.pendingClose.isSome] ++
    optBytes 1 (j.openPage.map (·.val)) ++ be 2 j.available ++ be 1 j.reserved ++ be 1 (if j.lowArmed then 0 else 1) ++
    seqBytes j.records.head? ++ seqBytes j.records.getLast? ++ be 3 j.nextSeq.toNat ++ closeBytes j.pendingClose ++
    walkBytes j.walk ++ j.tagging.encode ++ (j.cursors.get p).encode

/-- JOURNAL STATUS (R163, R158). -/
def State.doJournalStatus (s : State) (p : Port) : State × Reply :=
  s.cancelling (s.owns p) fun s => (s, accept (s.journal.picture p))

/-! ### Command -/

/-- A running walk takes its next step (R160). -/
def State.stepWalk (s : State) : State :=
  match s.journal.walk with
  | none => s
  | some w => s.walkStep w true

/-- RELEASE_WALK_STEP (R160). -/
def execReleaseWalkStep (s : State) : Host.Outcome State Fault Refusal :=
  s.event State.stepWalk

end Sys2Proof.Machine
end

