-- ==== Sys2Proof/Machine/Clock.lean ====
section
/-! DEFINITION. The Depot Clock (chapter 10): the midnight passage, the rollover with its day close, TIME SET and TIME
READ. -/

namespace Sys2Proof.Machine

/-- The Resource Table's rollover notice (R111). -/
def State.waterRollover (s : State) : State :=
  (s.modWater fun w => { w with fresh := w.preload, overdraw := 0 }).firstFit

/-- A day close is due at a rollover (R170). -/
def Clock.closeDue (k : Clock) : Bool :=
  k.lastClosed < k.billingDay

/-- The day close judgement: the notice, LastClosedDay and the accumulators (R170). -/
def State.closeDay (s : State) : State :=
  let k := s.clock
  if k.closeDue then
    (s.dayCloseNotice { first := k.lastClosed + 1, last := k.time.day - 1, totals := k.acc }).modClock
      fun k => { k with lastClosed := k.time.day - 1, acc := zeroTotals }
  else s

/-- One rollover (R169). -/
def State.rollover (s : State) : State :=
  ((s.waterRollover.modDisp fun d => { d with lastHaulier := none, run := 0 }).closeDay).modClock
    fun k => { k with billingDay := k.time.day }

/-- Depot time after the passage of midnight; day 65,535 stays (R166). -/
def DepotTime.nextDay (t : DepotTime) : DepotTime :=
  { day := if t.day = 65535 then 65535 else t.day + 1, secs := 0, cs := 0 }

/-- The day of depot time exceeds the billing day (R166). -/
def Clock.behind (k : Clock) : Bool :=
  k.billingDay < k.time.day

/-- The last centisecond of second 86,399, which carries into the next day. -/
def DepotTime.lastOfDay (t : DepotTime) : Bool :=
  decide (86399 ≤ t.secs) && decide (99 ≤ t.cs)

/-- The end of a day: the last centisecond of second 86,399 has passed whole (R166). -/
def Clock.atMidnight (k : Clock) : Bool :=
  k.time.lastOfDay && decide (Config.ticksPerCs ≤ k.sub)

/-- Depot time one centisecond on, within its day (R166). -/
def DepotTime.nextCs (t : DepotTime) : DepotTime :=
  if t.cs < 99 then { t with cs := t.cs + 1 } else { t with secs := t.secs + 1, cs := 0 }

/-- The clock over one tick of 10 us. The last centisecond of a day counts its ticks to the full, and the clock stands
there until the passage of midnight, which is then due (R166, log 4). -/
def Clock.tick (k : Clock) : Clock :=
  if k.sub + 1 < Config.ticksPerCs then { k with sub := k.sub + 1 }
  else if k.time.lastOfDay then { k with sub := Config.ticksPerCs }
  else { k with sub := 0, time := k.time.nextCs }

/-- The passage of midnight, with its rollover when the part runs (R166). -/
def State.passMidnight (s : State) : State :=
  let s₁ := s.modClock fun k => { k with time := k.time.nextDay, sub := 0 }
  if s₁.running && s₁.clock.behind then s₁.rollover else s₁

/-- Seconds of depot time since day 0, centiseconds disregarded (R167). -/
def DepotTime.total (t : DepotTime) : Int :=
  (t.day : Int) * 86400 + t.secs

/-- The clock adopts a time (R167). -/
def State.adopt (s : State) (t : DepotTime) : State :=
  s.modClock fun k => { k with time := t, sub := 0 }

/-- CLOCK-STEP beyond the tolerance (R167). -/
def State.noteStep (s : State) (p : Port) (before after : DepotTime) : State :=
  let d := after.total - before.total
  if s.active.clockTolerance < d.natAbs then s.latch (.clockStep p before after d) else s

/-- The rollover indication: NONE 0, ROLLOVER 1, ROLLOVER-CLOSE 2 (R167). -/
def Clock.indication (k : Clock) (day : Nat) : Nat :=
  if day ≤ k.billingDay then 0 else if k.closeDue then 2 else 1

/-- After a TIME SET: one rollover for a greater day, otherwise the billing day takes the given day (R167, R171). -/
def State.afterSet (s : State) : State :=
  if s.clock.behind then s.rollover else s.modClock fun k => { k with billingDay := k.time.day }

/-- TIME SET (R167). -/
def State.doTimeSet (s : State) (p : Port) (day secs : Nat) : State × Reply :=
  if 65535 < day ∨ 86399 < secs then (s, refuse .badArgument)
  else
    let old := s.clock.time
    let new : DepotTime := { day := day, secs := secs, cs := 0 }
    (((s.adopt new).noteStep p old new).afterSet,
      accept (timeBytes old ++ signedBytes (new.total - old.total) ++ be 1 (s.clock.indication day)))

/-- TIME READ (R168). -/
def State.doTimeRead (s : State) : Reply :=
  let k := s.clock
  accept (timeBytes k.time ++ be 2 k.billingDay ++ be 2 k.lastClosed ++ k.acc.encode)

/-- MIDNIGHT_PASSAGE (R166): the clock runs in every phase of the part. Away from the end of a day there is no passage, as
after a TIME SET that was taken first (R167). -/
def execMidnightPassage (s : State) : Host.Outcome State Fault Refusal :=
  .next (if s.clock.atMidnight then s.settleSign s.passMidnight else s)

end Sys2Proof.Machine
end

