-- ==== Sys2Proof/Machine/Passes.lean ====
section
/-! DEFINITION. The Dispatcher (chapter 04): account holds, credit, the dispatch pass with its fairness and call
conditions, the call, and the sign port's end of message. -/

namespace Sys2Proof.Machine

/-! ### Account holds and credit -/

/-- The haulier of the visit a bay has called or is washing (R61). -/
def State.bayHaulier (s : State) (b : Bay) : Option Haulier :=
  match (s.bays.get b).state with
  | .called => (s.calledTo b).bind (·.haulier)
  | .washing => ((s.record b).bind (·.visit)).bind (·.haulier)
  | .closed => none
  | .idle => none
  | .exit => none
  | .fault => none

/-- The base price in a bay's snapshot. -/
def State.snapshotPrice (s : State) (b : Bay) : Nat :=
  ((s.record b).map (·.terms.basePrice)).getD 0

/-- The committed amount of a haulier (R61). -/
def State.committed (s : State) (h : Haulier) : Nat :=
  (allBays.map fun b => if s.bayHaulier b = some h then s.snapshotPrice b else 0).sum

/-- The credit check of a haulier at a base price (R61). -/
def State.creditOk (s : State) (h : Haulier) (price : Nat) : Bool :=
  let limit := s.hauliers[h].limit
  limit = 0 || s.journal.balances[h] + s.committed h + price ≤ limit

/-- What a MATCHED visit is to be charged by: its haulier, programme and class. -/
structure VisitTerms where
  haulier : Haulier
  programme : Nat
  cls : Nat
deriving DecidableEq, Repr

/-- The haulier, programme and class of a MATCHED visit that has all three. -/
def Visit.terms (v : Visit) : Option VisitTerms :=
  match v.ident, v.haulier, v.programme, v.cls with
  | .matched, some h, some p, some c => some { haulier := h, programme := p, cls := c }
  | _, _, _, _ => none

/-- The account hold of a visit (R60). -/
def State.accountHold (s : State) (v : Visit) : HoldReason :=
  match v.terms with
  | none => .noHold
  | some t =>
    if s.hauliers[t.haulier].state ≠ .opened then .onStop
    else if s.active.basePrice t.programme t.cls = 0 then .noTariff
    else if s.creditOk t.haulier (s.active.basePrice t.programme t.cls) then .noHold
    else .credit

/-- The Dispatcher writes a hold reason: VISIT-HELD on a passage from NONE, no visit-change notice (R59, R60). -/
def State.writeHold (s : State) (v : Visit) (h : HoldReason) : State :=
  (s.putVisit { v with hold := h }).noteHeld v { v with hold := h }

/-- A visit whose account hold a pass evaluates: no call, and no identification hold (R60). The identification hold is
the one the visit's marks give as the pass finds them (R29, log 43). -/
def Visit.evaluated (v : Visit) : Bool :=
  v.call.isNone && v.identHold = .noHold

/-- The evaluation at the start of a pass (R60), from the head of the queue: the order, which decides the newest
VISIT-HELD, is the model's choice (log 47). -/
def State.evaluateHolds (s : State) : State :=
  s.queue.foldl (fun s v => if v.evaluated then s.writeHold v (s.accountHold v) else s) s

/-! ### The walk over the bays -/

/-- A visit that is eligible for a bay but for its credit, and fits it (R62, R63). -/
def State.fitsBay (s : State) (b : Bay) (v : Visit) : Bool :=
  v.evaluated &&
    (match v.terms with
     | none => false
     | some t =>
       s.hauliers[t.haulier].state = .opened && s.active.basePrice t.programme t.cls ≠ 0 &&
         t.cls ≤ s.active.classLimit b)

/-- The credit check of a visit at this point of the pass. -/
def State.visitCredit (s : State) (v : Visit) : Bool :=
  match v.terms with
  | none => false
  | some t => s.creditOk t.haulier (s.active.basePrice t.programme t.cls)

/-- The first visit of a list that fits a bay and passes its credit check; those whose check fails take hold CREDIT on
the way (R62, R63). A visit of a class too large for the bay is not considered, and its credit not checked (log 45). -/
def State.firstFitting (b : Bay) : List Visit → State → State × Option Visit
  | [], s => (s, none)
  | v :: l, s =>
    if s.fitsBay b v then
      if s.visitCredit v then (s, some v) else State.firstFitting b l (s.writeHold v .credit)
    else State.firstFitting b l s

/-- The candidate must give way for fairness (R64 conditions 1 to 3). -/
def State.runReached (s : State) (v : Visit) : Bool :=
  match v.haulier, s.disp.lastHaulier with
  | some h, some last => h = last && s.hauliers[h].quota ≠ 0 && s.hauliers[h].quota ≤ s.disp.run
  | _, _ => false

/-- The choice for a bay: the candidate of R63, replaced by R64. -/
def State.choose (s : State) (b : Bay) : State × Option Visit :=
  let r := State.firstFitting b s.queue s
  match r.2 with
  | none => r
  | some v =>
    if r.1.runReached v then
      let o := State.firstFitting b (r.1.queue.filter fun x => x.haulier ≠ v.haulier) r.1
      (o.1, o.2.or (some v))
    else r

/-- The terms snapshot of a call (R66). -/
def State.snapshot (s : State) (t : VisitTerms) : Snapshot :=
  { programme := t.programme, phases := s.active.phases t.programme,
    basePrice := s.active.basePrice t.programme t.cls, freshRate := s.active.freshRate,
    reclaimRate := s.active.reclaimRate, discount := s.hauliers[t.haulier].discount, generation := s.generation }

/-- A phase entry as it starts (R78). -/
def freshEntry : PhaseEntry :=
  { status := .notReached, rPhase := 0, lb := 0, lf := 0, fk := 0, degraded := false, lost := false }

/-- The work record as a call starts it (R66, R78). -/
def newRecord (now : DepotTime) (t : Snapshot) : WorkRecord :=
  { callTime := now, terms := t, visit := none, startTime := none, endTime := none, phase := 0, sub := .outside,
    claimTank := none, claim := 0, abort := .unmarked, chargeSeq := none,
    entries := t.phases.map fun _ => freshEntry }

/-- The fairness state after a call (R67). -/
def Dispatcher.admitted (d : Dispatcher) (h : Haulier) : Dispatcher :=
  if d.lastHaulier = some h then { d with run := satAdd 255 d.run 1 } else { d with lastHaulier := some h, run := 1 }

/-- A call of a visit to a bay (R66). -/
def State.callVisit (s : State) (b : Bay) (v : Visit) (t : VisitTerms) : State :=
  (((s.putVisit { v with call := some b }).reserve.modBay b fun u =>
    { u with state := .called, record := some (newRecord s.clock.time (s.snapshot t)),
             call := some (s.afterSeconds s.active.callTimeout) }).modDisp
      fun d => { d with lines := d.lines ++ [⟨b, v.number⟩] }).modDisp fun d => d.admitted t.haulier

/-- The three call conditions (R65). -/
def State.mayCall (s : State) : Bool :=
  s.disp.lines.length < Config.callLineCapacity && s.journal.takesCall

/-- A bay is considered (R63). -/
def State.considers (s : State) (b : Bay) : Bool :=
  s.bayIsOpen b && (s.bays.get b).state = .idle && !s.lines.presence.get b

/-- The walk over bays; it stops at a bay whose call conditions fail (R63, R65). -/
def State.walkBays : List Bay → State → State
  | [], s => s
  | b :: l, s =>
    if s.considers b then
      let r := s.choose b
      match r.2 with
      | none => State.walkBays l r.1
      | some v =>
        match v.terms with
        | none => State.walkBays l r.1
        | some t => if r.1.mayCall then State.walkBays l (r.1.callVisit b v t) else r.1
    else State.walkBays l s

/-- A dispatch pass, if the pass-request mark is set (R59, R63). -/
def State.dispatchPass (s : State) : State :=
  if s.disp.mark then State.walkBays allBays ((s.modDisp fun d => { d with mark := false }).evaluateHolds) else s

/-! ### Sign port -/

/-- A sign message has been sent; a further one follows if the memory changed meanwhile (R75). -/
def State.signSent (s : State) : State :=
  match s.disp.sending with
  | none => s
  | some _ =>
    if s.disp.again then s.beginSign else s.modDisp fun d => { d with sending := none }

/-! ### Commands -/

/-- DISPATCH_PASS (R63). -/
def execDispatchPass (s : State) : Host.Outcome State Fault Refusal :=
  s.event State.dispatchPass

/-- SIGN_MESSAGE_SENT (R75): taken in start-up too, for the blank message of a reset. -/
def execSignMessageSent (s : State) : Host.Outcome State Fault Refusal :=
  .next s.signSent

end Sys2Proof.Machine
end

