-- ==== Sys2Proof/Machine/Tanks.lean ====
section
/-! DEFINITION. The Tank Sequencer and the Probe Converter (chapter 07): the tank cycle, service and handover, sampling
and its judgement, conversions and their requesters, the tank requests and the commands of the tank lines. -/

namespace Sys2Proof.Machine

/-! ### Converter requests (R128) -/

/-- An entry that names a probe and has no requester yet. -/
def bareRequest (p : Probe) : ConvRequest :=
  { probe := p, tank := false, spot1 := false, spot2 := false }

/-- An entry still has a requester. -/
def ConvRequest.wanted (e : ConvRequest) : Bool :=
  e.tank || e.spot1 || e.spot2

/-- A request joins at the tail, or is merged into the entry that names its probe (R128). -/
def joinRequests (l : List ConvRequest) (p : Probe) (add : ConvRequest → ConvRequest) : List ConvRequest :=
  if l.any fun e => e.probe == p then l.map fun e => if e.probe = p then add e else e
  else l ++ [add (bareRequest p)]

/-- A conversion begins when the converter is idle and its queue is not empty (R126). -/
def Converter.kick (c : Converter) (nRef : Nat) : Converter :=
  if c.phase = .idle ∧ c.requests ≠ [] then
    { c with phase := .reference, nRef := nRef, up := BitVec.ofNat 16 (65536 - nRef), time := 0, saturated := false }
  else c

/-- A conversion is requested (R126, R128). -/
def State.request (s : State) (p : Probe) (add : ConvRequest → ConvRequest) : State :=
  s.modConv fun c => { c with requests := joinRequests c.requests p add }.kick s.active.nRef

/-- A tank requests its two probes, SALT then TURB (R116, R120). -/
def State.requestBoth (s : State) (t : Tank) : State :=
  (s.request (saltProbe t) fun e => { e with tank := true }).request (turbProbe t) fun e => { e with tank := true }

/-- An entry after a tank has withdrawn from it. -/
def ConvRequest.dropTank (t : Tank) (e : ConvRequest) : ConvRequest :=
  if probeTank e.probe = t then { e with tank := false } else e

/-- The entries after a tank's withdrawal: waiting entries left with no requester leave; the one converting stays
(R128). -/
def Converter.withdraw (c : Converter) (t : Tank) : Converter :=
  match c.phase, c.requests.map (ConvRequest.dropTank t) with
  | .idle, l => { c with requests := l.filter ConvRequest.wanted }
  | _, [] => { c with requests := [] }
  | _, e :: l => { c with requests := e :: l.filter ConvRequest.wanted }

/-! ### Tank states -/

/-- Where a tank that enters a state comes to rest, by the switches (R113). -/
def restState (low high : Bool) (st : TankState) : TankState :=
  let fill : TankState := if high then .settling else .filling
  match st with
  | .filling => fill
  | .dumping => if low then fill else .dumping
  | .sampling => if low then fill else .sampling
  | .ready => if low then fill else .ready
  | .service => if low then fill else .service
  | .settling => .settling
  | .held => .held

/-- The same by a tank's own switches. -/
def State.restOf (s : State) (t : Tank) (st : TankState) : TankState :=
  restState (s.lines.low.get t) (s.lines.high.get t) st

/-- The valves a tank's state drives (07 Table 1-3). -/
def TankUnit.drive (u : TankUnit) : TankUnit :=
  { u with inlet := u.state == .filling, dump := u.state == .dumping, outlet := u.state == .service }

/-- A sampling or resampling is in progress: some result is awaited or received. -/
def TankUnit.sampled (u : TankUnit) : Bool :=
  u.salt ≠ .notAwaited || u.turb ≠ .notAwaited

/-- A tank abandons its sampling, if it has one (R118). -/
def State.abandon (s : State) (t : Tank) : State :=
  if (s.tanks.get t).sampled then
    (s.modConv fun c => c.withdraw t).modTank t fun u => { u with salt := .notAwaited, turb := .notAwaited, fault := none }
  else s

/-- Both probes of a tank become awaited with fault count 0, and are requested (R116, R120). -/
def State.beginSampling (s : State) (t : Tank) : State :=
  (s.modTank t fun u => { u with fault := none, salt := .awaited, turb := .awaited }).requestBoth t

/-- The timers and requests of the state a tank has entered (R114, R116, R119). -/
def State.startState (s : State) (t : Tank) : State :=
  match (s.tanks.get t).state with
  | .settling => s.modTank t fun u => { u with settleTimer := some (s.afterMinutes s.active.settlingTime) }
  | .sampling => s.beginSampling t
  | .service => s.modTank t fun u => { u with resampleTimer := some (s.afterMinutes s.active.resampleInterval) }
  | .filling => s
  | .ready => s
  | .dumping => s
  | .held => s

/-- A tank goes to a state: a sampling is abandoned, its timers stop, its valves are set, and it comes to rest where the
switches let it (R113, R118). -/
def State.setTank (s : State) (t : Tank) (st : TankState) : State :=
  ((s.abandon t).modTank t fun u =>
    { u with state := s.restOf t st, settleTimer := none, settleLeft := none, resampleTimer := none }.drive).startState t

/-- The share a tank publishes while it serves (R130). -/
def State.shareOf (s : State) (t : Option Tank) : Option Nat :=
  t.bind fun t => (s.tanks.get t).share

/-- TANK-CHANGE, if the service tank has changed (R119). -/
def State.noteService (s : State) (before : Option Tank) (cause : TankCause) : State :=
  if before = s.service then s else s.latch (.tankChange before s.service cause (s.shareOf s.service))

/-- A tank takes SERVICE, unless its LOW switch sends it on (R113, R119). -/
def State.takeService (s : State) (t : Tank) : State :=
  let s₁ := s.setTank t .service
  if s.restOf t .service = .service then { s₁ with service := some t } else s₁

/-- A READY tank is promoted when the service tank leaves (R119). -/
def State.promote (s : State) (t : Tank) : State :=
  if (s.tanks.get t).state = .ready then s.takeService t else s

/-- A tank leaves its state for another. A service tank leaves with its reclaim-loss notice, the handover to a READY
tank, and TANK-CHANGE (R119, R121). -/
def State.moveTank (s : State) (t : Tank) (st : TankState) (cause : TankCause) : State :=
  if s.service = some t then
    ((({ s.reclaimLoss t with service := none }).setTank t st).promote (otherTank t)).noteService (some t) cause
  else s.setTank t st

/-! ### Judgement -/

/-- The reclaim share of a salinity under two thresholds (R130). -/
def shareFor (qSalt qLow qHigh : Nat) : Nat :=
  if qSalt ≤ qLow then 256
  else if qHigh ≤ qSalt then 0
  else 256 * (qHigh - qSalt) / (qHigh - qLow)

/-- The pair of results passes (R116). -/
def Bank.samplePasses (b : Bank) (salt turb : Reading) : Bool :=
  turb.q ≤ b.tLimit && salt.q < b.qDump

/-- A tank whose sampling has passed: a new R, and SERVICE or READY, or in SERVICE a new resample interval (R116,
R120). -/
def State.passTank (s : State) (t : Tank) (share : Nat) : State :=
  let s₁ := s.modTank t fun u => { u with share := some share }
  if (s.tanks.get t).state = .service then
    s₁.modTank t fun u => { u with resampleTimer := some (s.afterMinutes s.active.resampleInterval) }
  else if s.service = none then (s₁.takeService t).noteService none .samplePass
  else s₁.setTank t .ready

/-- A tank whose sampling has failed: R cleared, DUMPING (R116, R120). -/
def State.failTank (s : State) (t : Tank) : State :=
  (s.modTank t fun u => { u with share := none }).moveTank t .dumping .resampleFail

/-- A tank judges its pair of results; the awaited results are cleared (R116). -/
def State.judge (s : State) (t : Tank) (salt turb : Reading) : State :=
  let s₁ := s.modTank t fun u =>
    { u with qSalt := some salt, qTurb := some turb, salt := .notAwaited, turb := .notAwaited }
  if s.active.samplePasses salt turb then s₁.passTank t (shareFor salt.q s.active.qLow s.active.qHigh)
  else s₁.failTank t

/-- Does a probe measure salinity? -/
def isSalt : Probe → Bool
  | .aSalt => true
  | .bSalt => true
  | .aTurb => false
  | .bTurb => false

/-- The awaited result of one probe of a tank. -/
def TankUnit.slot (u : TankUnit) (p : Probe) : Awaited :=
  if isSalt p then u.salt else u.turb

/-- A result is received for a probe. -/
def TankUnit.receive (u : TankUnit) (p : Probe) (r : Reading) : TankUnit :=
  if isSalt p then { u with salt := .received r } else { u with turb := .received r }

/-- The judgement, once both results are received (R116). -/
def State.judgeIfBoth (s : State) (t : Tank) : State :=
  match (s.tanks.get t).salt, (s.tanks.get t).turb with
  | .received x, .received y => s.judge t x y
  | _, _ => s

/-- A converter fault for a tank: the first is retried, the second sends the tank to HELD with PROBE-FAULT (R117). -/
def State.faultTank (s : State) (t : Tank) (f : ProbeFault) : State :=
  match (s.tanks.get t).fault with
  | none => (s.modTank t fun u => { u with fault := some f }).request f.probe fun e => { e with tank := true }
  | some first =>
    (s.latch (.probeFault t (s.tanks.get t).state first f)).moveTank t .held .probeFault

/-- A result is delivered to a tank that awaits it (R116, R117, R128). -/
def State.deliver (s : State) (p : Probe) (o : OutcomeKind) (r : Option Reading) : State :=
  let t := probeTank p
  if (s.tanks.get t).slot p = .awaited then
    match r with
    | some x => (s.modTank t fun u => u.receive p x).judgeIfBoth t
    | none => s.faultTank t { probe := p, outcome := o }
  else s

/-! ### Conversions -/

/-- Q of a count of P periods (R127). -/
def scaled (periods nRef : Nat) : Nat :=
  min 65535 (periods * 1024 / nRef)

/-- The outcome of a PROBE phase, by the up-counter and the SATURATED flag at its end (R127). -/
def probeOutcome (periods : Nat) (saturated : Bool) : OutcomeKind :=
  if saturated then .saturated else if periods < 8 then .openProbe else .good

/-- The reading of an outcome, if it has a Q (R127). -/
def readingOf (o : OutcomeKind) (p nRef : Nat) : Option Reading :=
  match o with
  | .span => none
  | .openProbe => none
  | .saturated => some { q := scaled p nRef, saturated := true }
  | .good => some { q := scaled p nRef, saturated := false }

/-- SPOT-RESULT of an entry that a port asked for (R129). -/
def State.spotResult (s : State) (e : ConvRequest) (o : OutcomeKind) (p : Option Nat) (r : Option Reading) : State :=
  if e.spot1 || e.spot2 then
    s.latch (.spotResult e.probe o p (r.map (·.q)) (o == .saturated) s.conv.nRef e.spot1 e.spot2 s.clock.time)
  else s

/-- The result of an entry goes to its requesters (R126, R128, R129). -/
def State.giveResult (s : State) (e : ConvRequest) (o : OutcomeKind) (p : Option Nat) (r : Option Reading) : State :=
  let s₁ := s.spotResult e o p r
  if e.tank then s₁.deliver e.probe o r else s₁

/-- A conversion ends: its entry leaves the queue, the converter is idle, the result is delivered, and the next
conversion begins (R126). -/
def State.endConversion (s : State) (o : OutcomeKind) (p : Option Nat) (r : Option Reading) : State :=
  match s.conv.requests with
  | [] => s.modConv fun c => { c with phase := .idle }
  | e :: l =>
    ((s.modConv fun c => { c with phase := .idle, requests := l }).giveResult e o p r).modConv
      fun c => c.kick s.active.nRef

/-- The PROBE phase is at its end: the time counter has come down to 0 (R126). -/
def Converter.probeOver (c : Converter) : Bool :=
  c.phase == .probe && c.time == 0

/-- The reference count is done: it has carried the up-counter to 0 (R126). -/
def Converter.referenceOver (c : Converter) : Bool :=
  c.phase == .reference && c.up == 0

/-- The next tick would carry the time counter past 65,535 in REFERENCE (R127). -/
def Converter.spanOver (c : Converter) : Bool :=
  c.phase == .reference && c.up != 0 && c.time == 0xFFFF#16

/-- A conversion ends with the time counter at 0; its P is the value of the up-counter, and no other (R126, R127, log 9). -/
def State.conversionEnd (s : State) (periods : Nat) : State :=
  if s.conv.probeOver ∧ periods = s.conv.up.toNat then
    let o := probeOutcome periods s.conv.saturated
    s.endConversion o (some periods) (readingOf o periods s.conv.nRef)
  else s

/-- The reference count done, the converter enters PROBE; the up-counter counts on from 0 (R126). -/
def Converter.referenceDone (c : Converter) : Converter :=
  if c.referenceOver then { c with phase := .probe } else c

/-- SPAN ends a conversion in REFERENCE (R127). -/
def State.spanEnd (s : State) : State :=
  if s.conv.spanOver then s.endConversion .span none none else s

/-- A tick in REFERENCE, with the periods of the reference cell that end in it (R126). -/
def Converter.tickReference (c : Converter) (periods : Nat) : Converter :=
  { c with time := c.time + 1, up := if 65536 ≤ c.up.toNat + periods then 0 else c.up + BitVec.ofNat 16 periods }

/-- A tick in PROBE, with the probe periods that end in it: past 65,535 the up-counter stays and the SATURATED flag is
set (R126, R127). -/
def Converter.tickProbe (c : Converter) (periods : Nat) : Converter :=
  { c with time := c.time - 1, up := BitVec.ofNat 16 (min 65535 (c.up.toNat + periods)),
           saturated := c.saturated || decide (65535 < c.up.toNat + periods) }

/-- One tick of the timebase at the converter: it counts until its phase is at its end (R126, log 9). -/
def Converter.tick (c : Converter) (reference probe : Nat) : Converter :=
  match c.phase with
  | .idle => c
  | .reference => if c.referenceOver || c.spanOver then c else c.tickReference reference
  | .probe => if c.probeOver then c else c.tickProbe probe

/-! ### Switches and timers -/

/-- A LOW switch asserts (07 Table 2-1). -/
def State.lowAsserted (s : State) (t : Tank) : State :=
  match (s.tanks.get t).state with
  | .settling => s.setTank t .filling
  | .sampling => s.setTank t .filling
  | .ready => s.setTank t .filling
  | .service => (s.reclaimLoss t).moveTank t .filling .lowSwitch
  | .dumping => s.setTank t .filling
  | .filling => s
  | .held => s

/-- A HIGH switch asserts (07 Table 2-1). -/
def State.highAsserted (s : State) (t : Tank) : State :=
  if (s.tanks.get t).state = .filling then s.setTank t .settling else s

/-- A settle timer expires, where it runs (R114). -/
def State.tankSettled (s : State) (t : Tank) : State :=
  let u := s.tanks.get t
  if u.state = .settling ∧ u.settleTimer.isSome then s.setTank t .sampling else s

/-- A resample timer expires, where it runs (R120). -/
def State.resampleDue (s : State) (t : Tank) : State :=
  let u := s.tanks.get t
  if u.state = .service ∧ u.resampleTimer.isSome then
    (s.modTank t fun u => { u with resampleTimer := none }).beginSampling t
  else s

/-! ### Requests -/

/-- TANK DUMP or TANK HOLD of a tank (R123). -/
def State.sendTank (s : State) (tank : Nat) (st : TankState) (cause : TankCause) : State × Reply :=
  match tankOf tank with
  | none => (s, refuse .badArgument)
  | some t =>
    let old := (s.tanks.get t).state
    if old = st then (s, refuse .refusedState)
    else
      ((s.modTank t fun u => { u with share := none }).moveTank t st cause, accept (be 1 old.ctorIdx))

/-- TANK DUMP (R123). -/
def State.doTankDump (s : State) (tank : Nat) : State × Reply :=
  s.sendTank tank .dumping .tankDump

/-- TANK HOLD (R123). -/
def State.doTankHold (s : State) (tank : Nat) : State × Reply :=
  s.sendTank tank .held .tankHold

/-- TANK RESUME (R124). -/
def State.doTankResume (s : State) (tank : Nat) : State × Reply :=
  match tankOf tank with
  | none => (s, refuse .badArgument)
  | some t =>
    if (s.tanks.get t).state = .held then
      let s' := s.setTank t (if s.lines.high.get t then .sampling else .filling)
      (s', accept (be 1 (s'.tanks.get t).state.ctorIdx))
    else (s, refuse .refusedState)

/-- TANK SERVE (R124). -/
def State.doTankServe (s : State) (tank : Nat) : State × Reply :=
  match tankOf tank with
  | none => (s, refuse .badArgument)
  | some t =>
    if (s.tanks.get t).state = .ready ∧ s.service = none then
      ((s.takeService t).noteService none .tankServe, accept [])
    else (s, answer .refusedState (be 1 s.tanks.a.state.ctorIdx ++ be 1 s.tanks.b.state.ctorIdx))

/-- Open is coded 0 and closed 1 (07 Table 0-1 lists them so; log 22). -/
def valveByte (isOpen : Bool) : List Byte :=
  [if isOpen then 0 else 1]


/-- Minutes left on a tank's running timer, truncated; none where no timer runs (log 22). -/
def State.tankMinutesLeft (s : State) (u : TankUnit) : Option Nat :=
  (u.settleTimer.or u.resampleTimer).map fun d => (d - s.laneTime) / 60000

/-- A reading's Q and SATURATED flag, 0 where absent. -/
def readingBytes (r : Option Reading) : List Byte :=
  be 2 ((r.map (·.q)).getD 0) ++ yesNo ((r.map (·.saturated)).getD false)

/-- An awaited result: its code, then its Q with its SATURATED flag, 0 where it has none (R127, log 22). -/
def Awaited.encode : Awaited → List Byte
  | .notAwaited => be 1 0 ++ readingBytes none
  | .awaited => be 1 1 ++ readingBytes none
  | .received r => be 1 2 ++ readingBytes (some r)

/-- One tank of TANK STATUS (R125); a switch that is asserted is coded 1 (log 22). -/
def State.tankBytes (s : State) (t : Tank) : List Byte :=
  let u := s.tanks.get t
  let left := s.tankMinutesLeft u
  be 1 u.state.ctorIdx ++ yesNo (s.lines.low.get t) ++ yesNo (s.lines.high.get t) ++ valveByte u.inlet ++
    valveByte u.dump ++ valveByte u.outlet ++
    presence [u.qSalt.isSome, u.qTurb.isSome, u.share.isSome, left.isSome] ++ readingBytes u.qSalt ++
    readingBytes u.qTurb ++ optBytes 2 u.share ++ optBytes 1 left ++ u.salt.encode ++ u.turb.encode ++
    be 1 (if u.fault.isSome then 1 else 0)

/-- The probe being converted, if the converter is not idle (R126). -/
def Converter.converting (c : Converter) : Option Probe :=
  if c.phase = .idle then none else c.requests.head?.map (·.probe)

/-- One entry of the request queue: its probe and its requesters as flags: the tank, port 1, port 2 (log 22). -/
def ConvRequest.encode (e : ConvRequest) : List Byte :=
  be 1 (probeCode e.probe) ++ be 1 (flagByte [e.tank, e.spot1, e.spot2])

/-- TANK STATUS (R125). -/
def State.doTankStatus (s : State) : Reply :=
  let c := s.conv
  accept (tankByte s.service ++ s.tankBytes .a ++ s.tankBytes .b ++ be 1 c.phase.ctorIdx ++
    presence [c.converting.isSome] ++ optBytes 1 (c.converting.map probeCode) ++ be 1 c.requests.length ++
    c.requests.flatMap ConvRequest.encode)

/-- A port added as a requester. -/
def addSpot (p : Port) (e : ConvRequest) : ConvRequest :=
  match p with
  | .one => { e with spot1 := true }
  | .two => { e with spot2 := true }

/-- The place of a probe in the request queue, 1 for its head (R129). -/
def placeOf (p : Probe) (l : List ConvRequest) : Nat :=
  l.findIdx (fun e => e.probe == p) + 1

/-- SPOT SAMPLE (R129). -/
def State.doSpotSample (s : State) (port : Port) (probe : Nat) : State × Reply :=
  match probeOf probe with
  | none => (s, refuse .badArgument)
  | some p =>
    let s' := s.request p (addSpot port)
    (s', accept (be 1 (placeOf p s'.conv.requests)))

/-! ### Commands -/

/-- LOW_SWITCH_ASSERT (R115). The level is followed at all times. -/
def execLowSwitchAssert (tank : Tank) (s : State) : Host.Outcome State Fault Refusal :=
  (s.modLines fun l => { l with low := l.low.set tank true }).event fun s => s.lowAsserted tank

/-- LOW_SWITCH_CLEAR (R115): nothing but the level changes. -/
def execLowSwitchClear (tank : Tank) (s : State) : Host.Outcome State Fault Refusal :=
  .next (s.modLines fun l => { l with low := l.low.set tank false })

/-- HIGH_SWITCH_ASSERT (R114). The level is followed at all times. -/
def execHighSwitchAssert (tank : Tank) (s : State) : Host.Outcome State Fault Refusal :=
  (s.modLines fun l => { l with high := l.high.set tank true }).event fun s => s.highAsserted tank

/-- HIGH_SWITCH_CLEAR (R115): nothing but the level changes. -/
def execHighSwitchClear (tank : Tank) (s : State) : Host.Outcome State Fault Refusal :=
  .next (s.modLines fun l => { l with high := l.high.set tank false })

/-- TANK_SETTLE_EXPIRY (R114). -/
def execTankSettleExpiry (tank : Tank) (s : State) : Host.Outcome State Fault Refusal :=
  s.event fun s => s.tankSettled tank

/-- RESAMPLE_EXPIRY (R120). -/
def execResampleExpiry (tank : Tank) (s : State) : Host.Outcome State Fault Refusal :=
  s.event fun s => s.resampleDue tank

/-- REFERENCE_COUNT_DONE (R126): where the up-counter stands at 0 in REFERENCE. -/
def execReferenceCountDone (s : State) : Host.Outcome State Fault Refusal :=
  s.event fun s => s.modConv Converter.referenceDone

/-- CONVERSION_END (R127), with P: where the time counter stands at 0 in PROBE and the up-counter at P. -/
def execConversionEnd (periods : Nat) (s : State) : Host.Outcome State Fault Refusal :=
  s.event fun s => s.conversionEnd periods

/-- SPAN (R127): where the time counter stands at 65,535 in REFERENCE. -/
def execSpan (s : State) : Host.Outcome State Fault Refusal :=
  s.event State.spanEnd

end Sys2Proof.Machine
end

