-- ==== Sys2Proof/Machine/StartUp.lean ====
section
/-! DEFINITION. Resets, power and start-up (chapter 12): what every reset stops, the store check with its cold or warm
start, the recovery of washes, and the end of start-up. -/

namespace Sys2Proof.Machine

/-! ### What a reset does (R188 and the reset rule of each block) -/

/-- A bay at a reset: outputs low and closed, timers stopped, counters 0; its state and record are kept (R76). -/
def BayUnit.quiet (u : BayUnit) : BayUnit :=
  { bayClosed with state := u.state, record := u.record }

/-- A tank at a reset: valves closed; the settle timer's remaining time is kept; what is not retained is gone (R112). -/
def TankUnit.quiet (u : TankUnit) (now : Nat) : TankUnit :=
  { u with settleTimer := none, settleLeft := (u.settleTimer.map fun d => d - now).or u.settleLeft,
           resampleTimer := none, salt := .notAwaited, turb := .notAwaited, fault := none, inlet := false,
           dump := false, outlet := false }

/-- The Resource Table at a reset (R96, R102). -/
def Resources.quiet (w : Resources) : Resources :=
  { w with bayOpen := 0, owner := none, waits := [] }

/-- The Charge Journal at a reset (R144, R153). -/
def Journal.quiet (j : Journal) : Journal :=
  { j with cursors := { p1 := cursorAbsent, p2 := cursorAbsent }, tagging := .untagged, lowArmed := true }

/-- Every block stopped by a reset or a power loss; retained state and the line levels are kept. -/
def State.stopAll (s : State) : State :=
  { s with
    lane := laneReset, queue := [], staging := none, disp := dispatcherReset s.timebase,
    bays := s.bays.map BayUnit.quiet, water := s.water.quiet, tanks := s.tanks.map fun u => u.quiet s.laneTime,
    service := none, conv := converterReset, journal := s.journal.quiet, links := ⟨linkReset, linkReset⟩ }

/-- A start-up at its beginning, before the store check (R187). -/
def partAt (c : ResetCause) : Part :=
  { phase := .checking, startKind := .pending, cause := c, recovered := 0, walkFinished := false }

/-- The store after a reset: a CLEAR STORE leaves no section valid (R185, R187). -/
def storeAfter (c : ResetCause) (k : StoreChecks) : StoreChecks :=
  match c with
  | .clearStore => noChecks
  | .powerOn => k
  | .resetLine => k
  | .resetRequest => k

/-- A reset (R187, R188). -/
def State.takeReset (s : State) (c : ResetCause) : State :=
  { s.stopAll with part := partAt c, store := storeAfter c s.store }

/-- Main power fails: everything stops, and only the clock runs on (R165). -/
def State.loseMain (s : State) : State :=
  { s.stopAll with part := { partAt .powerOn with phase := .off } }.modDisp fun d => { d with sending := none }

/-! ### The store check -/

/-- Every section's check word is valid (R187). -/
def checksValid (k : StoreChecks) : Bool :=
  k.terms && k.hauliers && k.register && k.water && k.journal && k.clock && k.tanks && k.records && k.counter

/-- Sections that were valid and are still found so. -/
def checksBoth (a b : StoreChecks) : StoreChecks :=
  { terms := a.terms && b.terms, hauliers := a.hauliers && b.hauliers, register := a.register && b.register,
    water := a.water && b.water, journal := a.journal && b.journal, clock := a.clock && b.clock,
    tanks := a.tanks && b.tanks, records := a.records && b.records, counter := a.counter && b.counter }

/-- The factory load of a cold start (R189); the clock's prescaler begins at 0 too (log 4). -/
def State.loadFactory (s : State) : State :=
  { s with
    nextVisit := 1, register := [], hauliers := hauliersFactory, active := defaultBank, generation := 0,
    water := waterFactory, tanks := ⟨tankFactory, tankFactory⟩, journal := journalFactory, clock := clockFactory,
    bays := .all bayClosed, store := allChecks }

/-- The clearings of R191. -/
def State.rebuild (s : State) : State :=
  { s with
    queue := [], bays := .all bayClosed, lane := laneReset, water := s.water.quiet, staging := none,
    journal := { s.journal with cursors := { p1 := cursorAbsent, p2 := cursorAbsent }, tagging := .untagged } }

/-- A phase that stood in RUN or RUN-ON takes status ABORTED; its F_k is computed, or 0 (R190 steps 1 and 2). -/
def WorkRecord.cutOff (r : WorkRecord) : WorkRecord :=
  r.modEntry fun e =>
    if r.sub = .run ∨ r.sub = .runOn then
      { e with status := .aborted, fk := freshLitres e.rPhase e.lb e.lf }
    else { e with status := .notReached, fk := 0 }

/-- F_k of the current phase. -/
def WorkRecord.freshNow (r : WorkRecord) : Nat :=
  (r.entry.map (·.fk)).getD 0

/-- A wash recovered: settled, priced, appended, reported, and its record cleared (R190 steps 1 to 6). -/
def State.recoverWash (s : State) (b : Bay) (r : WorkRecord) : State :=
  let cut := r.cutOff
  let s₁ := (s.modRecord b fun _ => cut).settleClaim b r.claim cut.freshNow
  let c := ({ cut with endTime := some s.clock.time } : WorkRecord).price b true
  (((s₁.appendCharge c).latch
      (.washAborted c.visit b c.haulier s₁.journal.nextSeq c.amount r.abort r.phase)).modBay b
        fun u => { u with record := none, state := .closed })

/-- A bay's work record at a warm start: one in WASHING is recovered, another is cleared (R190). -/
def State.recoverBay (s : State) (b : Bay) : State :=
  match (s.bays.get b).state, s.record b with
  | .washing, some r =>
    let s' := s.recoverWash b r
    { s' with part := { s'.part with recovered := s'.part.recovered + 1 } }
  | _, _ => s.modBay b fun u => { u with record := none }

/-- Bays whose work record is in WASHING (R190). -/
def State.washingBays (s : State) : Nat :=
  allBays.countP fun b => (s.bays.get b).state == .washing && (s.record b).isSome

/-- Recovery of washes, bay 1 to bay 6 (R190). -/
def State.recoverWashes (s : State) : State :=
  allBays.foldl (fun s b => s.recoverBay b) (s.modJournal fun j => { j with reserved := s.washingBays })

/-- A tank's state after a warm start (07 Table 1-2). -/
def warmTank (st : TankState) : TankState :=
  match st with
  | .service => .sampling
  | .filling => .filling
  | .settling => .settling
  | .sampling => .sampling
  | .ready => .ready
  | .dumping => .dumping
  | .held => .held

/-- The walk is finished and the balances are recomputed (R192). -/
def State.finishJournal (s : State) : State :=
  ({ s with part := { s.part with walkFinished := s.journal.walk.isSome } }.finishWalk 64).modJournal
    Journal.recomputeBalances

/-- A warm start: recovery, rebuild, the walk finished (R190 to R192). -/
def State.warmStart (s : State) : State :=
  let s₁ := s.recoverWashes.rebuild.finishJournal
  { s₁ with tanks := s₁.tanks.map fun u => { u with state := warmTank u.state } }

/-- The store check ends and the start it decides is made (R187, R189, R191). -/
def State.checkStore (s : State) : State :=
  if checksValid s.store then
    { s with part := { s.part with startKind := .warm, phase := .starting } }.warmStart
  else { s with part := { s.part with startKind := .cold, phase := .starting } }.loadFactory.rebuild

/-! ### The end of start-up (R193) -/

/-- A tank enters its state when start-up ends; a settle timer resumes (R112, R113). -/
def State.startTank (s : State) (t : Tank) : State :=
  let u := s.tanks.get t
  if u.state = .settling then
    s.modTank t fun u =>
      { u with settleTimer := some (s.laneTime + u.settleLeft.getD 0), settleLeft := none }.drive
  else s.setTank t u.state

/-- A bay whose e-stop is asserted when start-up ends enters FAULT (R76). -/
def State.startBay (s : State) (b : Bay) : State :=
  if s.lines.estop.get b then s.eStopAsserted b else s

/-- The blocks begin their work (R193), tank A before tank B (log 26). -/
def State.beginWork (s : State) : State :=
  let s₁ := ((s.modJournal fun j => { j with lowArmed := true }).startTank .a).startTank .b
  let s₂ := allBays.foldl (fun s b => s.startBay b) s₁.writePendingClose
  s₂.requestPass.recomputeStatus.sendSign

/-- STARTED is latched, which ends start-up (R193). -/
def State.latchStarted (s : State) (rolled : Bool) : State :=
  (s.latch (.started s.part.startKind s.part.cause s.part.recovered s.part.walkFinished rolled
    s.journal.pendingClose.isSome))

/-- The end of start-up: a due rollover, STARTED, and the blocks' own work (R193). -/
def State.endStartUp (s : State) : State :=
  let rolled := s.clock.behind
  let s₁ := (if rolled then s.rollover else s).latchStarted rolled
  State.beginWork { s₁ with part := { s₁.part with phase := .running } }

/-! ### Commands -/

/-- POWER_ON (R187): a reset, with the sections the backup supply has kept. -/
def execPowerOn (kept : StoreChecks) (s : State) : Host.Outcome State Fault Refusal :=
  .next ({ s with store := checksBoth s.store kept }.takeReset .powerOn)

/-- RESET_LINE (R187); without main power it does nothing. -/
def execResetLine (s : State) : Host.Outcome State Fault Refusal :=
  .next (if s.part.phase = .off then s else s.takeReset .resetLine)

/-- STORE_CHECK (R187): the check's end, the first step of start-up. -/
def execStoreCheck (s : State) : Host.Outcome State Fault Refusal :=
  .next (if s.part.phase = .checking then s.checkStore else s)

/-- START_UP_END (R193). -/
def execStartUpEnd (s : State) : Host.Outcome State Fault Refusal :=
  .next (if s.part.phase = .starting then s.endStartUp else s)

/-- POWER_LOSS (R165, R188). -/
def execPowerLoss (s : State) : Host.Outcome State Fault Refusal :=
  .next (if s.part.phase = .off then s else s.loseMain)

end Sys2Proof.Machine
end

