-- ==== Sys2Proof/Machine/Link.lean ====
section
/-! DEFINITION. The Link Interfaces (chapter 11): the receiver, the taking of requests and their replies, STATUS and the
other requests of the port itself, and the commands of the lines and of the reply's end. -/

namespace Sys2Proof.Machine

/-! ### Requests of the port (R179 to R185) -/

/-- An entry of a STATUS reply (11 Table 7-4). -/
def LatchEntry.encode (e : LatchEntry) : List Byte :=
  let inst := e.event.encode
  be 1 e.event.kind.code.val ++ be 1 e.count ++ timeBytes e.time ++ be 1 inst.length ++ inst

/-- The latched kinds of a port, ascending (R181). -/
def Link.entries (l : Link) : List (Fin 29 × LatchEntry) :=
  (List.finRange 29).filterMap fun i => l.latch[i].map fun e => (i, e)

/-- The entries that fit in so many bytes: from the first that does not, all are left out (R181). -/
def fitting : Nat → List (Fin 29 × LatchEntry) → List (Fin 29 × LatchEntry)
  | _, [] => []
  | room, x :: l =>
    if x.2.encode.length ≤ room then x :: fitting (room - x.2.encode.length) l else []

/-- The entries a STATUS returns: with two bytes of flags and count they fill at most 249 (R181). -/
def Link.returned (l : Link) : List (Fin 29 × LatchEntry) :=
  fitting 247 l.entries

/-- Kinds cleared on a port, its attention line following (R181, R182). -/
def Link.clearKinds (l : Link) (ks : List (Fin 29)) : Link :=
  Link.follow { l with latch := ks.foldl (fun v i => putAt v i none) l.latch }

/-- STATUS (R181). -/
def State.doStatus (s : State) (p : Port) : State × Reply :=
  let l := s.links.get p
  let out := l.returned
  (s.modLink p fun l => l.clearKinds (out.map (·.1)),
    accept (be 1 (if out.length < l.entries.length then 1 else 0) ++ be 1 out.length ++
      out.flatMap fun x => x.2.encode))

/-- ASCII text padded with 00h to 10 bytes (R183). -/
def paddedText (l : List Byte) : List Byte :=
  (l ++ List.replicate 10 0).take 10

/-- The vendor name CRESPOL (R183). -/
def vendorName : List Byte :=
  [0x43, 0x52, 0x45, 0x53, 0x50, 0x4F, 0x4C]

/-- The part name GELBOR DW6 (R183). -/
def partName : List Byte :=
  [0x47, 0x45, 0x4C, 0x42, 0x4F, 0x52, 0x20, 0x44, 0x57, 0x36]

/-- IDENTITY (R183). -/
def State.doIdentity (s : State) : Reply :=
  accept (paddedText vendorName ++ paddedText partName ++ be 1 1 ++ be 1 s.part.startKind.ctorIdx ++
    be 1 s.part.cause.ctorIdx ++ yesNo s.startingUp)

/-- CHECK MODE (R179). -/
def State.doCheckMode (s : State) (p : Port) (mode : Nat) : State × Reply :=
  match yesNoOf mode with
  | none => (s, refuse .badArgument)
  | some b => (s.modLink p fun l => { l with checkOn := b }, accept (yesNo (s.links.get p).checkOn))

/-- ATTENTION SET or CLEAR: a mask changed by the bits of a request (R182). -/
def State.changeMask (s : State) (p : Port) (m : BitVec 32) (f : BitVec 29 → BitVec 29 → BitVec 29) : State × Reply :=
  if 2 ^ 29 ≤ m.toNat then (s, refuse .badArgument)
  else
    let s' := s.modLink p fun l => Link.follow { l with mask := f l.mask (m.setWidth 29) }
    (s', accept (be 4 (s'.links.get p).mask.toNat))

/-- ATTENTION SET (R182). -/
def State.doAttentionSet (s : State) (p : Port) (m : BitVec 32) : State × Reply :=
  s.changeMask p m fun mask bits => mask ||| bits

/-- ATTENTION CLEAR (R182). -/
def State.doAttentionClear (s : State) (p : Port) (m : BitVec 32) : State × Reply :=
  s.changeMask p m fun mask bits => mask &&& ~~~bits

/-- RESET (R184): the reset follows the reply. -/
def State.doReset (s : State) (p : Port) : State × Reply :=
  (s.modLink p fun l => { l with resetAfter := some .resetRequest }, accept [])

/-- CLEAR STORE (R185): the cold reset follows the reply. -/
def State.doClearStore (s : State) (p : Port) : State × Reply :=
  if s.owns p then (s.modLink p fun l => { l with resetAfter := some .clearStore }, accept [])
  else (s, refuse .notOwner)

/-! ### Taking requests (R176, R177) -/

/-- A request that changes nothing, with its reply. -/
def State.unchanged (s : State) (r : Reply) : State × Reply :=
  (s, r)

/-- A request acted on by the rule of its chapter (R176). -/
def State.serve (s : State) (p : Port) : Request → State × Reply
  | .plate v pl => s.doPlate v.toNat pl
  | .identify v h g c => s.doIdentify v.toNat h.toNat g.toNat c.toNat
  | .enqueue h g c t pl => s.doEnqueue h.toNat g.toNat c.toNat t pl
  | .removeVisit v => s.doRemoveVisit v.toNat
  | .queueList => s.unchanged s.doQueueList
  | .visitRead v => s.unchanged (s.doVisitRead v.toNat)
  | .vehiclePut t h g pl b => s.doVehiclePut t h.toNat g.toNat pl b.toNat
  | .vehicleDrop t => s.doVehicleDrop t
  | .vehicleGet t => s.unchanged (s.doVehicleGet t)
  | .haulierPut h st d l q => s.doHaulierPut p h.toNat st.toNat d.toNat l.toNat q.toNat
  | .haulierDrop h => s.doHaulierDrop p h.toNat
  | .haulierGet h => s.unchanged (s.doHaulierGet h.toNat)
  | .termsBegin => s.doTermsBegin p
  | .termsBlock c i content d => s.doTermsBlock p c i content d
  | .termsCount => s.unchanged (s.doTermsCount p)
  | .termsCommit => s.doTermsCommit p
  | .termsAbandon => s.doTermsAbandon p
  | .termsRead c i => s.unchanged (s.doTermsRead c i)
  | .bayStatus b => s.unchanged (s.doBayStatus b.toNat)
  | .bayAbort b => s.doBayAbort b.toNat
  | .bayRelease b => s.doBayRelease b.toNat
  | .swap r e n => s.doSwap p r.toNat e.toNat n.toNat
  | .waterStatus => s.unchanged s.doWaterStatus
  | .allowanceSet n => s.doAllowanceSet n.toNat
  | .tankDump t => s.doTankDump t.toNat
  | .tankHold t => s.doTankHold t.toNat
  | .tankResume t => s.doTankResume t.toNat
  | .tankServe t => s.doTankServe t.toNat
  | .tankStatus => s.unchanged s.doTankStatus
  | .spotSample x => s.doSpotSample p x.toNat
  | .exportOpen i => s.doExportOpen p i.toNat
  | .exportNext => s.doExportNext p
  | .exportStop => s.doExportStop p
  | .holdSet i => s.doHoldSet p i.toNat
  | .holdClear i => s.doHoldClear p i.toNat
  | .releaseFirst i => s.doReleaseFirst p i.toNat
  | .releaseLast i => s.doReleaseLast p i.toNat
  | .releaseGo => s.doReleaseGo p
  | .journalStatus => s.doJournalStatus p
  | .timeSet d x => s.doTimeSet p d.toNat x.toNat
  | .timeRead => s.unchanged s.doTimeRead
  | .status => s.doStatus p
  | .identity => s.unchanged s.doIdentity
  | .checkMode m => s.doCheckMode p m.toNat
  | .attentionSet m => s.doAttentionSet p m
  | .attentionClear m => s.doAttentionClear p m
  | .reset => s.doReset p
  | .clearStore => s.doClearStore p

/-- The check of a frame: over kind, length and payload (R176, 11 Table 7-2). -/
def frameCheck (kind : Byte) (payload : List Byte) : BitVec 16 :=
  crc ([kind] ++ be 1 payload.length ++ payload)

/-- STATUS and IDENTITY, the kinds answered in start-up (R176). -/
def startUpKind (kind : Byte) : Bool :=
  kind = 0x70 || kind = 0x71

/-- The tests of R176 in their order, then the rule of the request. -/
def State.respond (s : State) (p : Port) (f : Frame) : State × Reply :=
  if (s.links.get p).checkOn && f.check ≠ frameCheck f.kind f.payload then (s, refuse .checkFailed)
  else
    match requestLength f.kind with
    | none => (s, refuse .unknownKind)
    | some n =>
      if s.startingUp && !startUpKind f.kind then (s, refuse .starting)
      else if f.payload.length ≠ n then (s, refuse .badArgument)
      else
        match requestOf f.kind f.payload with
        | none => (s, refuse .unknownKind)
        | some r => s.serve p r

/-- The byte of a reply's code with its RELEASE-RESET flag (R178). -/
def Reply.codeByte (r : Reply) : Byte :=
  BitVec.ofNat 8 (r.code.ctorIdx + if r.releaseReset then 128 else 0)

/-- A reply frame (11 Table 7-3). -/
def replyFrame (kind : Byte) (r : Reply) : List Byte :=
  let k := kind ||| 0x80
  let body := [r.codeByte] ++ r.payload
  [0xA6] ++ [k] ++ be 1 body.length ++ body ++ be 2 (frameCheck k body).toNat

/-- A request is taken: it is answered, and its reply begins (R177, log 2). -/
def State.takeRequest (s : State) (p : Port) (f : Frame) : State :=
  let r := s.respond p f
  r.1.modLink p fun l => { l with reply := some { bytes := replyFrame f.kind r.2, began := s.timebase } }

/-- A request frame is complete: taken at once, held while a reply is in sending, or discarded (R177). -/
def State.receive (s : State) (p : Port) (f : Frame) : State :=
  let l := s.links.get p
  match l.held, l.reply with
  | some _, _ => s
  | none, some _ => s.modLink p fun l => { l with held := some f }
  | none, none => s.takeRequest p f

/-! ### Receiver (R175) -/

/-- The frame a receiver step completes, and the receiver afterwards. -/
def Receiver.take (r : Receiver) (b : Byte) : Receiver × Option Frame :=
  match r with
  | .hunt => if b = 0xA6 then (.kind, none) else (.hunt, none)
  | .kind => (.length b, none)
  | .length k =>
    if 250 < b.toNat then (.hunt, none)
    else if b = 0 then (.check k [] none, none)
    else (.payload k b [], none)
  | .payload k n got =>
    if got.length + 1 < n.toNat then (.payload k n (got ++ [b]), none) else (.check k (got ++ [b]) none, none)
  | .check k pl none => (.check k pl (some b), none)
  | .check k pl (some c) => (.hunt, some { kind := k, payload := pl, check := BitVec.ofNat 16 (c.toNat * 256 + b.toNat) })

/-- The receiver as the line's time finds it: a gap of more than 20 ms after a frame's last byte abandons the frame
(R175). -/
def Link.rxNow (l : Link) (timebase : Nat) : Receiver :=
  if l.rxAt + Config.frameGapTicks < timebase then .hunt else l.rx

/-- A byte arrives at a port (R175); after too long a gap it is examined in HUNT. -/
def State.frameByte (s : State) (p : Port) (b : Byte) : State :=
  let r := ((s.links.get p).rxNow s.timebase).take b
  let s₁ := s.modLink p fun l => { l with rx := r.1, rxAt := s.timebase }
  match r.2 with
  | none => s₁
  | some f => s₁.receive p f

/-- The frame in progress is abandoned (R175). -/
def State.abandonFrame (s : State) (p : Port) : State :=
  s.modLink p fun l => { l with rx := .hunt }

/-- The frame of a kind and payload with its right check bytes. -/
def rightFrame (kind : Byte) (payload : List Byte) : Frame :=
  { kind := kind, payload := payload, check := frameCheck kind payload }

/-- A complete frame, its check right, arrives at a port; the receiver is then in HUNT. -/
def State.frameArrives (s : State) (p : Port) (f : Frame) : State :=
  (s.abandonFrame p).receive p f

/-- The end of a reply: a requested reset follows, or the held request is taken (R177, R184, R185). -/
def State.replyEnds (s : State) (p : Port) : State :=
  let l := s.links.get p
  match l.reply with
  | none => s
  | some _ =>
    match l.resetAfter with
    | some c => s.takeReset c
    | none =>
      let s₁ := s.modLink p fun l => { l with reply := none, held := none }
      match l.held with
      | none => s₁
      | some f => s₁.takeRequest p f

/-! ### How a command of a port runs -/

/-- A command of a port: without main power it does nothing; otherwise it runs, and the sign is judged at its end. -/
def State.portCommand (s : State) (f : State → State) : Host.Outcome State Fault Refusal :=
  .next (if s.part.phase = .off then s else s.settleSign (f s))

/-- A host request of the table: a complete frame of it, its check right, at a port (log 1). -/
def State.hostRequest (s : State) (p : Port) (r : Request) : Host.Outcome State Fault Refusal :=
  s.portCommand fun s => s.frameArrives p (rightFrame r.kind r.payload)

/-- UNKNOWN_KIND (R176): a complete frame of a kind, without payload, its check right. -/
def execUnknownKind (port : Port) (kind : Byte) (s : State) : Host.Outcome State Fault Refusal :=
  s.portCommand fun s => s.frameArrives port (rightFrame kind [])

/-- FRAME_GAP (R175). -/
def execFrameGap (port : Port) (s : State) : Host.Outcome State Fault Refusal :=
  s.portCommand fun s => s.abandonFrame port

/-- REPLY_SENT (R177). -/
def execReplySent (port : Port) (s : State) : Host.Outcome State Fault Refusal :=
  s.portCommand fun s => s.replyEnds port

/-- FRAME_BYTE (R175). -/
def execFrameByte (port : Port) (byte : Byte) (s : State) : Host.Outcome State Fault Refusal :=
  s.portCommand fun s => s.frameByte port byte

/-- MISSING_STOP_BIT (R175). -/
def execMissingStopBit (port : Port) (s : State) : Host.Outcome State Fault Refusal :=
  s.portCommand fun s => s.abandonFrame port

end Sys2Proof.Machine
end

