-- ==== Sys2Proof/Machine/Requests.lean ====
section
/-! DEFINITION. The host requests as commands: one meaning for each request row of the opcode table. Each is a complete
request frame of its kind, its check bytes right, arriving at a port; the rule that acts on it is the `do` definition of
its block, which `State.serve` names, and the taking of the frame is that of R176 and R177. -/

namespace Sys2Proof.Machine

/-- PLATE (R34). -/
def execPlate (port : Port) (visit : BitVec 16) (plate : PlateField) (s : State) : Host.Outcome State Fault Refusal :=
  s.hostRequest port (.plate visit plate)

/-- IDENTIFY (R35). -/
def execIdentify (port : Port) (visit : BitVec 16) (haulier programme cls : Byte)
    (s : State) : Host.Outcome State Fault Refusal :=
  s.hostRequest port (.identify visit haulier programme cls)

/-- ENQUEUE (R36). -/
def execEnqueue (port : Port) (haulier programme cls : Byte) (tag : TagId) (plate : PlateField)
    (s : State) : Host.Outcome State Fault Refusal :=
  s.hostRequest port (.enqueue haulier programme cls tag plate)

/-- REMOVE_VISIT (R37). -/
def execRemoveVisit (port : Port) (visit : BitVec 16) (s : State) : Host.Outcome State Fault Refusal :=
  s.hostRequest port (.removeVisit visit)

/-- QUEUE_LIST (R38). -/
def execQueueList (port : Port) (s : State) : Host.Outcome State Fault Refusal :=
  s.hostRequest port .queueList

/-- VISIT_READ (R38). -/
def execVisitRead (port : Port) (visit : BitVec 16) (s : State) : Host.Outcome State Fault Refusal :=
  s.hostRequest port (.visitRead visit)

/-- VEHICLE_PUT (R32). -/
def execVehiclePut (port : Port) (tag : TagId) (haulier programme : Byte) (plate : PlateField) (blocked : Byte)
    (s : State) : Host.Outcome State Fault Refusal :=
  s.hostRequest port (.vehiclePut tag haulier programme plate blocked)

/-- VEHICLE_DROP (R33). -/
def execVehicleDrop (port : Port) (tag : TagId) (s : State) : Host.Outcome State Fault Refusal :=
  s.hostRequest port (.vehicleDrop tag)

/-- VEHICLE_GET (R33). -/
def execVehicleGet (port : Port) (tag : TagId) (s : State) : Host.Outcome State Fault Refusal :=
  s.hostRequest port (.vehicleGet tag)

/-- HAULIER_PUT (R42). -/
def execHaulierPut (port : Port) (haulier state : Byte) (discount : BitVec 16) (limit : BitVec 32) (quota : Byte)
    (s : State) : Host.Outcome State Fault Refusal :=
  s.hostRequest port (.haulierPut haulier state discount limit quota)

/-- HAULIER_DROP (R43). -/
def execHaulierDrop (port : Port) (haulier : Byte) (s : State) : Host.Outcome State Fault Refusal :=
  s.hostRequest port (.haulierDrop haulier)

/-- HAULIER_GET (R44). -/
def execHaulierGet (port : Port) (haulier : Byte) (s : State) : Host.Outcome State Fault Refusal :=
  s.hostRequest port (.haulierGet haulier)

/-- TERMS_BEGIN (R52). -/
def execTermsBegin (port : Port) (s : State) : Host.Outcome State Fault Refusal :=
  s.hostRequest port .termsBegin

/-- TERMS_BLOCK (R53). -/
def execTermsBlock (port : Port) (code index : Byte) (content : BlockContent) (digest : BitVec 16)
    (s : State) : Host.Outcome State Fault Refusal :=
  s.hostRequest port (.termsBlock code index content digest)

/-- TERMS_COUNT (R54). -/
def execTermsCount (port : Port) (s : State) : Host.Outcome State Fault Refusal :=
  s.hostRequest port .termsCount

/-- TERMS_COMMIT (R55). -/
def execTermsCommit (port : Port) (s : State) : Host.Outcome State Fault Refusal :=
  s.hostRequest port .termsCommit

/-- TERMS_ABANDON (R54). -/
def execTermsAbandon (port : Port) (s : State) : Host.Outcome State Fault Refusal :=
  s.hostRequest port .termsAbandon

/-- TERMS_READ (R57). -/
def execTermsRead (port : Port) (code index : Byte) (s : State) : Host.Outcome State Fault Refusal :=
  s.hostRequest port (.termsRead code index)

/-- BAY_STATUS (R79). -/
def execBayStatus (port : Port) (bay : Byte) (s : State) : Host.Outcome State Fault Refusal :=
  s.hostRequest port (.bayStatus bay)

/-- BAY_ABORT (R90). -/
def execBayAbort (port : Port) (bay : Byte) (s : State) : Host.Outcome State Fault Refusal :=
  s.hostRequest port (.bayAbort bay)

/-- BAY_RELEASE (R93). -/
def execBayRelease (port : Port) (bay : Byte) (s : State) : Host.Outcome State Fault Refusal :=
  s.hostRequest port (.bayRelease bay)

/-- SWAP (R99). -/
def execSwap (port : Port) (resource : Byte) (expected new : BitVec 24)
    (s : State) : Host.Outcome State Fault Refusal :=
  s.hostRequest port (.swap resource expected new)

/-- WATER_STATUS (R98). -/
def execWaterStatus (port : Port) (s : State) : Host.Outcome State Fault Refusal :=
  s.hostRequest port .waterStatus

/-- ALLOWANCE_SET (R110). -/
def execAllowanceSet (port : Port) (litres : BitVec 24) (s : State) : Host.Outcome State Fault Refusal :=
  s.hostRequest port (.allowanceSet litres)

/-- TANK_DUMP (R123). -/
def execTankDump (port : Port) (tank : Byte) (s : State) : Host.Outcome State Fault Refusal :=
  s.hostRequest port (.tankDump tank)

/-- TANK_HOLD (R123). -/
def execTankHold (port : Port) (tank : Byte) (s : State) : Host.Outcome State Fault Refusal :=
  s.hostRequest port (.tankHold tank)

/-- TANK_RESUME (R124). -/
def execTankResume (port : Port) (tank : Byte) (s : State) : Host.Outcome State Fault Refusal :=
  s.hostRequest port (.tankResume tank)

/-- TANK_SERVE (R124). -/
def execTankServe (port : Port) (tank : Byte) (s : State) : Host.Outcome State Fault Refusal :=
  s.hostRequest port (.tankServe tank)

/-- TANK_STATUS (R125). -/
def execTankStatus (port : Port) (s : State) : Host.Outcome State Fault Refusal :=
  s.hostRequest port .tankStatus

/-- SPOT_SAMPLE (R129). -/
def execSpotSample (port : Port) (probe : Byte) (s : State) : Host.Outcome State Fault Refusal :=
  s.hostRequest port (.spotSample probe)

/-- EXPORT_OPEN (R153). -/
def execExportOpen (port : Port) (page : Byte) (s : State) : Host.Outcome State Fault Refusal :=
  s.hostRequest port (.exportOpen page)

/-- EXPORT_NEXT (R154). -/
def execExportNext (port : Port) (s : State) : Host.Outcome State Fault Refusal :=
  s.hostRequest port .exportNext

/-- EXPORT_STOP (R153). -/
def execExportStop (port : Port) (s : State) : Host.Outcome State Fault Refusal :=
  s.hostRequest port .exportStop

/-- HOLD_SET (R156). -/
def execHoldSet (port : Port) (page : Byte) (s : State) : Host.Outcome State Fault Refusal :=
  s.hostRequest port (.holdSet page)

/-- HOLD_CLEAR (R156). -/
def execHoldClear (port : Port) (page : Byte) (s : State) : Host.Outcome State Fault Refusal :=
  s.hostRequest port (.holdClear page)

/-- RELEASE_FIRST (R157). -/
def execReleaseFirst (port : Port) (page : Byte) (s : State) : Host.Outcome State Fault Refusal :=
  s.hostRequest port (.releaseFirst page)

/-- RELEASE_LAST (R157). -/
def execReleaseLast (port : Port) (page : Byte) (s : State) : Host.Outcome State Fault Refusal :=
  s.hostRequest port (.releaseLast page)

/-- RELEASE_GO (R159). -/
def execReleaseGo (port : Port) (s : State) : Host.Outcome State Fault Refusal :=
  s.hostRequest port .releaseGo

/-- JOURNAL_STATUS (R163). -/
def execJournalStatus (port : Port) (s : State) : Host.Outcome State Fault Refusal :=
  s.hostRequest port .journalStatus

/-- TIME_SET (R167). -/
def execTimeSet (port : Port) (day : BitVec 16) (seconds : BitVec 24)
    (s : State) : Host.Outcome State Fault Refusal :=
  s.hostRequest port (.timeSet day seconds)

/-- TIME_READ (R168). -/
def execTimeRead (port : Port) (s : State) : Host.Outcome State Fault Refusal :=
  s.hostRequest port .timeRead

/-- STATUS (R181). -/
def execStatus (port : Port) (s : State) : Host.Outcome State Fault Refusal :=
  s.hostRequest port .status

/-- IDENTITY (R183). -/
def execIdentity (port : Port) (s : State) : Host.Outcome State Fault Refusal :=
  s.hostRequest port .identity

/-- CHECK_MODE (R179). -/
def execCheckMode (port : Port) (mode : Byte) (s : State) : Host.Outcome State Fault Refusal :=
  s.hostRequest port (.checkMode mode)

/-- ATTENTION_SET (R182). -/
def execAttentionSet (port : Port) (mask : BitVec 32) (s : State) : Host.Outcome State Fault Refusal :=
  s.hostRequest port (.attentionSet mask)

/-- ATTENTION_CLEAR (R182). -/
def execAttentionClear (port : Port) (mask : BitVec 32) (s : State) : Host.Outcome State Fault Refusal :=
  s.hostRequest port (.attentionClear mask)

/-- RESET (R184). -/
def execReset (port : Port) (s : State) : Host.Outcome State Fault Refusal :=
  s.hostRequest port .reset

/-- CLEAR_STORE (R185). -/
def execClearStore (port : Port) (s : State) : Host.Outcome State Fault Refusal :=
  s.hostRequest port .clearStore

end Sys2Proof.Machine
end

