-- ==== Sys2Proof/Machine/Dispatch.lean ====
section
/-! DEFINITION. What each command does, one arm for each, in the order of spec/opcode_table.json. -/

namespace Sys2Proof.Machine

def exec (i : Instr) (s : State) : Host.Outcome State Fault Refusal :=
  match i with
  | .aOn => Sys2Proof.Machine.execAOn s
  | .aOff => Sys2Proof.Machine.execAOff s
  | .bOn => Sys2Proof.Machine.execBOn s
  | .bOff => Sys2Proof.Machine.execBOff s
  | .treadleEdge => Sys2Proof.Machine.execTreadleEdge s
  | .tagFrame id check => Sys2Proof.Machine.execTagFrame id check s
  | .tagFrameGap => Sys2Proof.Machine.execTagFrameGap s
  | .tagReadChancePassed place => Sys2Proof.Machine.execTagReadChancePassed place s
  | .transitTimeout => Sys2Proof.Machine.execTransitTimeout s
  | .stuckTimeout => Sys2Proof.Machine.execStuckTimeout s
  | .tagWindowExpiry place => Sys2Proof.Machine.execTagWindowExpiry place s
  | .identTimerExpiry visit => Sys2Proof.Machine.execIdentTimerExpiry visit s
  | .plate port visit plate => Sys2Proof.Machine.execPlate port visit plate s
  | .identify port visit haulier programme cls => Sys2Proof.Machine.execIdentify port visit haulier programme cls s
  | .enqueue port haulier programme cls tag plate => Sys2Proof.Machine.execEnqueue port haulier programme cls tag plate s
  | .removeVisit port visit => Sys2Proof.Machine.execRemoveVisit port visit s
  | .queueList port => Sys2Proof.Machine.execQueueList port s
  | .visitRead port visit => Sys2Proof.Machine.execVisitRead port visit s
  | .vehiclePut port tag haulier programme plate blocked => Sys2Proof.Machine.execVehiclePut port tag haulier programme plate blocked s
  | .vehicleDrop port tag => Sys2Proof.Machine.execVehicleDrop port tag s
  | .vehicleGet port tag => Sys2Proof.Machine.execVehicleGet port tag s
  | .haulierPut port haulier state discount limit quota => Sys2Proof.Machine.execHaulierPut port haulier state discount limit quota s
  | .haulierDrop port haulier => Sys2Proof.Machine.execHaulierDrop port haulier s
  | .haulierGet port haulier => Sys2Proof.Machine.execHaulierGet port haulier s
  | .termsBegin port => Sys2Proof.Machine.execTermsBegin port s
  | .termsBlock port code index content digest => Sys2Proof.Machine.execTermsBlock port code index content digest s
  | .termsCount port => Sys2Proof.Machine.execTermsCount port s
  | .termsCommit port => Sys2Proof.Machine.execTermsCommit port s
  | .termsAbandon port => Sys2Proof.Machine.execTermsAbandon port s
  | .termsRead port code index => Sys2Proof.Machine.execTermsRead port code index s
  | .dispatchPass => Sys2Proof.Machine.execDispatchPass s
  | .signMessageSent => Sys2Proof.Machine.execSignMessageSent s
  | .presenceAssert bay => Sys2Proof.Machine.execPresenceAssert bay s
  | .presenceClear bay => Sys2Proof.Machine.execPresenceClear bay s
  | .entrySettleExpiry bay => Sys2Proof.Machine.execEntrySettleExpiry bay s
  | .callTimerExpiry bay => Sys2Proof.Machine.execCallTimerExpiry bay s
  | .eStopAssert bay => Sys2Proof.Machine.execEStopAssert bay s
  | .eStopClear bay => Sys2Proof.Machine.execEStopClear bay s
  | .flowPulse bay => Sys2Proof.Machine.execFlowPulse bay s
  | .timeLimitExpiry bay => Sys2Proof.Machine.execTimeLimitExpiry bay s
  | .waterWaitExpiry bay => Sys2Proof.Machine.execWaterWaitExpiry bay s
  | .runOnExpiry bay => Sys2Proof.Machine.execRunOnExpiry bay s
  | .exitTimerExpiry bay => Sys2Proof.Machine.execExitTimerExpiry bay s
  | .supplyLowAssert => Sys2Proof.Machine.execSupplyLowAssert s
  | .supplyLowClear => Sys2Proof.Machine.execSupplyLowClear s
  | .pumpCycleEnd bay => Sys2Proof.Machine.execPumpCycleEnd bay s
  | .bayStatus port bay => Sys2Proof.Machine.execBayStatus port bay s
  | .bayAbort port bay => Sys2Proof.Machine.execBayAbort port bay s
  | .bayRelease port bay => Sys2Proof.Machine.execBayRelease port bay s
  | .swap port resource expected new => Sys2Proof.Machine.execSwap port resource expected new s
  | .waterStatus port => Sys2Proof.Machine.execWaterStatus port s
  | .allowanceSet port litres => Sys2Proof.Machine.execAllowanceSet port litres s
  | .lowSwitchAssert tank => Sys2Proof.Machine.execLowSwitchAssert tank s
  | .lowSwitchClear tank => Sys2Proof.Machine.execLowSwitchClear tank s
  | .highSwitchAssert tank => Sys2Proof.Machine.execHighSwitchAssert tank s
  | .highSwitchClear tank => Sys2Proof.Machine.execHighSwitchClear tank s
  | .tankSettleExpiry tank => Sys2Proof.Machine.execTankSettleExpiry tank s
  | .resampleExpiry tank => Sys2Proof.Machine.execResampleExpiry tank s
  | .referenceCountDone => Sys2Proof.Machine.execReferenceCountDone s
  | .conversionEnd periods => Sys2Proof.Machine.execConversionEnd periods s
  | .span => Sys2Proof.Machine.execSpan s
  | .tankDump port tank => Sys2Proof.Machine.execTankDump port tank s
  | .tankHold port tank => Sys2Proof.Machine.execTankHold port tank s
  | .tankResume port tank => Sys2Proof.Machine.execTankResume port tank s
  | .tankServe port tank => Sys2Proof.Machine.execTankServe port tank s
  | .tankStatus port => Sys2Proof.Machine.execTankStatus port s
  | .spotSample port probe => Sys2Proof.Machine.execSpotSample port probe s
  | .exportOpen port page => Sys2Proof.Machine.execExportOpen port page s
  | .exportNext port => Sys2Proof.Machine.execExportNext port s
  | .exportStop port => Sys2Proof.Machine.execExportStop port s
  | .holdSet port page => Sys2Proof.Machine.execHoldSet port page s
  | .holdClear port page => Sys2Proof.Machine.execHoldClear port page s
  | .releaseFirst port page => Sys2Proof.Machine.execReleaseFirst port page s
  | .releaseLast port page => Sys2Proof.Machine.execReleaseLast port page s
  | .releaseGo port => Sys2Proof.Machine.execReleaseGo port s
  | .journalStatus port => Sys2Proof.Machine.execJournalStatus port s
  | .releaseWalkStep => Sys2Proof.Machine.execReleaseWalkStep s
  | .midnightPassage => Sys2Proof.Machine.execMidnightPassage s
  | .timeSet port day seconds => Sys2Proof.Machine.execTimeSet port day seconds s
  | .timeRead port => Sys2Proof.Machine.execTimeRead port s
  | .status port => Sys2Proof.Machine.execStatus port s
  | .identity port => Sys2Proof.Machine.execIdentity port s
  | .checkMode port mode => Sys2Proof.Machine.execCheckMode port mode s
  | .attentionSet port mask => Sys2Proof.Machine.execAttentionSet port mask s
  | .attentionClear port mask => Sys2Proof.Machine.execAttentionClear port mask s
  | .reset port => Sys2Proof.Machine.execReset port s
  | .clearStore port => Sys2Proof.Machine.execClearStore port s
  | .unknownKind port kind => Sys2Proof.Machine.execUnknownKind port kind s
  | .frameGap port => Sys2Proof.Machine.execFrameGap port s
  | .replySent port => Sys2Proof.Machine.execReplySent port s
  | .powerOn kept => Sys2Proof.Machine.execPowerOn kept s
  | .resetLine => Sys2Proof.Machine.execResetLine s
  | .storeCheck => Sys2Proof.Machine.execStoreCheck s
  | .startUpEnd => Sys2Proof.Machine.execStartUpEnd s
  | .claimAnswer bay => Sys2Proof.Machine.execClaimAnswer bay s
  | .powerLoss => Sys2Proof.Machine.execPowerLoss s
  | .frameByte port byte => Sys2Proof.Machine.execFrameByte port byte s
  | .missingStopBit port => Sys2Proof.Machine.execMissingStopBit port s
  | .tagByte byte => Sys2Proof.Machine.execTagByte byte s

end Sys2Proof.Machine
end

