-- ==== Sys2Proof/Machine/Idle.lean ====
section
/-! DEFINITION. What the part does of its own accord when no command waits (log 2): the events that are due as things
stand, and the passing of one tick of the 100 kHz timebase when none is. -/

namespace Sys2Proof.Machine

/-- A timer has reached its deadline. -/
def expired (now : Nat) (timer : Option Nat) : Bool :=
  match timer with
  | some d => decide (d ≤ now)
  | none => false

/-- A command, if it is due. -/
def dueIf (b : Bool) (c : Instr) : List Instr :=
  if b then [c] else []

/-- Both ports. -/
def allPorts : List Port := [.one, .two]

/-- Both tanks. -/
def allTanks : List Tank := [.a, .b]

/-- Due at the Lane Unit: the measurement's timers, windows past W after their A-off, reads past W, a gap in a tag frame
(R11, R12, R15, R16, R18). -/
def State.dueLane (s : State) : List Instr :=
  let now := s.laneTime
  dueIf (expired now (s.lane.meas.bind (·.transit))) .transitTimeout ++
    dueIf (expired now (s.lane.meas.bind (·.stuckTimer))) .stuckTimeout ++
    (s.lane.windows.zipIdx.flatMap fun x =>
      dueIf (expired now (x.1.aOff.map fun t => t + 1000 * x.1.width)) (.tagWindowExpiry x.2)) ++
    (s.lane.reads.zipIdx.flatMap fun x =>
      dueIf (expired now (some (x.1.lane + 1000 * x.1.width))) (.tagReadChancePassed x.2)) ++
    dueIf (s.lane.frame.isSome && (s.lane.partialFrame s.timebase).isNone) .tagFrameGap

/-- Due at the Identification Unit: ident timers (R28). -/
def State.dueQueue (s : State) : List Instr :=
  s.queue.flatMap fun v => dueIf (expired s.laneTime v.identTimer) (.identTimerExpiry v.number)

/-- Due at a bay: its timers, its claim's answer, the end of its pump cycle (R68, R69, R82, R84, R87, R92, R94, R105). -/
def State.dueBay (s : State) (b : Bay) : List Instr :=
  let now := s.laneTime
  let u := s.bays.get b
  dueIf (expired now u.settle) (.entrySettleExpiry b) ++ dueIf (expired now u.call) (.callTimerExpiry b) ++
    dueIf (expired now u.limit) (.timeLimitExpiry b) ++ dueIf (expired now u.wait) (.waterWaitExpiry b) ++
    dueIf (expired now u.runOnTimer) (.runOnExpiry b) ++ dueIf (expired now u.exit) (.exitTimerExpiry b) ++
    dueIf (s.subState b == .claim) (.claimAnswer b) ++
    dueIf (s.subState b == .run && decide (Config.ticksPerPumpCycle ≤ u.pumpPos)) (.pumpCycleEnd b)

/-- Due at a tank: its timers (R114, R120). -/
def State.dueTank (s : State) (t : Tank) : List Instr :=
  dueIf (expired s.laneTime (s.tanks.get t).settleTimer) (.tankSettleExpiry t) ++
    dueIf (expired s.laneTime (s.tanks.get t).resampleTimer) (.resampleExpiry t)

/-- Due elsewhere while the part runs: a dispatch pass, a walk step, the end of a phase of the converter (R59, R126, R127,
R160). -/
def State.dueOther (s : State) : List Instr :=
  dueIf s.disp.mark .dispatchPass ++ dueIf s.journal.walk.isSome .releaseWalkStep ++
    dueIf s.conv.referenceOver .referenceCountDone ++ dueIf s.conv.spanOver .span ++
    dueIf s.conv.probeOver (.conversionEnd s.conv.up.toNat)

/-- A site link byte takes ten bits at 57,600 bit/s (R174): has a reply of so many bytes been sent in so many ticks? -/
def replyDone (ticks bytes : Nat) : Bool :=
  decide (625 * bytes ≤ 36 * ticks)

/-- The reply in sending has been sent whole. -/
def Link.replyDue (l : Link) (timebase : Nat) : Bool :=
  match l.reply with
  | some r => replyDone (timebase - r.began) r.bytes.length
  | none => false

/-- Due at a port: the end of its reply, a gap in its frame (R175, R177). -/
def State.duePort (s : State) (p : Port) : List Instr :=
  let l := s.links.get p
  dueIf (l.replyDue s.timebase) (.replySent p) ++
    dueIf (l.rx != .hunt && l.rxNow s.timebase == .hunt) (.frameGap p)

/-- The sign message in sending has been sent whole (R75). -/
def Dispatcher.signDue (d : Dispatcher) (timebase : Nat) : Bool :=
  match d.sending with
  | some m => decide (Config.signTicks ≤ timebase - m.began)
  | none => false

/-- What start-up does next (R187, R193). -/
def Part.dueStart (p : Part) : List Instr :=
  match p.phase with
  | .checking => [.storeCheck]
  | .starting => [.startUpEnd]
  | .running => []
  | .off => []

/-- Every event that is due, and may be taken in any order (log 3). -/
def State.due (s : State) : List Instr :=
  dueIf s.clock.atMidnight .midnightPassage ++ s.part.dueStart ++
    dueIf (s.disp.signDue s.timebase) .signMessageSent ++ allPorts.flatMap s.duePort ++
    (if s.running then
      s.dueLane ++ s.dueQueue ++ allBays.flatMap s.dueBay ++ allTanks.flatMap s.dueTank ++ s.dueOther
    else [])

/-! ### A tick -/

/-- The pump drive of a bay over one tick: its position moves on in RUN (R94). -/
def State.tickBay (s : State) (b : Bay) : State :=
  if s.subState b = .run then s.modBay b fun u => { u with pumpPos := u.pumpPos + 1 } else s

/-- The converter over one tick, with the periods that the reference cell and the probe converting complete in it: free
values (R126, log 9). -/
def State.tickConv (s : State) : State :=
  s.modConv fun c =>
    c.tick (Config.referencePeriods s.timebase)
      (Config.probePeriods ((c.converting.map probeCode).getD 0) s.timebase)

/-- One tick of the timebase passes: the clock runs in every phase, the drives and the converter while the part runs. -/
def State.tick (s : State) : State :=
  let s₁ := { s with timebase := s.timebase + 1, clock := s.clock.tick }
  if s.running then (allBays.foldl (fun s b => s.tickBay b) s₁).tickConv else s₁

/-- Which of several due events is taken: the free choice of Config (log 3). -/
def State.pick (s : State) (c d : Instr) (l : List Instr) : Instr :=
  (c :: d :: l).getD (Config.dueChoice s.timebase (l.length + 2) % (l.length + 2)) c

end Sys2Proof.Machine
end

