-- ==== Sys2Proof/Machine/Step.lean ====
section
/-! DEFINITION. One step of the machine: the command at the front of the queue, or what the part does of itself when no
command waits; and how a word of the opcode table is put in front (log 1, log 2). -/

namespace Sys2Proof.Machine

/-- No command waits: one of the events that are due is taken, or a tick passes. -/
def idleStep (s : State) : Host.Outcome State Fault Refusal :=
  match s.due with
  | [] => .next s.tick
  | [c] => exec c s
  | c :: d :: l => exec (s.pick c d l) s

/-- The command at the front of the queue is taken, with the queue's rest; on an empty queue the part idles. -/
def step (s : State) : Host.Outcome State Fault Refusal :=
  match s.pending with
  | c :: rest => exec c { s with pending := rest }
  | [] => idleStep s

/-- The command a word of the table spells, put at the front of the queue; no word spells one (log 1). -/
def State.withFetchWord (s : State) (nbits w : Nat) : State :=
  match decodeTableWord nbits w with
  | some c => { s with pending := c :: s.pending }
  | none => s

end Sys2Proof.Machine
end

