-- ==== Sys2Proof/Safety.lean ====
section
/-! DEFINITION. What counts as a sound state of the part: the bounds the Resource Table keeps, the capacities the
collections keep, visit numbers that stay distinct, sound pages of the journal, a sign status and attention lines that
follow their inputs; and the terms in which statements speak: a port that is ready to take a request, a request's
answer, a visit handed over, closed or held, the visit a pass must choose, what reads make of a new visit, a work record
in CLAIM, a tank that has left service, what notices add to the day accumulators, JOURNAL-LOW judged, a record written,
the converter after a conversion, a wash that has been charged and has left its bay. -/

namespace Sys2Proof.Machine

/-- FRESH_REMAIN, OVERDRAW and the allowance preload each lie within 0 to 262,143 litres (R96). -/
def State.WaterBounded (s : State) : Prop :=
  s.water.fresh ≤ 262143 ∧ s.water.overdraw ≤ 262143 ∧ s.water.preload ≤ 262143

/-- The collections keep their capacities: 16 queued visits (R20), 512 register entries (R31), 4 tag windows (R17), 8
tag reads (R16), 3 call lines (R72). -/
def State.WithinCapacity (s : State) : Prop :=
  s.queue.length ≤ 16 ∧ s.register.length ≤ 512 ∧ s.lane.windows.length ≤ 4 ∧ s.lane.reads.length ≤ 8 ∧
    s.disp.lines.length ≤ 3

/-- No two held visits, queued or in bays, carry the same number (R21). -/
def State.VisitsDistinct (s : State) : Prop :=
  (s.heldVisits.map (·.number)).Nodup

/-- The status line shows what its inputs give (R73), and a part that is not running has every bay closed (R96). -/
def State.SignCurrent (s : State) : Prop :=
  s.disp.status = s.signStatus ∧ (s.part.phase = .running ∨ s.water.bayOpen = 0)

/-- Each attention line is asserted exactly while at least one kind latched on its port has its bit set in its mask
(R182). -/
def State.AttentionFollows (s : State) : Prop :=
  ∀ p : Port, (s.links.get p).attention = true ↔
    ∃ k : Fin 29, ((s.links.get p).latch[k]).isSome = true ∧ (s.links.get p).mask.getLsbD k.val = true

/-- The pages are sound: the OPEN page, being the newest, has an unused slot, and a FREE page holds no record (R144,
R145). -/
def State.PagesSound (s : State) : Prop :=
  (∀ pg, s.journal.openPage = some pg → s.journal.pages[pg].records.length < 16) ∧
    ∀ i : PageNo, s.journal.pages[i].state = .free → s.journal.pages[i].records = []

/-- A port of the running part that sends no reply and holds no request, the sign status being current: a complete
request frame is taken at once (R177). -/
def State.Ready (s : State) (p : Port) : Prop :=
  s.part.phase = .running ∧ (s.links.get p).reply = none ∧ (s.links.get p).held = none ∧ s.disp.status = s.signStatus

/-- The part runs and its sign status is current. -/
def State.Running (s : State) : Prop :=
  s.part.phase = .running ∧ s.disp.status = s.signStatus

/-- The state with a reply to a request begun on a port, the receiver in HUNT (R175, R177). -/
def State.replying (s : State) (p : Port) (r : Request) (a : Reply) : State :=
  s.modLink p fun l => { l with rx := .hunt, reply := some { bytes := replyFrame r.kind a, began := s.timebase } }

/-- A request has been answered on a port: its reply has begun (R177). -/
def State.Answered (s t : State) (p : Port) (r : Request) (a : Reply) : Prop :=
  (t.links.get p).reply = some { bytes := replyFrame r.kind a, began := s.timebase }

/-- The state after bytes have arrived at a port one by one, each as a FRAME_BYTE (R175). -/
def State.afterBytes (p : Port) : List Byte → State → Option State
  | [], s => some s
  | b :: l, s =>
    match exec (.frameByte p b) s with
    | .next t => t.afterBytes p l
    | .fault _ => none
    | .refused _ => none

/-- Both ports hold an event as the newest occurrence of its kind (R180). -/
def State.Shows (t : State) (e : Event) : Prop :=
  ∀ p, ∃ x, (t.links.get p).latched e.kind = some x ∧ x.event = e

/-- Nothing of a kind has been latched between two states. -/
def State.KeepsLatch (s t : State) (k : EventKind) : Prop :=
  ∀ p, (t.links.get p).latched k = (s.links.get p).latched k

/-! ### What is made of a visit -/

/-- The hold reason that a visit's marks, ident state and programme give, beside the one it showed: BLOCKED, the lane
verdict, or NO-PROGRAM, and with none of these NONE in place of one of the four, any other kept (R29). -/
def Visit.heldAs (w : Visit) (old : HoldReason) : HoldReason :=
  if w.blocked = true then .blocked
  else if w.verdict = .measure then .measure
  else if w.verdict = .oversize then .oversize
  else if w.ident = .matched ∧ w.programme = none then .noProgram
  else if old ∈ [HoldReason.blocked, .measure, .oversize, .noProgram] then .noHold
  else old

/-- A queued visit has changed, once: VISIT-HELD shows it if its ident state became UNKNOWN or CONFLICT or its hold
reason passed from NONE to another, and otherwise none is latched (R30). -/
def State.HeldShown (s t : State) (v w : Visit) : Prop :=
  if v.ident ≠ w.ident ∧ (w.ident = .unknown ∨ w.ident = .conflict) ∨ v.hold = .noHold ∧ w.hold ≠ .noHold then
    t.Shows (.visitHeld w.number w.ident w.hold)
  else s.KeepsLatch t .visitHeld

/-- A visit that has taken its window-close notice: if PENDING it is matched by its one tag ID, or its ident timer
starts, or with a timeout of 0 it is UNKNOWN, its hold recomputed; any other is as it was (R27, R29). -/
def State.NoticeTaken (s : State) (v x : Visit) : Prop :=
  (v.ident ≠ .pending → x = { v with closed := true }) ∧
  (v.ident = .pending →
    x.hold = x.heldAs v.hold ∧
    (∀ g e, v.tags = [g] → s.lookup g = some e →
      x = { v with closed := true, ident := .matched, haulier := some e.haulier, programme := e.programme,
                   blocked := e.blocked, identTimer := none, hold := x.hold }) ∧
    ((∀ g e, v.tags = [g] → s.lookup g ≠ some e) →
      (s.active.identTimeout = 0 → x = { v with closed := true, ident := .unknown, hold := x.hold }) ∧
      (s.active.identTimeout ≠ 0 →
        x = { v with closed := true, identTimer := some (s.laneTime + 1000 * s.active.identTimeout), hold := x.hold })))

/-- A queued visit that has taken the hand-over of its completed measurement: axles, length, class and verdict, PENDING
if it was MEASURING, the hold recomputed; then its window-close notice, where that is due (R18, R23, R29). -/
def State.HandedTo (s : State) (m : Measurement) (len : Option Nat) (notice : Prop) (v w : Visit) : Prop :=
  let k := s.active.classify m.axles len
  let x := { v with axles := some m.axles, length := len, cls := k.1, verdict := k.2
                    ident := if v.ident = IdentState.measuring then .pending else v.ident }
  let u := { x with hold := x.heldAs v.hold }
  (¬ notice → w = u) ∧ (notice → s.NoticeTaken u w)

/-- A bay has gone to IDLE or CLOSED by its BAY_OPEN bit: INTRUSION shows it if it is IDLE with its presence line
asserted, and otherwise none is latched (R71, R77). -/
def State.IntrusionJudged (s t : State) (b : Bay) : Prop :=
  if s.bayIsOpen b = true ∧ s.lines.presence.get b = true then t.Shows (.intrusion b s.clock.time)
  else s.KeepsLatch t .intrusion

/-! ### What a new window's reads make of its visit -/

/-- A buffered read offered to a visit that stands in the queue with no call, none of the held visits being that visit,
and the TAG-CONFLICT that the reads before it left to be shown: an ID it carries is dropped, a first ID that nobody
carries adopted; any other is a conflict, IN-USE or SECOND-ID, a second ID kept beside one (R17, R25). -/
def State.readOffered (s : State) (x : Visit × Option Event) (r : TagRead) : Visit × Option Event :=
  let v := x.1
  if r.id ∈ v.tags then x
  else
    match s.heldVisits.find? fun y => y.tags.contains r.id with
    | some o => ({ v with ident := .conflict }, some (.tagConflict v.number r.id .inUse (some o.number)))
    | none =>
      if v.tags = [] then ({ v with tags := [r.id] }, x.2)
      else
        ({ v with tags := if v.tags.length = 1 then v.tags ++ [r.id] else v.tags, ident := .conflict },
          some (.tagConflict v.number r.id .secondId none))

/-! ### What a pass must choose -/

/-- A queued visit that fits a bay at this point of a pass: it has no call, is MATCHED with haulier, programme and class
and has no identification hold, its haulier is OPEN, its price not 0, its credit check passes, and its class is within
the bay's limit (R62, R63). -/
def State.EligibleFor (s : State) (b : Bay) (v : Visit) : Prop :=
  v.call = none ∧ v.identHold = .noHold ∧
    ∃ x ∈ v.terms, s.hauliers[x.haulier].state = .opened ∧ s.active.basePrice x.programme x.cls ≠ 0 ∧
      x.cls ≤ s.active.classLimit b ∧
      (s.hauliers[x.haulier].limit = 0 ∨
        s.journal.balances[x.haulier] + s.committed x.haulier + s.active.basePrice x.programme x.cls ≤
          s.hauliers[x.haulier].limit)

/-- A candidate gives way to fairness: its haulier was the last admitted and its run has reached a quota that is not 0
(R64 conditions 1 to 3). -/
def State.GivesWay (s : State) (v : Visit) : Prop :=
  ∃ h ∈ v.haulier, s.disp.lastHaulier = some h ∧ s.hauliers[h].quota ≠ 0 ∧ s.hauliers[h].quota ≤ s.disp.run

/-- The visit nearest the head of a queue that has a property. -/
def FirstOf (l : List Visit) (P : Visit → Prop) (v : Visit) : Prop :=
  ∃ a z, l = a ++ v :: z ∧ P v ∧ ∀ y ∈ a, ¬ P y

/-- The visit a pass chooses for a bay: the first eligible one, or if that gives way the first eligible one of another
haulier, where there is one (R63, R64). -/
def State.Chosen (s : State) (b : Bay) (w : Visit) : Prop :=
  ∃ v, FirstOf s.queue (s.EligibleFor b) v ∧
    (¬ s.GivesWay v ∧ w = v ∨
      s.GivesWay v ∧ FirstOf s.queue (fun y => s.EligibleFor b y ∧ y.haulier ≠ v.haulier) w ∨
      s.GivesWay v ∧ w = v ∧ ∀ y ∈ s.queue, s.EligibleFor b y → y.haulier = v.haulier)

/-- The three call conditions (R65). -/
def State.MayCall (s : State) : Prop :=
  s.disp.lines.length < 3 ∧ s.journal.reserved + 2 ≤ s.journal.available ∧ s.journal.pendingClose = none

/-- A bay as a call to it on given terms leaves it (R66). -/
def State.CalledBay (s : State) (b : Bay) (x : VisitTerms) : BayUnit :=
  { s.bays.get b with
    state := .called, call := some (s.laneTime + 1000 * s.active.callTimeout),
    record := some (newRecord s.clock.time (s.snapshot x)) }

/-- A work record in CLAIM of phase `k`, whose terms are given: the claim tank is the tank in service, if the phase may
draw on one and its LOW switch is clear, and R_phase the share that tank publishes, 0 without one (R81). -/
def State.claimRecord (s : State) (r : WorkRecord) (ph : PhaseTerms) (k : Nat) : WorkRecord :=
  let tank := if ph.source = .reclaimPreferred then s.service.filter fun i => !s.lines.low.get i else none
  { r with
    phase := k, sub := .claim, claimTank := tank
    entries := r.entries.modify (k - 1) fun e =>
      { e with rPhase := (tank.bind fun i => (s.tanks.get i).share).getD 0 } }

/-! ### A tank that leaves service -/

/-- A bay that acts on a reclaim-loss notice for a tank: it is in RUN of a phase with a share above 0 that it draws from
that tank, and the phase has lost no reclaim yet (R85). -/
def State.LosesReclaim (s : State) (k : Tank) (b : Bay) (r : WorkRecord) (e : PhaseEntry) : Prop :=
  (s.bays.get b).state = .washing ∧ (s.bays.get b).record = some r ∧ r.sub = .run ∧
    r.entries[r.phase - 1]? = some e ∧ 0 < e.rPhase ∧ r.claimTank = some k ∧ e.lost = false

/-- The bays have taken a reclaim-loss notice for a tank: at each that acts on it the blend valve is at 0 and the phase
marked RECLAIM-LOST, no other bay changes, and RECLAIM-LOST shows the one of them with the highest number (log 26), or
with none of them is not latched (R85, R121). -/
def State.ReclaimLost (s t : State) (k : Tank) : Prop :=
  (∀ b r e, s.LosesReclaim k b r e →
    t.bays.get b = { s.bays.get b with
      blend := 0
      record := some { r with entries := r.entries.modify (r.phase - 1) fun x => { x with lost := true } } } ∧
    ((∀ c q f, bayNumber b < bayNumber c → ¬ s.LosesReclaim k c q f) →
      t.Shows (.reclaimLost b r.visitNumber r.phase k e.lb))) ∧
  (∀ b, (∀ r e, ¬ s.LosesReclaim k b r e) → t.bays.get b = s.bays.get b) ∧
  ((∀ b r e, ¬ s.LosesReclaim k b r e) → s.KeepsLatch t .reclaimLost)

/-- The service that a tank has left: a READY other tank takes it over if its LOW switch is clear, its share kept, its
outlet open and its resample timer started, and with LOW asserted goes where its switches send it; otherwise no tank
serves, and the other stays as it was. TANK-CHANGE is latched with the tank that now serves and its share (R113, R119).
-/
def State.HandedOver (s t : State) (k : Tank) (cause : TankCause) : Prop :=
  let j := otherTank k
  let o := s.tanks.get j
  t.service = (if o.state = .ready ∧ s.lines.low.get j = false then some j else none) ∧
  (o.state ≠ .ready → t.tanks.get j = o) ∧
  (o.state = .ready → (t.tanks.get j).share = o.share ∧
    (s.lines.low.get j = false →
      (t.tanks.get j).state = .service ∧ (t.tanks.get j).outlet = true ∧
        (t.tanks.get j).resampleTimer = some (s.laneTime + 60000 * s.active.resampleInterval)) ∧
    (s.lines.low.get j = true →
      (t.tanks.get j).state = (if s.lines.high.get j then .settling else .filling) ∧ (t.tanks.get j).outlet = false)) ∧
  t.Shows (.tankChange (some k) t.service cause (t.service.bind fun i => (t.tanks.get i).share))

/-! ### Counts, accumulators and settlements -/

/-- JOURNAL-LOW as a change of either count leaves it: with a margin below 64 the arm is fired, and if it was armed the
event is latched with the counts; with 64 or more the arm is armed and nothing is latched (R147). -/
def State.LowJudged (s t : State) : Prop :=
  let j := t.journal
  j.lowArmed = decide (j.reserved + 64 ≤ j.available) ∧
    (j.available < j.reserved + 64 → s.journal.lowArmed = true →
      t.Shows (.journalLow j.available j.reserved (j.countState .closed) j.heldPages)) ∧
    (j.reserved + 64 ≤ j.available ∨ s.journal.lowArmed = false → s.KeepsLatch t .journalLow)

/-- One record written, given the page that was OPEN and the record: it takes the next sequence number and the next
unused slot, and the page is CLOSED by its 16th, the next page of the ring then OPEN and the newest if it was FREE, with
the cursors at the ring end moved onto its slot 0. The other pages and cursors, the tagging and a walk stay (R145, R148,
R155). -/
def State.Written (s t : State) (pg : PageNo) (x : Record) : Prop :=
  let g := s.journal.pages[pg]
  let opens := g.records.length = 15 ∧ s.journal.pages[pg + 1].state = .free
  t.journal.nextSeq = s.journal.nextSeq + 1 ∧
    t.journal.pages[pg] = { g with
      records := g.records ++ [x], state := if g.records.length = 15 then .closed else g.state } ∧
    (∀ i : PageNo, i ≠ pg → t.journal.pages[i] =
      if opens ∧ i = pg + 1 then { s.journal.pages[i] with state := .opened } else s.journal.pages[i]) ∧
    t.journal.newest = (if opens then pg + 1 else s.journal.newest) ∧
    (∀ p, t.journal.cursors.get p =
      if opens ∧ (s.journal.cursors.get p).place = .ringEnd then
        { s.journal.cursors.get p with place := .slot (pg + 1) 0 }
      else s.journal.cursors.get p) ∧
    t.journal.tagging = s.journal.tagging ∧ t.journal.walk = s.journal.walk

/-- A reservation drop as it leaves the journal: the reserved count falls and JOURNAL-LOW is judged; then a pending
DAY-CLOSE for which there is room is written onto the page that was OPEN, with DAY-CLOSED, and JOURNAL-LOW is judged
again. That a write lowers the available count by one holds where the pages are sound, which every step keeps (R145,
R146, R147, R152). A drop that lifts the margin to 64 or more latches nothing, as the first change after start-up too
(log 44). -/
def State.SlotReturned (s t : State) : Prop :=
  let a := s.journal.available
  let n := s.journal.reserved - 1
  t.journal.reserved = n ∧
    (s.journal.pendingClose = none ∨ a < n + 1 → s.LowJudged t ∧
      t.journal = { s.journal with reserved := n, lowArmed := t.journal.lowArmed }) ∧
    ∀ d pg, s.PagesSound → s.journal.pendingClose = some d → n + 1 ≤ a → s.journal.openPage = some pg →
      s.Written t pg (.dayClose s.journal.nextSeq d) ∧ t.journal.pendingClose = none ∧
        t.journal.balances = s.journal.balances ∧
        t.Shows (.dayClosed s.journal.nextSeq d.first d.last d.totals.amount) ∧
        t.journal.lowArmed = decide (n + 65 ≤ a) ∧
        (a < n + 64 → s.journal.lowArmed = true →
          t.Shows (.journalLow a n (s.journal.countState .closed) s.journal.heldPages)) ∧
        (a = n + 64 →
          t.Shows (.journalLow (a - 1) n (t.journal.countState .closed) t.journal.heldPages)) ∧
        (n + 65 ≤ a ∨ a < n + 64 ∧ s.journal.lowArmed = false → s.KeepsLatch t .journalLow)

/-- The day accumulators raised by notices, none beyond 4,294,967,295 (R172). -/
def Totals.raised (k : Totals) (charges amount fresh reclaim overdraw : Nat) : Totals :=
  { charges := min 4294967295 (k.charges + charges), amount := min 4294967295 (k.amount + amount)
    fresh := min 4294967295 (k.fresh + fresh), reclaim := min 4294967295 (k.reclaim + reclaim)
    overdraw := min 4294967295 (k.overdraw + overdraw) }

/-- The day accumulators raised by the charge notice of a CHARGE record: one charge, its amount, its fresh litres and
its reclaimed litres (R149, R172). -/
def Totals.charged (k : Totals) (c : Charge) : Totals :=
  k.raised 1 c.amount c.fresh (c.litres - c.fresh) 0

/-- The litres a settlement of a claim against so much fresh water lacks (R108). -/
def State.shortfall (s : State) (claim f : Nat) : Nat :=
  f - (claim + s.water.fresh)

/-- The day accumulators after a settlement: an overdrawing one gives the overdraw notice (R109, R172). -/
def State.accSettled (s : State) (claim f : Nat) : Totals :=
  if s.shortfall claim f = 0 then s.clock.acc else s.clock.acc.raised 0 0 0 0 (s.shortfall claim f)

/-- A settlement of a bay's claim latches OVERDRAW with the shortfall and the value it leaves, if it overdraws, and
otherwise nothing of that kind (R109). -/
def State.OverdrawLatched (s t : State) (b : Bay) (r : WorkRecord) (f : Nat) : Prop :=
  (s.shortfall r.claim f ≠ 0 →
    t.Shows (.overdraw b r.visitNumber r.phase (s.shortfall r.claim f)
      (min 262143 (s.water.overdraw + s.shortfall r.claim f)))) ∧
  (s.shortfall r.claim f = 0 → s.KeepsLatch t .overdraw)

/-! ### The Probe Converter -/

/-- The converter as a conversion's end leaves it with a queue of entries: idle on an empty one, and otherwise already
in REFERENCE of its head, the up-counter preset by the ACTIVE N_ref (R126). -/
def State.convAfter (s : State) (l : List ConvRequest) : Converter :=
  if l = [] then { s.conv with phase := .idle, requests := [] }
  else
    { phase := .reference, requests := l, nRef := s.active.nRef, up := BitVec.ofNat 16 (65536 - s.active.nRef)
      time := 0, saturated := false }

/-- A queue of entries with a tank's request for one of its probes: added to the entry that names the probe, or a new
entry at the tail (R128). -/
def tankRequested (l : List ConvRequest) (p : Probe) : List ConvRequest :=
  if p ∈ l.map (·.probe) then l.map fun e => if e.probe = p then { e with tank := true } else e
  else l ++ [{ probe := p, tank := true, spot1 := false, spot2 := false }]

/-- A queue of entries after a tank's withdrawal, none of them converting (R128). -/
def tankWithdrawn (l : List ConvRequest) (k : Tank) : List ConvRequest :=
  (l.map fun e => if probeTank e.probe = k then { e with tank := false } else e).filter fun e =>
    e.tank || e.spot1 || e.spot2

/-- The converter after a tank has requested its two probes, SALT and then TURB: an idle one begins at once (R116,
R126). -/
def State.convSampling (s : State) (k : Tank) : Converter :=
  let l := tankRequested (tankRequested s.conv.requests (saltProbe k)) (turbProbe k)
  if s.conv.phase = .idle then s.convAfter l else { s.conv with requests := l }

/-! ### How a wash ends -/

/-- The wash of a bay has been charged, its work record standing as given, onto the page that was OPEN: the CHARGE
record is written under the next sequence number, the reservation is consumed, the haulier's balance rises by the
amount, the charge notice raises the day accumulators, which stood as given, JOURNAL-LOW is judged, and WASH-DONE or
WASH-ABORTED is latched; a pending DAY-CLOSE pends on (R91, R147, R149, R172). -/
def State.Charged (s t : State) (pg : PageNo) (b : Bay) (r : WorkRecord) (acc : Totals) : Prop :=
  let c := r.price b false
  s.Written t pg (.charge s.journal.nextSeq c) ∧ t.journal.reserved = s.journal.reserved - 1 ∧
    (∀ h, t.journal.balances[h] = s.journal.balances[h] + (if h = c.haulier then c.amount else 0)) ∧
    t.journal.pendingClose = s.journal.pendingClose ∧
    t.clock = { s.clock with acc := acc.charged c } ∧ s.LowJudged t ∧
    (r.abort = .unmarked → ∀ p, ∃ x, (t.links.get p).latched .washDone = some x ∧
      x.event = .washDone c.visit b c.haulier s.journal.nextSeq c.amount) ∧
    (r.abort ≠ .unmarked → ∀ p, ∃ x, (t.links.get p).latched .washAborted = some x ∧
      x.event = .washAborted c.visit b c.haulier s.journal.nextSeq c.amount r.abort r.phase)

/-- The bay has left WASHING, its wash charged: it waits in EXIT while its truck is there, and otherwise is IDLE or
CLOSED (R92); under mark E-STOP it is in FAULT, its BAY_OPEN bit cleared and BAY-FAULT latched (R89). No other bay
changes. -/
def State.LeftBay (s t : State) (b : Bay) (m : AbortMark) : Prop :=
  (m ≠ .eStop →
    t.water.bayOpen = s.water.bayOpen ∧
    (s.lines.presence.get b = true →
      (t.bays.get b).state = .exit ∧ (t.bays.get b).exit = some (s.laneTime + 1000 * s.active.exitTimeout) ∧
        (t.record b).map (·.chargeSeq) = some (some s.journal.nextSeq)) ∧
    (s.lines.presence.get b = false →
      (t.bays.get b).state = (if s.bayIsOpen b then .idle else .closed) ∧ t.record b = none)) ∧
  (m = .eStop →
    t.water.bayOpen = s.water.bayOpen &&& ~~~(1#6 <<< (bayNumber b - 1)) ∧
    (t.bays.get b).state = .fault ∧ t.record b = none ∧
    ∀ p, ∃ x, (t.links.get p).latched .bayFault = some x ∧ x.event = .bayFault b .washing (s.recordVisit b)) ∧
  ∀ c, c ≠ b → t.bays.get c = s.bays.get c

/-- A wash in WATER-WAIT ended by an abort, its record with the mark and the end time standing as given: the bay is off
the water-wait list with its timer stopped, nothing is drawn or returned, and the wash is charged (R88, R89, R90). -/
def State.WaitAborted (s t : State) (pg : PageNo) (b : Bay) (r : WorkRecord) : Prop :=
  s.Charged t pg b r s.clock.acc ∧ s.LeftBay t b r.abort ∧ (t.bays.get b).wait = none ∧
    t.water = { s.water with waits := s.water.waits.filter (fun x => x.bay ≠ b), bayOpen := t.water.bayOpen }

end Sys2Proof.Machine
end

