-- ==== Sys2Proof/Certificates/Slice0/Obligations.lean ====
section
/-! DEFINITION. The statements handed to the provers, chapter by chapter. A statement of a command's effect concludes that
`exec` answers a next state, says what that state holds, and closes with its frame: an equation `t = { s with … }` whose
list is all that may have changed. That a request row is a whole frame taken at once, its reply beginning in the same step,
is the model's choice throughout (log 1, log 2); so are timer deadlines in whole milliseconds (log 10) and one judgement of
the sign at the end of a step (log 11). -/

open Sys2Proof Sys2Proof.Machine

/-! ### The machine -/

/-- The queue is taken first in, first out: a step is the meaning of the command at its front, on the state with the
queue's rest. That the commands wait in one queue, and its order, are the model's choices, log 1 and log 38; that each
is taken whole, one after another, is the manual's. -/
def Obligations.StepRunsFrontCommand : Prop :=
  ∀ (c : Instr) (rest : List Instr) (s : State),
    s.pending = c :: rest → step s = exec c { s with pending := rest }

/-- On an empty queue the part does of itself what is due, one event a step, and when nothing is due lets 10 us of its
timebase pass (the model's choice, log 2). Over a tick depot time counts on: 1000 ticks to a centisecond, 99 to second's
end, the last centisecond of a day counted to its full 1000 ticks and left standing there for the passage of midnight
(the model's choice, log 4). While the part runs, each bay in RUN moves its pump cycle on by one tick; an idle converter
stands still, in REFERENCE its time counter counts up and in PROBE down, each with the periods that end in the tick,
free values (log 9), until its phase is over. Nothing else changes. -/
def Obligations.IdleStepTakesDueOrTicks : Prop :=
  ∀ s : State, s.pending = [] →
    (s.due ≠ [] → ∃ c ∈ s.due, step s = exec c s) ∧
    (s.due = [] → ∃ t, step s = .next t ∧ t.timebase = s.timebase + 1 ∧
      (s.clock.sub + 1 < 1000 → t.clock = { s.clock with sub := s.clock.sub + 1 }) ∧
      (1000 ≤ s.clock.sub + 1 →
        (s.clock.time.cs < 99 → t.clock = { s.clock with sub := 0, time := { s.clock.time with cs := s.clock.time.cs + 1 } }) ∧
        (99 ≤ s.clock.time.cs → s.clock.time.secs < 86399 →
          t.clock = { s.clock with sub := 0, time := { s.clock.time with secs := s.clock.time.secs + 1, cs := 0 } }) ∧
        (99 ≤ s.clock.time.cs → 86399 ≤ s.clock.time.secs → t.clock = { s.clock with sub := 1000 })) ∧
      (s.part.phase ≠ .running → t.bays = s.bays ∧ t.conv = s.conv) ∧
      (s.part.phase = .running →
        (∀ b, t.bays.get b =
          if s.subState b = .run then { s.bays.get b with pumpPos := (s.bays.get b).pumpPos + 1 } else s.bays.get b) ∧
        (s.conv.phase = .idle → t.conv = s.conv) ∧
        (s.conv.phase = .reference →
          ∃ u, t.conv = { s.conv with time := s.conv.time + 1, up := u } ∧ (u = 0 ∨ s.conv.up.toNat ≤ u.toNat)) ∧
        (s.conv.phase = .probe →
          ∃ u f, t.conv = { s.conv with time := s.conv.time - 1, up := u, saturated := f } ∧
            s.conv.up.toNat ≤ u.toNat ∧ (s.conv.saturated = true → f = true) ∧
            (f = true → s.conv.saturated = false → u = 65535))) ∧
      t = { s with timebase := t.timebase, clock := t.clock, bays := t.bays, conv := t.conv })

/-- No command stops the part, and none touches the commands that wait behind it (log 1: the queue is the model's own).
-/
def Obligations.CommandsCompleteAndKeepQueue : Prop :=
  ∀ (c : Instr) (s : State), ∃ t, exec c s = .next t ∧ t.pending = s.pending

/-- A request's kind byte and payload spell that request again, with every field at every value it can carry. -/
def Obligations.RequestDecodeEncode : Prop :=
  ∀ r : Request, requestOf r.kind r.payload = some r

/-- The state after reset is within the bounds of the Resource Table and the capacities of the collections, its visit
numbers are distinct, its status line shows its inputs, its attention lines follow latch and mask, and its OPEN page has
an unused slot and its FREE pages no record. The state right after reset is the model's choice of log 5. -/
def Obligations.InvariantsAtReset : Prop :=
  (State.reset.WaterBounded) ∧
  (State.reset.WithinCapacity) ∧
  (State.reset.VisitsDistinct) ∧
  (State.reset.SignCurrent) ∧
  (State.reset.AttentionFollows) ∧
  (State.reset.PagesSound)

/-- Every step keeps FRESH_REMAIN, OVERDRAW and the preload within 0 to 262,143 litres, and the capacities of the
Arrival Queue, the Vehicle Register, the tag window list, the tag read buffer and the sign's call lines; and it keeps
the pages of the journal sound: the OPEN page has an unused slot, and a FREE page holds no record. -/
def Obligations.BoundsAndCapacitiesKept : Prop :=
  (∀ s t : State, s.WaterBounded → step s = .next t → t.WaterBounded) ∧
  (∀ s t : State, s.WithinCapacity → step s = .next t → t.WithinCapacity) ∧
  (∀ s t : State, s.PagesSound → step s = .next t → t.PagesSound)

/-- Every step leaves the sign's status line showing what its inputs give. -/
def Obligations.SignStatusKept : Prop :=
  ∀ s t : State, s.SignCurrent → step s = .next t → t.SignCurrent

/-- Every step leaves each attention line asserted exactly while a kind latched on its port has its mask bit set. To
latch an event, on both ports at once whatever the masks, raises the count of its kind by one, from 0 for a clear kind
and no further than 255, and writes the depot time and the instance; the other kinds and the rest of the state stay. -/
def Obligations.AttentionLinesKept : Prop :=
  (∀ s t : State, s.AttentionFollows → step s = .next t → t.AttentionFollows) ∧
  (∀ (s : State) (e : Event) (p : Port) (x : Option LatchEntry) (l : Link),
      x = (s.links.get p).latched e.kind → l = (s.latch e).links.get p →
      l.latched e.kind = some
        { count := min 255 ((match x with
                             | none => 0
                             | some y => y.count) + 1)
          time := s.clock.time, event := e } ∧
      (∀ k, k ≠ e.kind → l.latched k = (s.links.get p).latched k) ∧
      l = { s.links.get p with latch := l.latch, attention := l.attention } ∧
      s.latch e = { s with links := (s.latch e).links })


/-! ### Lane Unit -/

/-- TREADLE_EDGE: a counted edge raises the axle counter by one, up to 15, and becomes the last counted edge; every
other edge changes nothing. -/
def Obligations.TreadleEdgeCountsAxle : Prop :=
  ∀ s : State, s.Running →
    exec .treadleEdge s = .next
      (match s.lane.meas with
       | none => s
       | some m =>
         if m.frozen = false ∧ m.stuck = false ∧ (∀ e, m.lastEdge = some e → e + 80 ≤ s.laneTime) then
           { s with lane := { s.lane with meas := some { m with axles := min 15 (m.axles + 1), lastEdge := some s.laneTime } } }
         else s)

/-- A_ON in ARMED: a measurement starts with everything cleared and its stuck timer running, a visit in ident state
MEASURING joins the queue unless 16 wait, and a tag window opens. The buffered reads within its reach leave the buffer
and are offered to the new visit, oldest first, which adopts a first ID that no held visit carries; any other ID but its
own makes it CONFLICT, with TAG-CONFLICT, VISIT-HELD and a pass. With four windows open the oldest is closed first: its
visit takes the window-close notice, which matches a PENDING visit by its one tag ID, or starts its ident timer, or with
a timeout of 0 makes it UNKNOWN, and does nothing to any other. With the flag already ON nothing changes. -/
def Obligations.AOnStartsMeasurement : Prop :=
  ∀ s : State, s.Running →
    (s.lane.occupied = true → exec .aOn s = .next s) ∧
    (∀ (room : Bool) (w : Visit × Option Event), s.lane.occupied = false → s.lane.meas = none →
      s.lane.windows.length ≤ 4 → room = decide (s.queue.length < 16) →
      w = (s.lane.reads.filter fun r => decide (s.laneTime ≤ r.lane + 1000 * s.active.tagWidth)).foldl s.readOffered
        (newVisit s.nextNumber s.clock.time, none) →
      ∃ t, exec .aOn s = .next t ∧
        t.lane.occupied = true ∧
        (∃ m, t.lane.meas = some m ∧ m.t0 = s.laneTime ∧ m.arrival = s.clock.time ∧ m.tab = none ∧ m.ta = none ∧
          m.axles = 0 ∧ m.lastEdge = none ∧ m.frozen = false ∧ m.stuck = false ∧ m.transit = none ∧
          m.stuckTimer = some (s.laneTime + 65535) ∧
          m.binding = if room then .bound s.nextNumber else .refused) ∧
        t.queue.map (·.number) = s.queue.map (·.number) ++ (if room then [s.nextNumber] else []) ∧
        (room = true → t.queue.getLast? = some w.1) ∧
        (s.lane.windows.length < 4 → t.queue = s.queue ++ (if room then [w.1] else [])) ∧
        (∀ e, room = true → w.2 = some e →
          t.Shows e ∧ t.Shows (.visitHeld s.nextNumber .conflict .noHold) ∧ t.disp.mark = true) ∧
        (room = false ∨ w.2 = none → s.KeepsLatch t .tagConflict) ∧
        (∀ o, s.lane.windows.length = 4 → s.lane.windows.head? = some o →
          (∀ v ∈ s.queue, o.visit ≠ some v.number → v ∈ t.queue) ∧
          (∀ n v, o.visit = some n → s.visitOf n = some v →
            ∃ x, t.visitOf n = some x ∧ s.NoticeTaken v x)) ∧
        t.nextVisit = (if room then numberAfter s.nextNumber else s.nextVisit) ∧
        t.lane.windows = (if s.lane.windows.length < 4 then s.lane.windows else s.lane.windows.tail) ++
          [{ visit := if room then some s.nextNumber else none, aOn := s.laneTime, aOff := none,
             width := s.active.tagWidth }] ∧
        t.lane.reads = s.lane.reads.filter (fun r => decide (r.lane + 1000 * s.active.tagWidth < s.laneTime)) ∧
        t = { s with lane := { s.lane with occupied := true, meas := t.lane.meas, windows := t.lane.windows,
                                           reads := t.lane.reads },
                     queue := t.queue, nextVisit := t.nextVisit, disp := t.disp, links := t.links })

/-- The number a new visit takes is one that no held visit carries, in the queue or in a bay, so that every step leaves
the numbers of the held visits distinct. -/
def Obligations.NextNumberIsFree : Prop :=
  (∀ s : State, s.queue.length < 16 → ∀ v ∈ s.heldVisits, v.number ≠ s.nextNumber) ∧
  (∀ s t : State, s.VisitsDistinct → step s = .next t → t.VisitsDistinct)

/-- A_ON in MEASURING, a tailgate: counting is FROZEN, TAILGATE is latched on both ports, and the second vehicle's visit
joins the queue, its ident state PENDING and its hold MEASURE; with 16 waiting ARRIVAL-REFUSED is latched instead. (That
no queued visit has the next number is `NextNumberIsFree`.) -/
def Obligations.AOnTailgate : Prop :=
  ∀ (s : State) (m : Measurement), s.Running → s.lane.occupied = false → s.lane.meas = some m →
    s.lane.windows.length < 4 → s.lane.reads = [] → (∀ v ∈ s.queue, v.number ≠ s.nextNumber) →
      ∃ t, exec .aOn s = .next t ∧
        t.lane = { s.lane with
          occupied := true, meas := some { m with frozen := true },
          windows := s.lane.windows ++
            [{ visit := if s.queue.length < 16 then some s.nextNumber else none, aOn := s.laneTime, aOff := none,
               width := s.active.tagWidth }] } ∧
        t.queue = s.queue ++ (if s.queue.length < 16 then
          [{ newVisit s.nextNumber s.clock.time with ident := .pending, hold := .measure, verdict := .measure }]
          else []) ∧
        (∀ p, ∃ x, (t.links.get p).latched .tailgate = some x ∧
          x.event = .tailgate m.binding.visit (if s.queue.length < 16 then some s.nextNumber else none)) ∧
        (16 ≤ s.queue.length → ∀ p, ∃ x, (t.links.get p).latched .arrivalRefused = some x ∧
          x.event = .arrivalRefused s.clock.time none none none) ∧
        t = { s with lane := t.lane, queue := t.queue, nextVisit := t.nextVisit, disp := t.disp, links := t.links }

/-- B_ON: the first of a measurement gives t_ab. Where t_a is known, or the elapsed time has reached 65,535, it
completes the measurement: the unit is ARMED again and a BOUND visit takes the hand-over of axles, length (D × t_a ÷
t_ab, absent at 65,535) and class, its hold recomputed, with VISIT-HELD where that is due, and then the notice that was
held back; a REFUSED one latches ARRIVAL-REFUSED. Every other B_ON changes nothing, and B_OFF never does. That a called
visit's hold is recomputed is the model's choice, log 48. The class is absent with verdict MEASURE for an absent length
or fewer than 2 axles, then absent with OVERSIZE above 3000 cm, then the lowest row of the Class Table that admits axles
and length, and with no such row absent with OVERSIZE. -/
def Obligations.BOnTimes : Prop :=
  (∀ s : State, exec .bOff s = .next s) ∧
  (∀ (k : Bank) (axles len : Nat) (admits : Nat → Prop),
      admits = (fun c => axles ≤ k.maxAxles c ∧ len ≤ k.maxLength c) →
      k.classify axles none = (none, .measure) ∧
      (axles ≤ 1 → k.classify axles (some len) = (none, .measure)) ∧
      (2 ≤ axles → 3000 < len → k.classify axles (some len) = (none, .oversize)) ∧
      (∀ c, 2 ≤ axles → len ≤ 3000 → 1 ≤ c → c ≤ 6 → admits c → (∀ i, 1 ≤ i → i < c → ¬ admits i) →
        k.classify axles (some len) = (some c, .noVerdict)) ∧
      (2 ≤ axles → len ≤ 3000 → (∀ c, 1 ≤ c → c ≤ 6 → ¬ admits c) →
        k.classify axles (some len) = (none, .oversize))) ∧
  ∀ s : State, s.Running →
    ((s.lane.meas = none ∨ ∃ m, s.lane.meas = some m ∧ (m.stuck = true ∨ m.tab.isSome = true)) →
      exec .bOn s = .next s) ∧
    (∀ m e len, s.lane.meas = some m → m.stuck = false → m.tab = none → e = elapsed s.laneTime m.t0 →
      len = (if e = 65535 then none else m.ta.map fun a => min 65535 (s.active.laneSpacing * a / e)) →
      (m.ta = none → e ≠ 65535 →
        exec .bOn s = .next { s with lane := { s.lane with meas := some { m with tab := some e } } }) ∧
      (m.ta.isSome = true ∨ e = 65535 →
        (∀ n v, m.binding = .bound n → s.visitOf n = some v →
          ∃ t w, exec .bOn s = .next t ∧ t.lane = { s.lane with meas := none } ∧ t.visitOf n = some w ∧
            s.HandedTo m len (m.heldNotice = true) v w ∧ (m.heldNotice = false → s.HeldShown t v w) ∧
            (∀ x ∈ s.queue, x.number ≠ n → x ∈ t.queue) ∧
            t = { s with lane := t.lane, queue := t.queue, disp := t.disp, links := t.links }) ∧
        (m.binding = .refused →
          exec .bOn s = .next { s.latch (.arrivalRefused m.arrival (some m.axles) len (s.active.classify m.axles len).1)
            with lane := { s.lane with meas := none } }) ∧
        (m.binding = .lost → exec .bOn s = .next { s with lane := { s.lane with meas := none } })))

/-- A_OFF: the flag goes OFF and the newest window takes its A-off time; with W = 0 it leaves at once, giving its
notice, or having it held back for a visit that is still measured. The measurement follows the table of R8: t_a is set
and the transit timer starts, or with t_ab known it completes, or at 65,535 it ends stuck, with LOOP-STUCK; a completed
STUCK one is emptied. At either end a BOUND visit takes the hand-over, its length absent when stuck, its hold
recomputed, with VISIT-HELD where that is due; a REFUSED one latches ARRIVAL-REFUSED, and no other does. The other
queued visits stay. With the flag OFF nothing changes. That a visit gone into its bay takes no hand-over, its
measurement staying BOUND, is the model's choice, log 12, and so is the recomputed hold of a called visit, log 48; the
newest window is read as in log 18. -/
def Obligations.AOffTimes : Prop :=
  ∀ (s : State) (shut : Option Nat), s.Running →
    shut = ((s.lane.windows.getLast?.filter fun w => w.width = 0).bind fun w => w.visit) →
    (s.lane.occupied = false → exec .aOff s = .next s) ∧
    (s.lane.occupied = true →
      ∃ t, exec .aOff s = .next t ∧ t.lane.occupied = false ∧
        t.lane.windows = (match s.lane.windows.getLast? with
          | none => []
          | some w => s.lane.windows.dropLast ++ (if w.width = 0 then [] else [{ w with aOff := some s.laneTime }])) ∧
        (s.lane.meas = none → t.lane.meas = none) ∧
        (∀ m e, s.lane.meas = some m → e = elapsed s.laneTime m.t0 →
          (m.stuck = true → t.lane.meas = none) ∧
          (∀ h, h = (m.heldNotice || shut.isSome && m.binding.visit == shut) →
            (m.stuck = false → m.ta.isSome = true → t.lane.meas = some { m with heldNotice := h }) ∧
            (m.stuck = false → m.ta = none → e ≠ 65535 → m.tab = none →
              t.lane.meas = some { m with ta := some e, stuckTimer := none, heldNotice := h,
                                          transit := some (s.laneTime + 1000 * s.active.transitTimeout) })) ∧
          (∀ b, m.stuck = false → m.ta = none → e ≠ 65535 → m.tab = some b →
            t.lane.meas = none ∧ s.KeepsLatch t .loopStuck) ∧
          (m.stuck = false → m.ta = none → e = 65535 →
            t.lane.meas = none ∧ t.Shows (.loopStuck m.binding.visit m.axles)) ∧
          (∀ len k, m.stuck = false → m.ta = none → e = 65535 ∧ len = none ∨
              e ≠ 65535 ∧ (∃ b, m.tab = some b ∧ len = some (min 65535 (s.active.laneSpacing * e / b))) →
            k = s.active.classify m.axles len →
            (∀ n v, m.binding = .bound n → s.visitOf n = some v →
              ∃ w, t.visitOf n = some w ∧ s.HandedTo m len (m.heldNotice = true ∨ shut = some n) v w ∧
                (m.heldNotice = false → shut = none → s.HeldShown t v w)) ∧
            (m.binding = .refused → t.Shows (.arrivalRefused m.arrival (some m.axles) len k.1)) ∧
            (m.binding ≠ .refused → s.KeepsLatch t .arrivalRefused))) ∧
        t.queue.map (·.number) = s.queue.map (·.number) ∧
        (∀ v ∈ s.queue,
          (∀ m, s.lane.meas = some m → m.binding = .bound v.number → m.stuck = true ∨ t.lane.meas.isSome = true) →
          (shut = some v.number → ∃ m, s.lane.meas = some m ∧ m.binding = .bound v.number ∧ m.stuck = false) →
            v ∈ t.queue) ∧
        (∀ n v, shut = some n → s.visitOf n = some v →
          (∀ m, s.lane.meas = some m → m.binding = .bound n → m.stuck = true) →
            ∃ x, t.visitOf n = some x ∧ s.NoticeTaken v x) ∧
        t = { s with lane := { s.lane with occupied := t.lane.occupied, windows := t.lane.windows,
                                           meas := t.lane.meas },
                     queue := t.queue, disp := t.disp, links := t.links })

/-- TRANSIT_TIMEOUT, a backout: BACKOUT is latched on both ports, a BOUND visit leaves the queue, and the unit is ARMED
again. STUCK_TIMEOUT: LOOP-STUCK is latched on both ports, a BOUND visit is handed over with no length and verdict
MEASURE, its hold recomputed, with VISIT-HELD where that is due; a REFUSED one latches ARRIVAL-REFUSED without length
and class, and the measurement stays, completed STUCK, until the A-off. A timer that does not run expires without
effect. That an expiry acts whenever its timer runs, due or not, is the model's choice, log 15; so is that a visit gone
into its bay takes no hand-over, log 12, and that a called visit's hold is recomputed, log 48. -/
def Obligations.LaneTimersExpire : Prop :=
  (∀ s : State, s.Running →
      ((∀ m, s.lane.meas = some m → m.transit = none) → exec .transitTimeout s = .next s) ∧
      (∀ m d, s.lane.meas = some m → m.transit = some d →
        ∃ t, exec .transitTimeout s = .next t ∧ t.lane = { s.lane with meas := none } ∧
          t.queue = s.queue.filter (fun v => m.binding.visit ≠ some v.number) ∧
          (∀ p, ∃ x, (t.links.get p).latched .backout = some x ∧ x.event = .backout m.binding.visit m.arrival m.axles) ∧
          ((∀ n v, m.binding = .bound n → s.visitOf n = some v → v.call = none) →
            t.bays = s.bays ∧ t.journal = s.journal) ∧
          t = { s with lane := t.lane, queue := t.queue, bays := t.bays, journal := t.journal, disp := t.disp,
                       links := t.links })) ∧
  (∀ s : State, s.Running →
      ((∀ m, s.lane.meas = some m → m.stuckTimer = none) → exec .stuckTimeout s = .next s) ∧
      (∀ m d, s.lane.meas = some m → m.stuckTimer = some d →
        ∃ t, exec .stuckTimeout s = .next t ∧
          t.lane = { s.lane with
            meas := some { m with stuck := true, transit := none, stuckTimer := none, heldNotice := false } } ∧
          (∀ p, ∃ x, (t.links.get p).latched .loopStuck = some x ∧ x.event = .loopStuck m.binding.visit m.axles) ∧
          (∀ n v, m.binding = .bound n → s.visitOf n = some v →
            ∃ w, t.visitOf n = some w ∧ w.cls = none ∧ w.verdict = .measure ∧
              s.HandedTo m none (m.heldNotice = true) v w ∧ (m.heldNotice = false → s.HeldShown t v w)) ∧
          (m.binding = .refused → t.Shows (.arrivalRefused m.arrival (some m.axles) none none)) ∧
          (m.binding ≠ .refused → s.KeepsLatch t .arrivalRefused) ∧
          (∀ v ∈ s.queue, m.binding ≠ .bound v.number → v ∈ t.queue) ∧
          t = { s with lane := t.lane, queue := t.queue, disp := t.disp, links := t.links }))

/-- TAG_FRAME: a frame with a wrong check byte or ID 0 is discarded. An accepted read is offered to the newest window.
Its visit drops an ID it carries and adopts a first ID that nobody carries; any other read is a conflict, IN-USE with
the visit that carries the ID, or SECOND-ID: a queued visit without a call goes to CONFLICT, its timer stopped, a second
ID kept beside one, with VISIT-HELD unless it was in CONFLICT; of one called or in its bay only TAG-CONFLICT is latched.
With no window open the read enters the buffer, a ninth pushing the oldest out with TAG-STRAY, and with W = 0 it is
stray at once. That a partial frame is gone is the model's choice, log 13; the newest window is read as in log 18. -/
def Obligations.TagFrameIsRead : Prop :=
  ∀ (id : TagId) (check : Byte) (s s' : State), s.Running → s' = { s with lane := { s.lane with frame := none } } →
    (check ≠ xorAll (be 5 id.toNat) ∨ id = 0 → exec (.tagFrame id check) s = .next s') ∧
    (check = xorAll (be 5 id.toNat) → id ≠ 0 →
      (∀ w, s.lane.windows.getLast? = some w → w.visit = none → exec (.tagFrame id check) s = .next s') ∧
      (∀ w n o e, s.lane.windows.getLast? = some w → w.visit = some n →
        o = s.heldVisits.find? (fun x => decide (x.number ≠ n) && x.tags.contains id) →
        e = Event.tagConflict n id (if o.isSome then .inUse else .secondId) (o.map (·.number)) →
        (∀ v q, s.visitOf n = some v → v.call = none →
          q = (fun f => s.queue.map fun x => if x.number = n then f v else x) →
          exec (.tagFrame id check) s = .next
            (if id ∈ v.tags then s'
             else if o = none ∧ v.tags = [] then { s' with queue := q fun v => { v with tags := [id] } }
             else State.latch (
              let t := { s' with queue := q fun v =>
                { v with tags := if o = none ∧ v.tags.length = 1 then v.tags ++ [id] else v.tags, ident := .conflict,
                         identTimer := none } }
              if v.ident = .conflict then t
              else State.latch { t with disp := { t.disp with mark := true } } (.visitHeld n .conflict v.hold)) e)) ∧
        (∀ v adopted,
          (∃ b, s.visitOf n = some v ∧ v.call = some b ∧
            adopted = { s' with queue := s.queue.map fun x => if x.number = n then { v with tags := [id] } else x }) ∨
          (∃ b r, s.visitOf n = none ∧ s.bayHolding n = some b ∧ s.record b = some r ∧ r.visit = some v ∧
            adopted = { s' with bays := s.bays.set b { s.bays.get b with
              record := some { r with visit := some { v with tags := [id] } } } }) →
          exec (.tagFrame id check) s = .next
            (if id ∈ v.tags then s' else if o = none ∧ v.tags = [] then adopted else s'.latch e)) ∧
        (s.visitOf n = none → s.bayHolding n = none → exec (.tagFrame id check) s = .next s')) ∧
      (s.lane.windows = [] → s.active.tagWidth = 0 →
        exec (.tagFrame id check) s = .next (s'.latch (.tagStray id s.clock.time))) ∧
      (∀ r : TagRead, s.lane.windows = [] → s.active.tagWidth ≠ 0 →
        r = { id := id, lane := s.laneTime, time := s.clock.time, width := s.active.tagWidth } →
        (s.lane.reads.length < 8 →
          exec (.tagFrame id check) s = .next { s' with lane := { s'.lane with reads := s.lane.reads ++ [r] } }) ∧
        (∀ o l, s.lane.reads = o :: l → 8 ≤ s.lane.reads.length →
          exec (.tagFrame id check) s = .next
            (State.latch { s' with lane := { s'.lane with reads := l ++ [r] } } (.tagStray o.id o.time)))))

/-- TAG_BYTE: a gap of more than 50 ms after the last byte discards the partial frame before the byte is taken. Outside
a frame only 7Eh begins one, the next five bytes are collected, and the sixth is the check byte of the frame that
TAG_FRAME stands for. TAG_FRAME_GAP discards the partial frame. TAG_READ_CHANCE_PASSED drops a buffered read with
TAG-STRAY. That the gap's row acts whenever it is taken, and a read's chance by its place, are the model's choices, log
13 and log 15. -/
def Obligations.TagLineBytes : Prop :=
  (∀ (b : Byte) (s : State) (f : Option (List Byte)), s.Running →
      f = (if s.lane.frameAt + 5000 < s.timebase then none else s.lane.frame) →
      (f = none → b ≠ 0x7E → exec (.tagByte b) s = .next { s with lane := { s.lane with frame := none } }) ∧
      (f = none → b = 0x7E →
        exec (.tagByte b) s = .next { s with lane := { s.lane with frame := some [], frameAt := s.timebase } }) ∧
      (∀ l, f = some l → l.length < 5 →
        exec (.tagByte b) s = .next { s with lane := { s.lane with frame := some (l ++ [b]), frameAt := s.timebase } }) ∧
      (∀ id : TagId, f = some (be 5 id.toNat) →
        exec (.tagByte b) s = exec (.tagFrame id b) { s with lane := { s.lane with frameAt := s.timebase } })) ∧
  (∀ s : State, s.Running →
      exec .tagFrameGap s = .next { s with lane := { s.lane with frame := none } } ∧
      ∀ place : Nat,
        (s.lane.reads.length ≤ place → exec (.tagReadChancePassed place) s = .next s) ∧
        (∀ r, s.lane.reads[place]? = some r →
          exec (.tagReadChancePassed place) s = .next
            (State.latch { s with lane := { s.lane with reads := s.lane.reads.eraseIdx place } } (.tagStray r.id r.time))))

/-- TAG_WINDOW_EXPIRY: a window whose vehicle has left loop A leaves the list. A DISCARD window does nothing more; the
window of a visit still measured has its notice held back; any other gives its queued visit the notice, which matches a
PENDING one by its one tag ID, or starts its ident timer, or with a timeout of 0 makes it UNKNOWN, its hold recomputed,
with VISIT-HELD where that is due, and changes no other. That an expiry names a place, and acts due or not, is the
model's choice, log 15. -/
def Obligations.TagWindowExpires : Prop :=
  ∀ (place : Nat) (s s' : State) (w : TagWindow), s.Running → s.lane.windows[place]? = some w → w.aOff.isSome = true →
    s' = { s with lane := { s.lane with windows := s.lane.windows.eraseIdx place } } →
    (w.visit = none → exec (.tagWindowExpiry place) s = .next s') ∧
    (∀ n m, w.visit = some n → s.lane.meas = some m → m.binding = .bound n → m.stuck = false →
      exec (.tagWindowExpiry place) s = .next
        { s' with lane := { s'.lane with meas := some { m with heldNotice := true } } }) ∧
    (∀ n v, w.visit = some n → (∀ m, s.lane.meas = some m → m.binding ≠ .bound n ∨ m.stuck = true) →
      s.visitOf n = some v →
        ∃ t x, exec (.tagWindowExpiry place) s = .next t ∧ t.lane = s'.lane ∧ t.visitOf n = some x ∧
          s.NoticeTaken v x ∧ s.HeldShown t v x ∧
          (∀ y ∈ s.queue, y.number ≠ n → y ∈ t.queue) ∧
          t = { s with lane := t.lane, queue := t.queue, disp := t.disp, links := t.links })

/-! ### Identification and the Arrival Queue -/

/-- IDENT_TIMER_EXPIRY: a PENDING visit whose timer runs becomes UNKNOWN, the timer stops, a pass is requested and
VISIT-HELD is latched. A number no queued visit carries changes nothing. That an expiry acts due or not is the model's
choice, log 15. -/
def Obligations.IdentTimerExpiryMakesUnknown : Prop :=
  ∀ (n : Nat) (s : State), s.Running →
    (s.visitOf n = none → exec (.identTimerExpiry n) s = .next s) ∧
    (∀ v d, s.visitOf n = some v → v.ident = .pending → v.identTimer = some d →
      exec (.identTimerExpiry n) s = .next
        (State.latch
          { s with
            queue := s.queue.map fun x => if x.number = n then { v with ident := .unknown, identTimer := none } else x,
            disp := { s.disp with mark := true } }
          (.visitHeld n .unknown v.hold)))

/-- PLATE: a plate that is not one, or names no held visit, is refused BAD-ARGUMENT and a visit in a bay REFUSED-STATE.
A queued visit stores the plate; unless it is MATCHED or in CONFLICT, one register entry with that plate matches it, two
or more make it CONFLICT and none leaves its ident state; its hold is recomputed, with VISIT-HELD where that is due, and
the reply gives the ident state that results. That a malformed plate is BAD-ARGUMENT for a visit in a bay too is the
model's choice, log 49. -/
def Obligations.PlateMatches : Prop :=
  ∀ (p : Port) (n : BitVec 16) (f : PlateField) (s : State), s.Ready p →
    (∀ c, (∀ g, plateOf f ≠ some (some g)) ∧ c = ReplyCode.badArgument ∨
        (∃ g, plateOf f = some (some g)) ∧ s.visitOf n.toNat = none ∧
          c = (if (s.bayHolding n.toNat).isSome then ReplyCode.refusedState else .badArgument) →
      exec (.plate p n f) s = .next (s.replying p (.plate n f) (refuse c))) ∧
    (∀ g v, plateOf f = some (some g) → s.visitOf n.toNat = some v →
      ∃ t w, exec (.plate p n f) s = .next t ∧ t.visitOf n.toNat = some w ∧
        s.Answered t p (.plate n f) (accept (be 1 w.ident.ctorIdx)) ∧
        (v.ident = .matched ∨ v.ident = .conflict ∨ s.register.filter (fun e => e.plate = some g) = [] →
          w = { v with plate := some g, hold := w.hold }) ∧
        (v.ident ≠ .matched → v.ident ≠ .conflict →
          (∀ e, s.register.filter (fun e => e.plate = some g) = [e] →
            w = { v with plate := some g, ident := .matched, haulier := some e.haulier, programme := e.programme,
                         blocked := e.blocked, identTimer := none, hold := w.hold }) ∧
          (2 ≤ (s.register.filter (fun e => e.plate = some g)).length →
            w = { v with plate := some g, ident := .conflict, identTimer := none, hold := w.hold })) ∧
        w.hold = w.heldAs v.hold ∧ s.HeldShown t v w ∧
        (∀ x ∈ s.queue, x.number ≠ n.toNat → x ∈ t.queue) ∧
        t = { s with queue := t.queue, disp := t.disp, links := t.links })

/-- IDENTIFY: a field out of range is refused BAD-ARGUMENT, as is a visit held nowhere, and a visit in a bay, called or
MEASURING REFUSED-STATE. Any other queued visit takes the haulier, the programme and the class if one is given, keeps
only its first tag ID, and becomes MATCHED with its timer stopped; with a class its lane verdict is NONE, and for
haulier 0 its blocked mark is cleared; its hold is recomputed, with VISIT-HELD where that is due, and the reply gives
it. That a field out of range comes before REFUSED-STATE is the model's choice, log 49. -/
def Obligations.IdentifyMatches : Prop :=
  ∀ (p : Port) (n : BitVec 16) (h g c : Byte) (s : State), s.Ready p →
    (64 ≤ h.toNat ∨ g.toNat = 0 ∨ 12 < g.toNat ∨ 6 < c.toNat →
      exec (.identify p n h g c) s = .next (s.replying p (.identify n h g c) (refuse .badArgument))) ∧
    (h.toNat < 64 → 1 ≤ g.toNat → g.toNat ≤ 12 → c.toNat ≤ 6 → s.visitOf n.toNat = none →
      exec (.identify p n h g c) s = .next (s.replying p (.identify n h g c)
        (refuse (if (s.bayHolding n.toNat).isSome then .refusedState else .badArgument)))) ∧
    (∀ v, h.toNat < 64 → 1 ≤ g.toNat → g.toNat ≤ 12 → c.toNat ≤ 6 → s.visitOf n.toNat = some v →
      (v.call.isSome = true ∨ v.ident = .measuring →
        exec (.identify p n h g c) s = .next (s.replying p (.identify n h g c) (refuse .refusedState))) ∧
      (v.call = none → v.ident ≠ .measuring →
        ∃ t w, exec (.identify p n h g c) s = .next t ∧ t.visitOf n.toNat = some w ∧
          s.Answered t p (.identify n h g c) (accept (be 1 w.hold.ctorIdx)) ∧
          w.haulier.map (·.val) = some h.toNat ∧ w.programme = some g.toNat ∧
          w.cls = (if c.toNat = 0 then v.cls else some c.toNat) ∧
          w.verdict = (if w.cls.isSome then .noVerdict else v.verdict) ∧
          w.blocked = (if h.toNat = 0 then false else v.blocked) ∧
          w = { v with haulier := w.haulier, programme := w.programme, cls := w.cls, verdict := w.verdict
                       tags := v.tags.take 1, blocked := w.blocked, ident := .matched, identTimer := none
                       hold := w.hold } ∧
          w.hold = w.heldAs v.hold ∧ s.HeldShown t v w ∧
          (∀ x ∈ s.queue, x.number ≠ n.toNat → x ∈ t.queue) ∧
          t = { s with queue := t.queue, disp := t.disp, links := t.links }))

/-- ENQUEUE: with every field in range, a place free and the tag carried by no held visit, a MATCHED visit with the
given fields joins at the tail under the next free number, which the reply gives; the counter moves past it and a pass
is requested. A field out of range or a plate that is none is refused BAD-ARGUMENT, then 16 visits QUEUE-FULL, then a
tag in use IN-USE. That a tag of 0 and a plate of 00h are absent is read as in log 21. -/
def Obligations.EnqueueCreatesVisit : Prop :=
  (∀ (p : Port) (h g c : Byte) (tag : TagId) (f : PlateField) (s : State), s.Ready p →
    (64 ≤ h.toNat ∨ g.toNat = 0 ∨ 12 < g.toNat ∨ c.toNat = 0 ∨ 6 < c.toNat ∨ plateOf f = none) →
    exec (.enqueue p h g c tag f) s = .next (s.replying p (.enqueue h g c tag f) (refuse .badArgument))) ∧
  ∀ (p : Port) (h : Haulier) (g c : Byte) (tag : TagId) (f : PlateField) (pl : Option Plate) (s : State) (r : Request),
    s.Ready p → 1 ≤ g.toNat → g.toNat ≤ 12 → 1 ≤ c.toNat → c.toNat ≤ 6 → plateOf f = some pl →
    r = .enqueue (BitVec.ofNat 8 h.val) g c tag f →
    (16 ≤ s.queue.length →
      exec (.enqueue p (BitVec.ofNat 8 h.val) g c tag f) s = .next (s.replying p r (refuse .queueFull))) ∧
    (s.queue.length < 16 → tag ≠ 0 → (∃ v ∈ s.heldVisits, v.number ≠ 0 ∧ tag ∈ v.tags) →
      exec (.enqueue p (BitVec.ofNat 8 h.val) g c tag f) s = .next (s.replying p r (refuse .inUse))) ∧
    (s.queue.length < 16 → (tag = 0 ∨ ∀ v ∈ s.heldVisits, tag ∉ v.tags) →
      ∃ t, exec (.enqueue p (BitVec.ofNat 8 h.val) g c tag f) s = .next t ∧
        s.Answered t p r (accept (be 2 s.nextNumber)) ∧
        t.queue = s.queue ++
          [{ number := s.nextNumber, arrival := s.clock.time, axles := none, length := none, cls := some c.toNat,
             tags := if tag = 0 then [] else [tag], plate := pl, haulier := some h, programme := some g.toNat,
             ident := .matched, hold := .noHold, call := none, noShow := 0, verdict := .noVerdict, blocked := false,
             identTimer := none, closed := false }] ∧
        t.nextVisit = numberAfter s.nextNumber ∧ t.disp.mark = true ∧
        t = { s with queue := t.queue, nextVisit := t.nextVisit, disp := t.disp, links := t.links })

/-- REMOVE_VISIT: a visit in a bay is refused REFUSED-STATE, one held nowhere BAD-ARGUMENT. A queued visit leaves the
queue and its measurement, if it still runs, is LOST; if a bay called it, the call ends: the sign line goes, the bay's
record is cleared, its reservation drops, with JOURNAL-LOW judged and a pending DAY-CLOSE written where there is room
(the pages being sound, as every step keeps them), a bay IDLE under an asserted presence line latches INTRUSION, and the
reply names the bay. A drop that lifts the margin to 64 or more latches nothing, as the first change after start-up too
(the model's choice, log 44). That the bay is answered only for a cancelled call is read as in log 21. -/
def Obligations.RemoveVisitRemoves : Prop :=
  ∀ (p : Port) (n : BitVec 16) (s : State), s.Ready p →
    (s.visitOf n.toNat = none →
      exec (.removeVisit p n) s = .next (s.replying p (.removeVisit n)
        (refuse (if (s.bayHolding n.toNat).isSome then .refusedState else .badArgument)))) ∧
    (∀ v, s.visitOf n.toNat = some v →
      ∃ t, exec (.removeVisit p n) s = .next t ∧
        s.Answered t p (.removeVisit n) (accept (match v.call with
                                                 | none => []
                                                 | some b => be 1 (bayNumber b))) ∧
        t.queue = s.queue.filter (fun x => x.number ≠ n.toNat) ∧
        t.lane = { s.lane with meas := s.lane.meas.map fun m =>
          if m.binding = .bound n.toNat then { m with binding := .lost, heldNotice := false } else m } ∧
        (v.call = none → t.bays = s.bays ∧ t.journal = s.journal ∧ t.disp.lines = s.disp.lines) ∧
        (∀ b, v.call = some b → t.disp.lines = s.disp.lines.filter (fun l => l.bay ≠ b) ∧
          (t.bays.get b).record = none ∧ (t.bays.get b).state = (if s.bayIsOpen b then .idle else .closed) ∧
          s.SlotReturned t ∧ s.IntrusionJudged t b ∧
          ∀ x, x ≠ b → t.bays.get x = s.bays.get x) ∧
        t = { s with queue := t.queue, lane := t.lane, bays := t.bays, journal := t.journal, disp := t.disp,
                     links := t.links })

/-- VEHICLE_PUT: the entry is replaced, or added behind the others unless 512 stand in the register; the reply says
which and how many there are now, and every queued visit that waits with just that tag ID takes its match, its hold
recomputed, with VISIT-HELD where one such visit becomes held; the others stay. A tag ID of 0, a field out of range or a
plate that is none is refused BAD-ARGUMENT, a new key beyond 512 entries TABLE-FULL, in that order by the model's
choice, log 49. VEHICLE_DROP removes the entry with the tag ID, or with none present is refused BAD-ARGUMENT; no visit
changes. That a plate of 00h is absent, and the codes of the indication, are read as in log 21 and log 40. -/
def Obligations.VehicleRegisterChanges : Prop :=
  (∀ (p : Port) (tag : TagId) (h g b : Byte) (f : PlateField) (s : State), s.Ready p →
      (tag = 0 ∨ 64 ≤ h.toNat ∨ 12 < g.toNat ∨ plateOf f = none ∨ 1 < b.toNat) →
      exec (.vehiclePut p tag h g f b) s = .next (s.replying p (.vehiclePut tag h g f b) (refuse .badArgument))) ∧
  (∀ (p : Port) (e : VehicleEntry) (h g b : Byte) (f : PlateField) (s : State) (r : Request) (waits : Visit → Prop),
      waits = (fun v => v.tags = [e.tag] ∧ (v.ident = .pending ∧ v.closed = true ∨ v.ident = .unknown)) →
      s.Ready p → e.tag ≠ 0 →
      h.toNat = e.haulier.val → (e.programme = if g.toNat = 0 then none else some g.toNat) → g.toNat ≤ 12 →
      plateOf f = some e.plate → (b.toNat = if e.blocked then 1 else 0) → r = .vehiclePut e.tag h g f b →
      ((∀ x ∈ s.register, x.tag ≠ e.tag) → 512 ≤ s.register.length →
        exec (.vehiclePut p e.tag h g f b) s = .next (s.replying p r (refuse .tableFull))) ∧
      ((∃ x ∈ s.register, x.tag = e.tag) ∨ s.register.length < 512 →
        ∃ t, exec (.vehiclePut p e.tag h g f b) s = .next t ∧
          ((∃ x ∈ s.register, x.tag = e.tag) →
            t.register = s.register.map (fun x => if x.tag = e.tag then e else x) ∧
            s.Answered t p r (accept (be 1 0 ++ be 2 s.register.length))) ∧
          ((∀ x ∈ s.register, x.tag ≠ e.tag) →
            t.register = s.register ++ [e] ∧ s.Answered t p r (accept (be 1 1 ++ be 2 (s.register.length + 1)))) ∧
          (∀ v, s.visitOf v.number = some v → waits v →
            ∃ w, t.visitOf v.number = some w ∧
              w = { v with ident := .matched, haulier := some e.haulier, programme := e.programme, blocked := e.blocked
                           identTimer := none, hold := w.hold } ∧
              w.hold = w.heldAs v.hold ∧
              ((∀ y ∈ s.queue, waits y → y.number = v.number) → s.HeldShown t v w)) ∧
          (∀ v ∈ s.queue, (∀ y ∈ s.queue, waits y → y.number ≠ v.number) → v ∈ t.queue) ∧
          ((∀ y ∈ s.queue, ¬ waits y) → t.queue = s.queue ∧ s.KeepsLatch t .visitHeld) ∧
          t = { s with register := t.register, queue := t.queue, disp := t.disp, links := t.links })) ∧
  (∀ (p : Port) (tag : TagId) (s : State), s.Ready p →
      ((∀ x ∈ s.register, x.tag ≠ tag) →
        exec (.vehicleDrop p tag) s = .next (s.replying p (.vehicleDrop tag) (refuse .badArgument))) ∧
      ((∃ x ∈ s.register, x.tag = tag) →
        exec (.vehicleDrop p tag) s = .next
          (State.replying { s with register := s.register.filter fun x => x.tag ≠ tag } p (.vehicleDrop tag)
            (accept (be 2 (s.register.filter fun x => x.tag ≠ tag).length)))))

/-- The reading requests answer what they read and change nothing but the port's reply: QUEUE_LIST, VISIT_READ,
VEHICLE_GET, HAULIER_GET, TERMS_READ, WATER_STATUS, TIME_READ, and IDENTITY, in start-up too: CRESPOL and GELBOR DW6 in
10 bytes each, revision 1, the start kind (COLD 0, WARM 1, PENDING 2), the reset cause (POWER-ON 0, RESET-LINE 1,
RESET-REQUEST 2, CLEAR-STORE 3) and the starting byte. Layouts that no table gives are the model's choices, log 20; the
codes of kind and cause are read as in log 40. -/
def Obligations.ReadingRequestsAnswer : Prop :=
  (∀ (p : Port) (s : State) (kind cause starting : Nat), s.part.phase ≠ .off →
    (s.part.phase = .running → s.disp.status = s.signStatus) → (s.links.get p).reply = none →
    (s.links.get p).held = none →
    (s.part.startKind = .cold ∧ kind = 0 ∨ s.part.startKind = .warm ∧ kind = 1 ∨ s.part.startKind = .pending ∧ kind = 2) →
    (s.part.cause = .powerOn ∧ cause = 0 ∨ s.part.cause = .resetLine ∧ cause = 1 ∨
      s.part.cause = .resetRequest ∧ cause = 2 ∨ s.part.cause = .clearStore ∧ cause = 3) →
    starting = (if s.part.phase = .running then 0 else 1) →
    exec (.identity p) s = .next (s.replying p .identity (accept
      (("CRESPOL".toList.map fun x => BitVec.ofNat 8 x.toNat) ++ [0, 0, 0] ++
        ("GELBOR DW6".toList.map fun x => BitVec.ofNat 8 x.toNat) ++ be 1 1 ++ be 1 kind ++ be 1 cause ++
        be 1 starting)))) ∧
  ∀ (p : Port) (s : State), s.Ready p →
    exec (.queueList p) s = .next (s.replying p .queueList
      (accept (be 1 s.queue.length ++ s.queue.flatMap fun v =>
        be 2 v.number ++ be 1 v.ident.ctorIdx ++ be 1 v.hold.ctorIdx ++ bayByte v.call ++ be 1 v.noShow))) ∧
    (∀ n v, s.visitOf n.toNat = some v →
      exec (.visitRead p n) s = .next (s.replying p (.visitRead n) (accept v.encode))) ∧
    (∀ n, s.visitOf n.toNat = none →
      exec (.visitRead p n) s = .next (s.replying p (.visitRead n)
        (refuse (if (s.bayHolding n.toNat).isSome then .refusedState else .badArgument)))) ∧
    (∀ tag e, s.lookup tag = some e →
      exec (.vehicleGet p tag) s = .next (s.replying p (.vehicleGet tag) (accept e.encode))) ∧
    (∀ tag, s.lookup tag = none →
      exec (.vehicleGet p tag) s = .next (s.replying p (.vehicleGet tag) (refuse .badArgument))) ∧
    (∀ (h : Byte) (k : h.toNat < 64),
      exec (.haulierGet p h) s = .next (s.replying p (.haulierGet h)
        (accept (be 1 s.hauliers[h.toNat].state.ctorIdx ++ be 2 s.hauliers[h.toNat].discount ++
          be 4 s.hauliers[h.toNat].limit ++ be 1 s.hauliers[h.toNat].quota ++
          be 4 s.journal.balances[h.toNat])))) ∧
    (∀ c i k, blockOf c.toNat i.toNat = .ok k →
      exec (.termsRead p c i) s = .next (s.replying p (.termsRead c i)
        (accept (be 1 s.generation ++ [c, i] ++ (s.active.block k).toList ++
          be 2 (crc ([c, i] ++ (s.active.block k).toList)).toNat)))) ∧
    exec (.waterStatus p) s = .next (s.replying p .waterStatus
      (accept (be 3 s.water.fresh ++ be 3 s.water.overdraw ++ be 1 s.water.bayOpen.toNat ++
        be 1 (ownerNumber s.water.owner) ++ be 3 s.water.preload ++ be 1 s.water.waits.length ++
        s.water.waits.flatMap (fun x => be 1 (bayNumber x.bay) ++ be 2 x.estimate) ++
        allBays.flatMap fun b => be 2 (((s.record b).map (·.claim)).getD 0)))) ∧
    exec (.timeRead p) s = .next (s.replying p .timeRead
      (accept (timeBytes s.clock.time ++ be 2 s.clock.billingDay ++ be 2 s.clock.lastClosed ++ s.clock.acc.encode)))

/-! ### Accounts and Terms -/

/-- HAULIER_PUT: from a port that is not the settlement owner it is refused NOT-OWNER, with a field out of range
BAD-ARGUMENT; otherwise the entry takes the given values, a pass is requested, and the reply gives entry and balance.
HAULIER_DROP, refused in the same way for a number above 63 or 0: the owner closes an account that is not haulier 0, not
CLOSED already, has balance 0 and is carried by no held visit, its other terms kept; with a balance or such visits it is
refused IN-USE with both. -/
def Obligations.HaulierTableChanges : Prop :=
  (∀ (p : Port) (h st : Byte) (d : BitVec 16) (l : BitVec 32) (q : Byte) (s : State), s.Ready p →
      (s.water.owner ≠ some p →
        exec (.haulierPut p h st d l q) s = .next (s.replying p (.haulierPut h st d l q) (refuse .notOwner))) ∧
      (s.water.owner = some p →
        (64 ≤ h.toNat ∨ 2 ≤ st.toNat ∨ 500 < d.toNat ∨ 99999999 < l.toNat ∨ 15 < q.toNat →
          exec (.haulierPut p h st d l q) s = .next (s.replying p (.haulierPut h st d l q) (refuse .badArgument))) ∧
        (∀ k : h.toNat < 64, st.toNat < 2 → d.toNat ≤ 500 → l.toNat ≤ 99999999 → q.toNat ≤ 15 →
          exec (.haulierPut p h st d l q) s = .next
            (State.replying
              { s with
                hauliers := s.hauliers.set h.toNat
                  { state := if st.toNat = 0 then .opened else .onStop, discount := d.toNat, limit := l.toNat,
                    quota := q.toNat }
                disp := { s.disp with mark := true } }
              p (.haulierPut h st d l q)
              (accept (be 1 st.toNat ++ be 2 d.toNat ++ be 4 l.toNat ++ be 1 q.toNat ++
                be 4 s.journal.balances[h.toNat])))))) ∧
  (∀ (p : Port) (h : Byte) (s : State), s.Ready p → 64 ≤ h.toNat →
      exec (.haulierDrop p h) s = .next (s.replying p (.haulierDrop h)
        (refuse (if s.water.owner = some p then .badArgument else .notOwner)))) ∧
  (∀ (p : Port) (h : Byte) (k : h.toNat < 64) (s : State), s.Ready p →
      (s.water.owner ≠ some p →
        exec (.haulierDrop p h) s = .next (s.replying p (.haulierDrop h) (refuse .notOwner))) ∧
      (s.water.owner = some p →
        (h.toNat = 0 → exec (.haulierDrop p h) s = .next (s.replying p (.haulierDrop h) (refuse .badArgument))) ∧
        (h.toNat ≠ 0 → s.hauliers[h.toNat].state = .closed →
          exec (.haulierDrop p h) s = .next (s.replying p (.haulierDrop h) (refuse .refusedState))) ∧
        (h.toNat ≠ 0 → s.hauliers[h.toNat].state ≠ .closed →
          (s.journal.balances[h.toNat] ≠ 0 ∨ (∃ v ∈ s.heldVisits, v.haulier.map (·.val) = some h.toNat) →
            exec (.haulierDrop p h) s = .next (s.replying p (.haulierDrop h)
              (answer .inUse (be 4 s.journal.balances[h.toNat] ++
                be 1 (s.heldVisits.countP fun v => v.haulier.map (·.val) = some h.toNat))))) ∧
          (s.journal.balances[h.toNat] = 0 → (∀ v ∈ s.heldVisits, v.haulier.map (·.val) ≠ some h.toNat) →
            exec (.haulierDrop p h) s = .next
              (State.replying
                { s with
                  hauliers := s.hauliers.set h.toNat { s.hauliers[h.toNat] with state := .closed }
                  disp := { s.disp with mark := true } }
                p (.haulierDrop h) (accept []))))))

/-- TERMS_BEGIN, TERMS_COUNT and TERMS_ABANDON: refused REFUSED-BUSY while the other port's load is open and NOT-OWNER
from a port that is not the owner, as TERMS_BLOCK and TERMS_COMMIT are too. BEGIN opens a load with a copy of the ACTIVE
bank and count 0; COUNT answers the count and the generation; ABANDON closes the load. -/
def Obligations.StagedLoadOpensAndCloses : Prop :=
  ∀ (p : Port) (s : State), s.Ready p →
    (∀ c r a i content d, (c, r) ∈ [(Instr.termsBegin p, Request.termsBegin), (.termsCount p, .termsCount),
        (.termsAbandon p, .termsAbandon), (.termsCommit p, .termsCommit),
        (.termsBlock p a i content d, .termsBlock a i content d)] →
      (∀ g, s.staging = some g → g.port ≠ p → exec c s = .next (s.replying p r (refuse .refusedBusy))) ∧
      ((∀ g, s.staging = some g → g.port = p) → s.water.owner ≠ some p →
        exec c s = .next (s.replying p r (refuse .notOwner))) ∧
      (s.staging = none → s.water.owner = some p → r ≠ .termsBegin →
        exec c s = .next (s.replying p r (refuse .refusedState)))) ∧
    (s.water.owner = some p →
      ((∀ g, s.staging = some g → g.port = p) →
        exec (.termsBegin p) s = .next
          (State.replying { s with staging := some { port := p, bank := s.active, count := 0 } } p .termsBegin
            (accept (be 1 s.generation)))) ∧
      (∀ g, s.staging = some g → g.port = p →
        exec (.termsCount p) s = .next (s.replying p .termsCount (accept (be 2 g.count ++ be 1 s.generation))) ∧
        exec (.termsAbandon p) s = .next (State.replying { s with staging := none } p .termsAbandon (accept []))))

/-- TERMS_BLOCK of the owner's open load: a wrong digest is DIGEST-REJECTED; a field out of its block range is
WRITE-ERROR with the offset of the first such; otherwise the block is written into STAGING and the count rises by one,
up to 65,535. The ranges are those of the Class Table, the phase fields, the prices and rates, and the Depot Settings.
TERMS_COMMIT: with a failed check it is TERMS-INVALID and nothing changes; otherwise STAGING becomes ACTIVE as a whole,
the generation moves on (from 255 to 1), the load closes and a pass is requested. The checks, programme by programme:
every phase in use within its range, then weights that sum to 1000, an undefined programme without prices; last the
salinity thresholds. The presence byte in TERMS-INVALID is the model's choice, log 24, and so is that the pass is
requested as the reply begins, log 46. -/
def Obligations.TermsBlockAndCommit : Prop :=
  (∀ (p : Port) (c i : Byte) (content : BlockContent) (d : BitVec 16) (g : Staging) (s : State), s.Ready p →
      s.water.owner = some p → s.staging = some g → g.port = p →
      (d ≠ crc ([c, i] ++ content.toList) →
        exec (.termsBlock p c i content d) s = .next (s.replying p (.termsBlock c i content d) (refuse .digestRejected))) ∧
      (d = crc ([c, i] ++ content.toList) →
        (∀ off, blockOf c.toNat i.toNat = .error off →
          exec (.termsBlock p c i content d) s = .next
            (s.replying p (.termsBlock c i content d) (answer .writeError (be 1 off)))) ∧
        (∀ k x, blockOf c.toNat i.toNat = .ok k → (blockTests k).find? (fun t => !t.passes content) = some x →
          exec (.termsBlock p c i content d) s = .next
            (s.replying p (.termsBlock c i content d) (answer .writeError (be 1 (x.off + 2))))) ∧
        (∀ k, blockOf c.toNat i.toNat = .ok k → (∀ x ∈ blockTests k, x.passes content = true) →
          exec (.termsBlock p c i content d) s = .next
            (State.replying
              { s with staging := some { g with bank := g.bank.setBlock k content, count := min 65535 (g.count + 1) } }
              p (.termsBlock c i content d) (accept (be 2 (min 65535 (g.count + 1)))))))) ∧
  (∀ (p : Port) (g : Staging) (s : State), s.Ready p → s.water.owner = some p → s.staging = some g → g.port = p →
      (∀ f, g.bank.commitFailure = some f →
        exec (.termsCommit p) s = .next (s.replying p .termsCommit (answer .termsInvalid f.encode))) ∧
      (g.bank.commitFailure = none →
        exec (.termsCommit p) s = .next
          (State.replying
            { s with active := g.bank, generation := (if s.generation = 255 then 1 else s.generation + 1),
                     staging := none, disp := { s.disp with mark := true } }
            p .termsCommit (accept (be 1 (if s.generation = 255 then 1 else s.generation + 1)))))) ∧
  (∀ (content : BlockContent) (v : Nat → Nat → Nat) (ok : BlockId → Prop), v = field content.toList →
      ok = (fun k => ∀ x ∈ blockTests k, x.passes content = true) →
      (∀ k, ((blockTests k).map (·.off)).Pairwise (· < ·)) ∧
      (ok .classTable ↔ ∀ r, r < 6 → 2 ≤ v (3 * r) 1 ∧ v (3 * r) 1 ≤ 12 ∧ v (3 * r + 1) 2 ≤ 3000) ∧
      (∀ i : Fin 24, ok (.programme i) ↔ (i.val % 2 = 0 → v 0 1 ≤ 8) ∧
        ∀ k, k < 4 → v (9 * k + 1) 1 ≤ 6 ∧ v (9 * k + 2) 1 ≤ 1 ∧ v (9 * k + 3) 2 ≤ 4000 ∧ v (9 * k + 5) 2 ≤ 1800 ∧
          v (9 * k + 7) 1 ≤ 255 ∧ v (9 * k + 8) 2 ≤ 1000) ∧
      (∀ i : Fin 7, ok (.tariff i) ↔
        if i.val < 6 then ∀ c, c < 12 → v (3 * c) 3 ≤ 99999 else v 0 2 ≤ 2000 ∧ v 2 2 ≤ 2000) ∧
      (ok .settings ↔
        (100 ≤ v 0 2 ∧ v 0 2 ≤ 2000) ∧ (5 ≤ v 2 1 ∧ v 2 1 ≤ 120) ∧ v 3 1 ≤ 5 ∧ v 4 1 ≤ 120 ∧
        (∀ b, b < 6 → 1 ≤ v (5 + b) 1 ∧ v (5 + b) 1 ≤ 6) ∧ (2 ≤ v 11 1 ∧ v 11 1 ≤ 30) ∧
        (30 ≤ v 12 2 ∧ v 12 2 ≤ 600) ∧ (30 ≤ v 14 2 ∧ v 14 2 ≤ 600) ∧ v 16 2 ≤ 600 ∧ (1 ≤ v 18 1 ∧ v 18 1 ≤ 240) ∧
        (5 ≤ v 19 1 ∧ v 19 1 ≤ 240) ∧ (256 ≤ v 20 2 ∧ v 20 2 ≤ 16384) ∧ v 22 2 ≤ 65535 ∧ v 24 2 ≤ 65535 ∧
        v 26 2 ≤ 65535 ∧ v 28 2 ≤ 65535 ∧ v 30 1 ≤ 60)) ∧
  (∀ (b : Bank) (fit : Nat → Nat → Prop) (ok : Nat → Prop),
      fit = (fun p k => (b.phase p k).kind ≠ .unused ∧ 1 ≤ (b.phase p k).dose ∧ (b.phase p k).dose ≤ 4000 ∧
        10 ≤ (b.phase p k).limit ∧ (b.phase p k).limit ≤ 1800) →
      ok = (fun p =>
        (b.phaseCount p = 0 → ∀ c, 1 ≤ c → c ≤ 6 → b.basePrice p c = 0) ∧
        (b.phaseCount p ≠ 0 → (∀ k, 1 ≤ k → k ≤ b.phaseCount p → fit p k) ∧
          ((b.phases p).map (·.weight)).sum = 1000)) →
      (b.commitFailure = none ↔ (∀ p, 1 ≤ p → p ≤ 12 → ok p) ∧ b.qLow < b.qHigh ∧ b.qHigh ≤ b.qDump) ∧
      (∀ p, 1 ≤ p → p ≤ 12 → (∀ q, 1 ≤ q → q < p → ok q) →
        (b.phaseCount p = 0 → (∃ c, 1 ≤ c ∧ c ≤ 6 ∧ b.basePrice p c ≠ 0) → b.commitFailure = some (.priceUndefined p)) ∧
        (∀ k, 1 ≤ k → k ≤ b.phaseCount p → (∀ i, 1 ≤ i → i < k → fit p i) → ¬ fit p k →
          b.commitFailure = some (.phaseRange p k)) ∧
        (b.phaseCount p ≠ 0 → (∀ k, 1 ≤ k → k ≤ b.phaseCount p → fit p k) →
          ((b.phases p).map (·.weight)).sum ≠ 1000 → b.commitFailure = some (.weightSum p))) ∧
      ((∀ p, 1 ≤ p → p ≤ 12 → ok p) → (b.qHigh ≤ b.qLow ∨ b.qDump < b.qHigh) →
        b.commitFailure = some .thresholds))

/-! ### Dispatch and the lane sign -/

/-- DISPATCH_PASS with its mark clear does nothing. Otherwise it clears the mark and writes the account hold of every
queued visit that has no call and no identification hold. Where no considered bay has an eligible visit, or a call
condition fails, it does no more. For the only considered bay with one, the eligible visit nearest the head, or by
fairness the first of another haulier, is called: the visit names the bay, the reserved count rises, the work record
starts with the terms snapshot, a call line is added, the call timer starts and the fairness state is updated. Two
visits, each first for one of two bays: of different hauliers both are called while line and slot remain, and otherwise
the pass stops with the second's hold as it was; of one haulier whose credit no longer carries the second, it is held
CREDIT with VISIT-HELD. Each call is judged for JOURNAL-LOW: the first to bring the margin below 64 latches it and fires
the arm. (Visit numbers are distinct: `NextNumberIsFree`.) That a pass takes the identification hold as the marks stand
is the model's choice, log 43, and so is that a visit too large for a bay takes no CREDIT there, log 45; the order of
evaluation, log 47, decides nothing stated here. -/
def Obligations.DispatchPassHoldsAndCalls : Prop :=
  (∀ s : State, s.Running → s.disp.mark = false → exec .dispatchPass s = .next s) ∧
  (∀ (s : State) (held : Visit → Visit), s.Running → s.disp.mark = true → (s.queue.map (·.number)).Nodup →
      held = (fun v => if v.call = none ∧ v.identHold = .noHold then
        { v with hold :=
            match v.terms with
            | none => .noHold
            | some x =>
              if s.hauliers[x.haulier].state ≠ .opened then .onStop
              else if s.active.basePrice x.programme x.cls = 0 then .noTariff
              else if s.hauliers[x.haulier].limit = 0 ∨
                  s.journal.balances[x.haulier] + s.committed x.haulier + s.active.basePrice x.programme x.cls ≤
                    s.hauliers[x.haulier].limit then .noHold
              else .credit } else v) →
      ((∀ b, s.considers b = true → ∀ v ∈ s.queue, ¬ s.EligibleFor b v) ∨ ¬ s.MayCall →
        ∃ t, exec .dispatchPass s = .next t ∧ t.queue = s.queue.map held ∧
          t = { s with queue := t.queue, disp := { s.disp with mark := false }, links := t.links }) ∧
      (∀ (b : Bay) (v : Visit) (x : VisitTerms), s.considers b = true → s.Chosen b v → v.terms = some x → s.MayCall →
        (∀ c, s.considers c = true → c ≠ b → ∀ y ∈ s.queue,
          bayNumber c < bayNumber b ∨ y.number ≠ v.number → ¬ s.EligibleFor c y) →
        ∃ t, exec .dispatchPass s = .next t ∧
          t.queue = s.queue.map (fun y =>
            if y.number = v.number then { v with call := some b, hold := .noHold } else held y) ∧
          t.journal = { s.journal with reserved := s.journal.reserved + 1, lowArmed := t.journal.lowArmed } ∧
          t.bays.get b = s.CalledBay b x ∧ (∀ c, c ≠ b → t.bays.get c = s.bays.get c) ∧
          t.disp.lines = s.disp.lines ++ [{ bay := b, visit := v.number }] ∧ t.disp.mark = false ∧
          t.disp.lastHaulier = some x.haulier ∧
          t.disp.run = (if s.disp.lastHaulier = some x.haulier then min 255 (s.disp.run + 1) else 1) ∧ s.LowJudged t ∧
          t = { s with queue := t.queue, bays := t.bays, journal := t.journal, disp := t.disp, links := t.links })) ∧
  (∀ (s : State) (v w : Visit) (x y : VisitTerms) (b c : Bay), s.Running → s.disp.mark = true → s.queue = [v, w] →
      v.number ≠ w.number → bayNumber b < bayNumber c → (∀ d, s.considers d = true ↔ d = b ∨ d = c) →
      v.terms = some x → w.terms = some y → s.EligibleFor b v → s.EligibleFor c w → s.MayCall →
      (x.haulier ≠ y.haulier → (¬ s.GivesWay v ∨ ¬ s.EligibleFor b w) →
        ∃ t, exec .dispatchPass s = .next t ∧ t.bays.get b = s.CalledBay b x ∧
          (s.disp.lines.length < 2 → s.journal.reserved + 3 ≤ s.journal.available →
            t.queue = [{ v with call := some b, hold := .noHold }, { w with call := some c, hold := .noHold }] ∧
            t.bays.get c = s.CalledBay c y ∧ t.journal.reserved = s.journal.reserved + 2 ∧
            t.disp.lines = s.disp.lines ++ [{ bay := b, visit := v.number }, { bay := c, visit := w.number }] ∧
            t.disp.lastHaulier = some y.haulier ∧ t.disp.run = 1 ∧
            t.journal.lowArmed = decide (s.journal.reserved + 66 ≤ s.journal.available) ∧
            (s.journal.available < s.journal.reserved + 65 → s.journal.lowArmed = true →
              t.Shows (.journalLow s.journal.available (s.journal.reserved + 1) (s.journal.countState .closed)
                s.journal.heldPages)) ∧
            (s.journal.available = s.journal.reserved + 65 →
              t.Shows (.journalLow s.journal.available (s.journal.reserved + 2) (s.journal.countState .closed)
                s.journal.heldPages)) ∧
            (s.journal.reserved + 66 ≤ s.journal.available ∨
                s.journal.available < s.journal.reserved + 65 ∧ s.journal.lowArmed = false →
              s.KeepsLatch t .journalLow)) ∧
          (2 ≤ s.disp.lines.length ∨ s.journal.available < s.journal.reserved + 3 →
            t.queue = [{ v with call := some b, hold := .noHold }, { w with hold := .noHold }] ∧
            t.bays.get c = s.bays.get c ∧ t.journal.reserved = s.journal.reserved + 1 ∧
            t.disp.lines = s.disp.lines ++ [{ bay := b, visit := v.number }] ∧
            t.disp.lastHaulier = some x.haulier ∧ s.LowJudged t)) ∧
      (x.haulier = y.haulier → s.hauliers[x.haulier].limit ≠ 0 →
        s.hauliers[x.haulier].limit < s.journal.balances[x.haulier] + s.committed x.haulier +
          s.active.basePrice x.programme x.cls + s.active.basePrice y.programme y.cls →
        ∃ t, exec .dispatchPass s = .next t ∧
          t.queue = [{ v with call := some b, hold := .noHold }, { w with hold := .credit }] ∧
          t.bays.get b = s.CalledBay b x ∧ t.bays.get c = s.bays.get c ∧
          t.journal.reserved = s.journal.reserved + 1 ∧
          t.disp.lines = s.disp.lines ++ [{ bay := b, visit := v.number }] ∧ s.LowJudged t ∧
          ∀ p, ∃ z, (t.links.get p).latched .visitHeld = some z ∧ z.event = .visitHeld w.number w.ident .credit))

/-- What any DISPATCH_PASS may do: it adds call lines, each for a bay it found in IDLE, open and empty and leaves
CALLED, one line for each bay it turns to CALLED, never more than three in all; each call reserves one journal slot, and
every other bay stays as it was. Of a visit only call and hold may change, of one with a call nothing; of the journal
beside the reserved count only the JOURNAL-LOW arm; of the Dispatcher beside the lines only the fairness state, and that
only with a call, the mark, which is cleared, and the sign's status line and message; of the links only VISIT-HELD and
JOURNAL-LOW and the attention lines. The rest of the state stays. -/
def Obligations.DispatchPassFrame : Prop :=
  ∀ (s t : State) (added : List CallLine), s.disp.lines.length ≤ 3 → exec .dispatchPass s = .next t →
    added = t.disp.lines.drop s.disp.lines.length →
    t.disp.lines.length ≤ 3 ∧ s.disp.lines <+: t.disp.lines ∧
    t.journal = { s.journal with
      reserved := s.journal.reserved + (t.disp.lines.length - s.disp.lines.length), lowArmed := t.journal.lowArmed } ∧
    t.queue.map (·.number) = s.queue.map (·.number) ∧
    (∀ v ∈ t.queue, ∃ w ∈ s.queue, v = { w with call := v.call, hold := v.hold } ∧
      (w.call.isSome = true → v = w)) ∧
    (∀ b, t.bays.get b = s.bays.get b ∨
      s.considers b = true ∧ (t.bays.get b).state = .called ∧ ∃ l ∈ added, l.bay = b) ∧
    (∀ l ∈ added, s.considers l.bay = true ∧ (t.bays.get l.bay).state = .called) ∧ (added.map (·.bay)).Nodup ∧
    added.length = allBays.countP (fun b => (t.bays.get b).state = .called ∧ (s.bays.get b).state ≠ .called) ∧
    (t.disp.lines = s.disp.lines → t.bays = s.bays ∧ t.journal = s.journal ∧ s.KeepsLatch t .journalLow ∧
      t.disp.lastHaulier = s.disp.lastHaulier ∧ t.disp.run = s.disp.run) ∧
    (t.disp.lines ≠ s.disp.lines →
      t.journal.lowArmed = decide (t.journal.reserved + 64 ≤ t.journal.available)) ∧
    (s.part.phase = .running → t.disp.mark = false) ∧
    (∀ p, t.links.get p =
      { s.links.get p with latch := (t.links.get p).latch, attention := (t.links.get p).attention }) ∧
    (∀ p k, k ≠ .visitHeld → k ≠ .journalLow → (t.links.get p).latched k = (s.links.get p).latched k) ∧
    t = { s with queue := t.queue, bays := t.bays, journal := t.journal, disp := t.disp, links := t.links }

/-- SIGN_MESSAGE_SENT: the message in sending is over. If the sign memory changed meanwhile one further message begins,
of 18 bytes with the memory as it stands; otherwise none is sent. With none in sending nothing changes. That the row
ends the message at any time is the model's choice, log 15. -/
def Obligations.SignMessageSentEndsMessage : Prop :=
  ∀ s : State,
    (s.disp.sending = none → exec .signMessageSent s = .next s) ∧
    (∀ m, s.disp.sending = some m →
      (s.disp.again = false → exec .signMessageSent s = .next { s with disp := { s.disp with sending := none } }) ∧
      (s.disp.again = true →
        exec .signMessageSent s = .next
          { s with disp := { s.disp with again := false,
                                         sending := some { bytes := s.signBytes, began := s.timebase } } } ∧
        s.signBytes.length = 18))

/-! ### Bays -/

/-- PRESENCE_ASSERT: at a called bay the settle timer starts, at an idle one INTRUSION is latched, and in every other
state only the line's level changes. PRESENCE_CLEAR: at a called bay the settle timer stops, at an idle one a pass is
requested, and in EXIT the record is cleared and the bay goes to IDLE or CLOSED by its BAY_OPEN bit. A wash in RUN
without a mark takes mark PRESENCE and ends ABORTED into RUN-ON; in CLAIM and RUN-ON it takes the mark alone; in
WATER-WAIT it withdraws from the list, is charged, and the bay is IDLE or CLOSED; a mark already set stays. That a
repeated assert acts again is the model's choice, log 36. -/
def Obligations.PresenceActsOnBay : Prop :=
  (∀ (b : Bay) (s s' : State), s.Running →
      s' = { s with lines := { s.lines with presence := s.lines.presence.set b true } } →
      ((s.bays.get b).state = .called →
        exec (.presenceAssert b) s = .next { s' with
          bays := s.bays.set b { s.bays.get b with settle := some (s.laneTime + 1000 * s.active.entrySettle) } }) ∧
      ((s.bays.get b).state = .idle → exec (.presenceAssert b) s = .next (s'.latch (.intrusion b s.clock.time))) ∧
      ((s.bays.get b).state ≠ .called → (s.bays.get b).state ≠ .idle → exec (.presenceAssert b) s = .next s')) ∧
  (∀ (b : Bay) (s s' : State) (u : BayUnit), s.Running → u = s.bays.get b →
      s' = { s with lines := { s.lines with presence := s.lines.presence.set b false } } →
      (u.state = .called → exec (.presenceClear b) s = .next { s' with bays := s.bays.set b { u with settle := none } }) ∧
      (u.state = .idle → exec (.presenceClear b) s = .next { s' with disp := { s.disp with mark := true } }) ∧
      (u.state = .closed ∨ u.state = .fault → exec (.presenceClear b) s = .next s') ∧
      (u.state = .exit →
        exec (.presenceClear b) s = .next { s' with
          bays := s.bays.set b { u with record := none, exit := none, state := if s.bayIsOpen b then .idle else .closed }
          disp := if s.bayIsOpen b then { s.disp with mark := true } else s.disp }) ∧
      (∀ r, u.state = .washing → u.record = some r →
        (r.abort ≠ .unmarked → exec (.presenceClear b) s = .next s') ∧
        (r.abort = .unmarked → r.sub = .claim ∨ r.sub = .runOn →
          exec (.presenceClear b) s = .next { s' with
            bays := s.bays.set b { u with record := some { r with abort := .presence } } }) ∧
        (r.abort = .unmarked → r.sub = .run →
          exec (.presenceClear b) s = .next { s' with
            bays := s.bays.set b { u with
              supply := false, blend := 0, pumpPos := 0, pumpDuty := 0, limit := none, runOn := 0, spilled := false
              runOnTimer := some (s.laneTime + 2000)
              record := some { r with
                abort := .presence, sub := .runOn
                entries := r.entries.modify (r.phase - 1) fun e => { e with status := .aborted } } } }) ∧
        (∀ pg, r.abort = .unmarked → r.sub = .waterWait → s.journal.openPage = some pg →
          ∃ t, exec (.presenceClear b) s = .next t ∧
            s'.WaitAborted t pg b { r with abort := .presence, endTime := some s.clock.time } ∧
            t = { s' with water := t.water, bays := t.bays, journal := t.journal, clock := t.clock, disp := t.disp,
                          links := t.links })))

/-- BAY_ABORT: a bay that is not WASHING is refused REFUSED-STATE. A wash in RUN without a mark takes mark HOST and ends
ABORTED into RUN-ON, in CLAIM and RUN-ON it takes the mark alone, in WATER-WAIT it withdraws from the list and is
charged, and one already marked keeps its mark; the reply gives phase and sub-state as they stood. -/
def Obligations.BayAbortMarksWash : Prop :=
  ∀ (p : Port) (n : Byte) (b : Bay) (s : State) (u : BayUnit), s.Ready p → n.toNat = bayNumber b → u = s.bays.get b →
    (u.state ≠ .washing →
      exec (.bayAbort p n) s = .next (s.replying p (.bayAbort n) (refuse .refusedState))) ∧
    (∀ (r : WorkRecord) (a : Reply), u.state = .washing → u.record = some r →
      a = accept (be 1 r.phase ++ be 1 r.sub.ctorIdx) →
      (r.abort ≠ .unmarked → exec (.bayAbort p n) s = .next (s.replying p (.bayAbort n) a)) ∧
      (r.abort = .unmarked → r.sub = .claim ∨ r.sub = .runOn →
        exec (.bayAbort p n) s = .next (State.replying
          { s with bays := s.bays.set b { u with record := some { r with abort := .host } } } p (.bayAbort n) a)) ∧
      (r.abort = .unmarked → r.sub = .run →
        exec (.bayAbort p n) s = .next (State.replying
          { s with
            bays := s.bays.set b { u with
              supply := false, blend := 0, pumpPos := 0, pumpDuty := 0, limit := none, runOn := 0, spilled := false
              runOnTimer := some (s.laneTime + 2000)
              record := some { r with
                abort := .host, sub := .runOn
                entries := r.entries.modify (r.phase - 1) fun e => { e with status := .aborted } } } }
          p (.bayAbort n) a)) ∧
      (∀ pg, r.abort = .unmarked → r.sub = .waterWait → s.journal.openPage = some pg →
        ∃ t, exec (.bayAbort p n) s = .next t ∧ s.Answered t p (.bayAbort n) a ∧
          s.WaitAborted t pg b { r with abort := .host, endTime := some s.clock.time } ∧
          t = { s with water := t.water, bays := t.bays, journal := t.journal, clock := t.clock, disp := t.disp,
                       links := t.links }))

/-- ENTRY_SETTLE_EXPIRY in CALLED: the visit leaves the queue into the work record with its start time, the bay washes
in CLAIM of phase 1 with the share and tank that phase may claim, the rest of its record as the call left it, both
timers stop and the call line goes. That an expiry acts due or not is the model's choice, log 15; so is that the visit's
measurement, if it still runs, stays bound to it and gives it no hand-over, log 12. -/
def Obligations.EntrySettleStartsWash : Prop :=
  ∀ (b : Bay) (s : State) (v : Visit) (r : WorkRecord), s.Running → (s.bays.get b).state = .called →
    (s.bays.get b).settle.isSome = true → s.calledTo b = some v → s.record b = some r →
      ∃ t r', exec (.entrySettleExpiry b) s = .next t ∧
        t.queue = s.queue.filter (fun x => x.number ≠ v.number) ∧
        t.bays.get b = { s.bays.get b with state := .washing, settle := none, call := none, record := some r' } ∧
        r' = { r with
          visit := some v, startTime := some s.clock.time, phase := 1, sub := .claim, claimTank := r'.claimTank
          entries := r'.entries } ∧
        (∀ ph k, r.terms.phases.head? = some ph → ph.source = .reclaimPreferred → s.service = some k →
          s.lines.low.get k = false →
            r'.claimTank = some k ∧
            r'.entries = r.entries.modify 0 fun e => { e with rPhase := ((s.tanks.get k).share).getD 0 }) ∧
        (∀ ph, r.terms.phases.head? = some ph →
          (ph.source = .freshOnly ∨ ∀ k, s.service = some k → s.lines.low.get k = true) →
            r'.claimTank = none ∧ r'.entries = r.entries.modify 0 fun e => { e with rPhase := 0 }) ∧
        (∀ c, c ≠ b → t.bays.get c = s.bays.get c) ∧
        t.disp.lines = s.disp.lines.filter (fun l => l.bay ≠ b) ∧ t.disp.mark = true ∧
        t = { s with queue := t.queue, bays := t.bays, disp := t.disp }

/-- CALL_TIMER_EXPIRY in CALLED: the call ends, the record is cleared, the reservation drops, with JOURNAL-LOW judged
and a pending DAY-CLOSE written where there is room (the pages being sound, as every step keeps them), the call line
goes, and the bay is IDLE or CLOSED by its BAY_OPEN bit, with INTRUSION if it is IDLE under an asserted presence line. A
drop that lifts the margin to 64 or more latches nothing, as the first change after start-up too (the model's choice,
log 44). A first no-show keeps its visit with count 1 and latches CALL-EXPIRED; a second drops the visit, its
measurement LOST if it still runs, and latches VISIT-DROPPED. That an expiry acts due or not is the model's choice, log
15; the fields of VISIT-DROPPED are read as in log 39. -/
def Obligations.CallTimerEndsCall : Prop :=
  ∀ (b : Bay) (s : State) (v : Visit), s.Running → (s.bays.get b).state = .called →
    (s.bays.get b).call.isSome = true → s.calledTo b = some v →
      ∃ t, exec (.callTimerExpiry b) s = .next t ∧
        (v.noShow = 0 → t.lane = s.lane ∧
          t.queue = s.queue.map (fun x => if x.number = v.number then { v with call := none, noShow := 1 } else x) ∧
          ∀ p, ∃ x, (t.links.get p).latched .callExpired = some x ∧ x.event = .callExpired v.number b 1) ∧
        (v.noShow ≠ 0 →
          t.lane = { s.lane with meas := s.lane.meas.map fun m =>
            if m.binding = .bound v.number then { m with binding := .lost, heldNotice := false } else m } ∧
          t.queue = s.queue.filter (fun x => x.number ≠ v.number) ∧
          ∀ p, ∃ x, (t.links.get p).latched .visitDropped = some x ∧
            x.event = .visitDropped v.number b v.haulier v.tags.head? v.plate) ∧
        t.bays.get b = { s.bays.get b with
          settle := none, call := none, record := none, state := if s.bayIsOpen b then .idle else .closed } ∧
        (∀ c, c ≠ b → t.bays.get c = s.bays.get c) ∧ s.SlotReturned t ∧ s.IntrusionJudged t b ∧
        t.disp.lines = s.disp.lines.filter (fun l => l.bay ≠ b) ∧ t.disp.mark = true ∧
        t = { s with lane := t.lane, queue := t.queue, bays := t.bays, journal := t.journal, disp := t.disp,
                     links := t.links }

/-- E_STOP_ASSERT: in CLOSED, IDLE, CALLED and EXIT the bay goes to FAULT holding nothing, its BAY_OPEN bit is cleared
and BAY-FAULT is latched with the state it was in and the visit it held; a called visit loses its call and the
reservation drops, as at CALL_TIMER_EXPIRY (a drop that lifts the margin to 64 or more latches nothing, log 44). A wash
in RUN takes mark E-STOP, replacing another, and ends ABORTED into RUN-ON; in CLAIM and RUN-ON it takes the mark alone;
in WATER-WAIT it withdraws from the list, is charged, and the bay is in FAULT. In FAULT only the level changes.
E_STOP_CLEAR changes the level alone. That BAY-FAULT of a called bay names no visit is read as in log 17. -/
def Obligations.EStopTakesBayToFault : Prop :=
  (∀ (b : Bay) (s : State), exec (.eStopClear b) s =
    .next { s with lines := { s.lines with estop := s.lines.estop.set b false } }) ∧
  ∀ (b : Bay) (s s' : State) (u : BayUnit), s.Running → u = s.bays.get b →
    s' = { s with lines := { s.lines with estop := s.lines.estop.set b true } } →
    (u.state = .fault → exec (.eStopAssert b) s = .next s') ∧
    (u.state ≠ .fault → u.state ≠ .washing →
      ∃ t, exec (.eStopAssert b) s = .next t ∧
        t.bays.get b = { u with
          state := .fault, record := none, settle := none, call := none, limit := none, wait := none,
          runOnTimer := none, exit := none, pumpPos := 0, pumpDuty := 0, supply := false, blend := 0 } ∧
        (∀ c, c ≠ b → t.bays.get c = s.bays.get c) ∧
        t.water = { s.water with bayOpen := s.water.bayOpen &&& ~~~(1#6 <<< (bayNumber b - 1)) } ∧
        t.Shows (.bayFault b u.state (if u.state = .called then none else s.recordVisit b)) ∧
        (u.state ≠ .called → t.queue = s.queue ∧ t.journal = s.journal ∧ t.disp.lines = s.disp.lines) ∧
        (∀ v, u.state = .called → s.calledTo b = some v →
          t.queue = s.queue.map (fun x => if x.number = v.number then { v with call := none } else x) ∧
          s.SlotReturned t ∧
          t.disp.lines = s.disp.lines.filter (fun l => l.bay ≠ b)) ∧
        t = { s' with queue := t.queue, bays := t.bays, water := t.water, journal := t.journal, disp := t.disp,
                      links := t.links }) ∧
    (∀ r, u.state = .washing → u.record = some r → r.sub = .run →
      exec (.eStopAssert b) s = .next { s' with
        bays := s.bays.set b { u with
          supply := false, blend := 0, pumpPos := 0, pumpDuty := 0, limit := none, runOn := 0, spilled := false
          runOnTimer := some (s.laneTime + 2000)
          record := some { r with
            abort := .eStop, sub := .runOn
            entries := r.entries.modify (r.phase - 1) fun e => { e with status := .aborted } } } }) ∧
    (∀ r, u.state = .washing → u.record = some r → r.sub = .claim ∨ r.sub = .runOn →
      exec (.eStopAssert b) s = .next { s' with
        bays := s.bays.set b { u with record := some { r with abort := .eStop } } }) ∧
    (∀ r pg, u.state = .washing → u.record = some r → r.sub = .waterWait → s.journal.openPage = some pg →
      ∃ t, exec (.eStopAssert b) s = .next t ∧
        s'.WaitAborted t pg b { r with abort := .eStop, endTime := some s.clock.time } ∧
        t = { s' with water := t.water, bays := t.bays, journal := t.journal, clock := t.clock, disp := t.disp,
                      links := t.links })

/-- FLOW_PULSE in RUN: the dose counter rises by one and a litre is counted into Lb, or into Lf after a reclaim loss;
the pulse that carries the counter to 0 ends RUN with status DONE. In RUN-ON up to 50 pulses are counted, the first
beyond latches METER-SPILL. Everywhere else the pulse is not counted. -/
def Obligations.FlowPulseCounts : Prop :=
  ∀ (b : Bay) (s : State) (u : BayUnit), s.Running → u = s.bays.get b →
    (s.subState b ≠ .run → s.subState b ≠ .runOn → exec (.flowPulse b) s = .next s) ∧
    (∀ (r r' : WorkRecord), u.state = .washing → u.record = some r →
      r' = { r with entries := r.entries.modify (r.phase - 1) fun e =>
        if e.lost then { e with lf := e.lf + 1 } else { e with lb := e.lb + 1 } } →
      (r.sub = .run → u.dose + 1 ≠ 0 →
        exec (.flowPulse b) s =
          .next { s with bays := s.bays.set b { u with dose := u.dose + 1, record := some r' } }) ∧
      (r.sub = .run → u.dose + 1 = 0 →
        exec (.flowPulse b) s = .next { s with
          bays := s.bays.set b { u with
            dose := 0, supply := false, blend := 0, pumpPos := 0, pumpDuty := 0, limit := none, runOn := 0
            spilled := false, runOnTimer := some (s.laneTime + 2000)
            record := some { r' with
              sub := .runOn
              entries := r'.entries.modify (r.phase - 1) fun e => { e with status := .done } } } }) ∧
      (r.sub = .runOn → u.runOn < 50 →
        exec (.flowPulse b) s =
          .next { s with bays := s.bays.set b { u with runOn := u.runOn + 1, record := some r' } }) ∧
      (r.sub = .runOn → 50 ≤ u.runOn → u.spilled = true → exec (.flowPulse b) s = .next s) ∧
      (r.sub = .runOn → 50 ≤ u.runOn → u.spilled = false →
        exec (.flowPulse b) s = .next (State.latch { s with bays := s.bays.set b { u with spilled := true } }
          (.meterSpill b r.visitNumber r.phase))))

/-- TIME_LIMIT_EXPIRY in RUN ends it with status SHORT: outputs low and closed, RUN-ON begun for 2 s. EXIT_TIMER_EXPIRY
in EXIT latches EXIT-OVERSTAY and the bay stays. WATER_WAIT_EXPIRY with a later phase: the bay withdraws from the list,
the phase is SKIPPED with no litres, PHASE-SKIPPED is latched, and the bay is in CLAIM of the next phase with the tank
and share that phase may claim; at the last phase the wash is charged with WASH-DONE, and the bay waits in EXIT or is
IDLE or CLOSED. That an expiry acts due or not is the model's choice, log 15. -/
def Obligations.BayTimersExpire : Prop :=
  (∀ (b : Bay) (s : State) (u : BayUnit), s.Running → u = s.bays.get b →
      (s.subState b ≠ .run ∨ u.limit = none → exec (.timeLimitExpiry b) s = .next s) ∧
      (∀ r d, u.state = .washing → u.record = some r → r.sub = .run → u.limit = some d →
        exec (.timeLimitExpiry b) s = .next { s with
          bays := s.bays.set b { u with
            supply := false, blend := 0, pumpPos := 0, pumpDuty := 0, limit := none, runOn := 0, spilled := false
            runOnTimer := some (s.laneTime + 2000)
            record := some { r with
              sub := .runOn
              entries := r.entries.modify (r.phase - 1) fun e => { e with status := .short } } } }) ∧
      (u.state ≠ .exit ∨ u.exit = none → exec (.exitTimerExpiry b) s = .next s) ∧
      (∀ d n, u.state = .exit → u.exit = some d → s.recordVisit b = some n →
        exec (.exitTimerExpiry b) s =
          .next (State.latch { s with bays := s.bays.set b { u with exit := none } } (.exitOverstay b n)))) ∧
  (∀ (b : Bay) (s : State) (r : WorkRecord) (d : Nat), s.Running → (s.bays.get b).state = .washing →
      (s.bays.get b).record = some r → r.sub = .waterWait → (s.bays.get b).wait = some d →
      r.phase < r.terms.phases.length →
        ∃ t r', exec (.waterWaitExpiry b) s = .next t ∧
          t.water = { s.water with waits := s.water.waits.filter fun x => x.bay ≠ b } ∧
          t.bays.get b = { s.bays.get b with wait := none, record := some r' } ∧ r'.phase = r.phase + 1 ∧
          r'.sub = .claim ∧ r'.abort = r.abort ∧
          (∀ e, 1 ≤ r.phase → r.entries[r.phase - 1]? = some e →
            r'.entries[r.phase - 1]? = some { e with status := .skipped, lb := 0, lf := 0, fk := 0 }) ∧
          (∀ ph, r.terms.phases[r.phase]? = some ph →
            r' = s.claimRecord { r with
              entries := r.entries.modify (r.phase - 1) fun e => { e with status := .skipped, lb := 0, lf := 0, fk := 0 } }
              ph (r.phase + 1)) ∧
          (∀ p, ∃ x, (t.links.get p).latched .phaseSkipped = some x ∧ x.event = .phaseSkipped b r.visitNumber r.phase) ∧
          (∀ c, c ≠ b → t.bays.get c = s.bays.get c) ∧
          t = { s with water := t.water, bays := t.bays, links := t.links }) ∧
  (∀ (b : Bay) (s : State) (r r' : WorkRecord) (d : Nat) (pg : PageNo), s.Running → (s.bays.get b).state = .washing →
      (s.bays.get b).record = some r → r.sub = .waterWait → (s.bays.get b).wait = some d → r.abort = .unmarked →
      r.terms.phases.length ≤ r.phase → s.journal.openPage = some pg →
      r' = { r with
        endTime := some s.clock.time
        entries := r.entries.modify (r.phase - 1) fun e => { e with status := .skipped, lb := 0, lf := 0, fk := 0 } } →
        ∃ t, exec (.waterWaitExpiry b) s = .next t ∧ s.WaitAborted t pg b r' ∧
          (∀ p, ∃ x, (t.links.get p).latched .phaseSkipped = some x ∧ x.event = .phaseSkipped b r.visitNumber r.phase) ∧
          t = { s with water := t.water, bays := t.bays, journal := t.journal, clock := t.clock, disp := t.disp,
                       links := t.links })

/-- CLAIM_ANSWER of an unmarked claim: GRANTED takes E out of FRESH_REMAIN and the bay runs; DEGRADED makes R_phase 256
with FRESH-DEGRADED and the bay runs; WAIT puts the bay on the list with its timer and latches WATER-WAIT. Entry into
RUN presets the dose counter, opens the valves, starts the drive at the effective duty and the time-limit timer. With a
water-wait limit of 0 a WAIT latches WATER-WAIT and PHASE-SKIPPED, and the bay is in CLAIM of the next phase, with the
tank and share that phase may claim, or, after the last, charged. Under an abort mark, whatever the answer, FRESH_REMAIN
is as before, the phase keeps NOT-REACHED with R_phase 0, and the wash is charged with WASH-ABORTED, its bay in EXIT,
free, or in FAULT with BAY-FAULT under E-STOP. (No waiting estimate then fits FRESH_REMAIN.) That WAIT under a mark
latches no WATER-WAIT is read as in log 16. -/
def Obligations.ClaimAnswerDecides : Prop :=
  (∀ (b : Bay) (s : State) (u : BayUnit) (r : WorkRecord) (ph : PhaseTerms) (e : PhaseEntry) (est : Nat)
      (run : Nat → WorkRecord → BayUnit), s.Running → u = s.bays.get b → u.state = .washing → u.record = some r →
      r.sub = .claim → r.abort = .unmarked → r.terms.phases[r.phase - 1]? = some ph → r.entries[r.phase - 1]? = some e →
      est = (ph.dose * (256 - e.rPhase) + 255) / 256 →
      run = (fun share x => { u with
        dose := BitVec.ofNat 16 (65536 - ph.dose), blend := share, supply := true, pumpPos := 0
        pumpDuty := if s.lines.supplyLow then ph.duty / 2 else ph.duty
        limit := some (s.laneTime + 1000 * ph.limit), wait := none, record := some { x with sub := .run } }) →
      (est ≤ s.water.fresh →
        exec (.claimAnswer b) s = .next { s with
          water := { s.water with fresh := s.water.fresh - est }
          bays := s.bays.set b (run e.rPhase { r with claim := est }) }) ∧
      (s.water.fresh < est → 0 < e.rPhase → ph.source = .reclaimPreferred →
        exec (.claimAnswer b) s = .next { s with
          bays := s.bays.set b (run 256 { r with
            claim := 0
            entries := r.entries.modify (r.phase - 1) fun x => { x with rPhase := 256, degraded := true } }) }) ∧
      (s.water.fresh < est → (e.rPhase = 0 ∨ ph.source = .freshOnly) → s.active.waterWaitLimit ≠ 0 →
        exec (.claimAnswer b) s = .next { s.latch (.waterWait b r.visitNumber r.phase est) with
          water := { s.water with waits := s.water.waits ++ [{ bay := b, estimate := est }] }
          bays := s.bays.set b { u with
            wait := some (s.laneTime + 1000 * s.active.waterWaitLimit), record := some { r with sub := .waterWait } } }) ∧
      (s.water.fresh < est → (e.rPhase = 0 ∨ ph.source = .freshOnly) → s.active.waterWaitLimit = 0 → 1 ≤ r.phase →
        ∃ t, exec (.claimAnswer b) s = .next t ∧ t.Shows (.waterWait b r.visitNumber r.phase est) ∧
          t.Shows (.phaseSkipped b r.visitNumber r.phase) ∧
          (r.phase < r.terms.phases.length →
            ∃ x, t.bays = s.bays.set b { u with wait := none, record := some x } ∧ x.phase = r.phase + 1 ∧
              x.sub = .claim ∧ x.abort = .unmarked ∧
              x.entries[r.phase - 1]? = some { e with status := .skipped, lb := 0, lf := 0, fk := 0 } ∧
              (∀ nx, r.terms.phases[r.phase]? = some nx →
                x = s.claimRecord { r with
                  entries := r.entries.modify (r.phase - 1) fun y =>
                    { y with status := .skipped, lb := 0, lf := 0, fk := 0 } } nx (r.phase + 1)) ∧
              t.water = { s.water with waits := s.water.waits.filter fun x => x.bay ≠ b } ∧
              t = { s with water := t.water, bays := t.bays, links := t.links }) ∧
          (∀ pg, r.terms.phases.length ≤ r.phase → s.journal.openPage = some pg →
            s.WaitAborted t pg b { r with
              endTime := some s.clock.time
              entries := r.entries.modify (r.phase - 1) fun x =>
                { x with status := .skipped, lb := 0, lf := 0, fk := 0 } } ∧
            t = { s with water := t.water, bays := t.bays, journal := t.journal, clock := t.clock, disp := t.disp,
                         links := t.links }))) ∧
  (∀ (b : Bay) (s : State) (r r' : WorkRecord) (ph : PhaseTerms) (e : PhaseEntry), s.Running →
      (s.bays.get b).state = .washing → (s.bays.get b).record = some r → r.sub = .claim → r.abort ≠ .unmarked →
      r.terms.phases[r.phase - 1]? = some ph → r.entries[r.phase - 1]? = some e →
      (∀ x ∈ s.water.waits, s.water.fresh < x.estimate) → s.water.fresh ≤ 262143 →
      r' = { r with
        endTime := some s.clock.time
        entries := r.entries.modify (r.phase - 1) fun x => { x with rPhase := 0, degraded := false } } →
        ∃ t, exec (.claimAnswer b) s = .next t ∧
          (∀ pg, s.journal.openPage = some pg → s.Charged t pg b r' s.clock.acc) ∧ s.LeftBay t b r.abort ∧
          t.water = { s.water with bayOpen := t.water.bayOpen } ∧ s.KeepsLatch t .waterWait ∧
          s.KeepsLatch t .overdraw ∧
          t = { s with water := t.water, bays := t.bays, journal := t.journal, clock := t.clock, disp := t.disp,
                       links := t.links })

/-- RUN_ON_EXPIRY of an unmarked phase with a later one: F_k is written into the entry, the settlement corrects
FRESH_REMAIN and OVERDRAW, the outstanding claim is 0, and the bay is in CLAIM of the next phase with the tank and share
that phase may claim, the rest of its record kept. A settlement that overdraws latches OVERDRAW and raises the day's
overdraw accumulator by the shortfall. Litres given back run a first-fit pass: the one waiting bay takes its grant and
runs, its timer stopped, if its estimate fits, and waits on otherwise. That an expiry acts due or not is the model's
choice, log 15. -/
def Obligations.RunOnExpirySettlesPhase : Prop :=
  ∀ (b : Bay) (s : State) (r r' : WorkRecord) (nx : PhaseTerms) (e : PhaseEntry) (d f : Nat), s.Running →
    (s.bays.get b).state = .washing → (s.bays.get b).record = some r → r.sub = .runOn →
    (s.bays.get b).runOnTimer = some d → r.entries[r.phase - 1]? = some e → r.abort = .unmarked →
    1 ≤ r.phase → r.terms.phases[r.phase]? = some nx →
    f = (e.lb * (256 - e.rPhase) + 255) / 256 + e.lf →
    r' = s.claimRecord { r with claim := 0, entries := r.entries.modify (r.phase - 1) fun x => { x with fk := f } } nx
      (r.phase + 1) →
    (∀ (c : Bay) (n g : Nat) (q : WorkRecord) (ph : PhaseTerms) (h : PhaseEntry), c ≠ b →
      s.water.waits = [{ bay := c, estimate := n }] → (s.bays.get c).state = .washing →
      (s.bays.get c).record = some q → q.terms.phases[q.phase - 1]? = some ph → q.entries[q.phase - 1]? = some h →
      g = min 262143 (s.water.fresh + (r.claim - f)) →
      ∃ t, exec (.runOnExpiry b) s = .next t ∧ t.subState b = .claim ∧
        t.bays.get b = { s.bays.get b with runOnTimer := none, runOn := 0, spilled := false, record := some r' } ∧
        (f < r.claim → n ≤ g →
          t.water = { s.water with fresh := g - n, waits := [] } ∧
          t.bays.get c = { s.bays.get c with
            dose := BitVec.ofNat 16 (65536 - ph.dose), blend := h.rPhase, supply := true, pumpPos := 0
            pumpDuty := if s.lines.supplyLow then ph.duty / 2 else ph.duty
            limit := some (s.laneTime + 1000 * ph.limit), wait := none
            record := some { q with claim := n, sub := .run } }) ∧
        (f < r.claim → g < n → t.water = { s.water with fresh := g } ∧ t.bays.get c = s.bays.get c) ∧
        (r.claim ≤ f →
          t.water = { s.water with
            fresh := s.water.fresh - (f - r.claim)
            overdraw := if r.claim + s.water.fresh < f
              then min 262143 (s.water.overdraw + (f - r.claim - s.water.fresh)) else s.water.overdraw } ∧
          t.bays.get c = s.bays.get c) ∧
        t.clock = { s.clock with acc := s.accSettled r.claim f } ∧ s.OverdrawLatched t b r f ∧
        (∀ x, x ≠ b → x ≠ c → t.bays.get x = s.bays.get x) ∧
        t = { s with water := t.water, bays := t.bays, clock := t.clock, links := t.links }) ∧
    (s.water.waits = [] →
      ∃ t, exec (.runOnExpiry b) s = .next t ∧
        t.water.fresh = (if f < r.claim then min 262143 (s.water.fresh + (r.claim - f))
          else s.water.fresh - (f - r.claim)) ∧
        t.water.overdraw = (if r.claim + s.water.fresh < f
          then min 262143 (s.water.overdraw + (f - r.claim - s.water.fresh)) else s.water.overdraw) ∧
        t.bays.get b = { s.bays.get b with runOnTimer := none, runOn := 0, spilled := false, record := some r' } ∧
        r'.phase = r.phase + 1 ∧ r'.sub = .claim ∧ r'.claim = 0 ∧
        r'.entries[r.phase - 1]? = some { e with fk := f } ∧
        t.clock = { s.clock with acc := s.accSettled r.claim f } ∧ s.OverdrawLatched t b r f ∧
        (∀ c, c ≠ b → t.bays.get c = s.bays.get c) ∧
        t = { s with water := { s.water with fresh := t.water.fresh, overdraw := t.water.overdraw }
                     bays := t.bays, clock := t.clock, links := t.links })

/-- RUN_ON_EXPIRY at the end of a wash settles its phase and charges it: the CHARGE record of the priced work record is
appended with the next sequence number, the reservation is consumed, the haulier's balance rises by the amount,
WASH-DONE or WASH-ABORTED is latched, and the bay waits in EXIT or, the truck gone, is IDLE or CLOSED; under mark E-STOP
it is in FAULT. The day accumulators take the charge notice and, where the settlement overdraws, the overdraw notice,
and OVERDRAW is latched. (No other bay waits for water.) That an expiry acts due or not is the model's choice, log 15.
-/
def Obligations.RunOnExpiryChargesWash : Prop :=
  ∀ (b : Bay) (s : State) (r r' : WorkRecord) (e : PhaseEntry) (d f : Nat) (pg : PageNo), s.Running →
    (s.bays.get b).state = .washing → (s.bays.get b).record = some r → r.sub = .runOn →
    (s.bays.get b).runOnTimer = some d → r.entries[r.phase - 1]? = some e → s.water.waits = [] →
    (r.abort ≠ .unmarked ∨ r.terms.phases.length ≤ r.phase) →
    f = (e.lb * (256 - e.rPhase) + 255) / 256 + e.lf → s.journal.openPage = some pg →
    r' = { r with
      claim := 0, endTime := some s.clock.time
      entries := r.entries.modify (r.phase - 1) fun x => { x with fk := f } } →
      ∃ t, exec (.runOnExpiry b) s = .next t ∧ s.Charged t pg b r' (s.accSettled r.claim f) ∧ s.LeftBay t b r.abort ∧
        s.OverdrawLatched t b r f ∧ (t.bays.get b).runOnTimer = none ∧
        t.water = { s.water with
          fresh := if f < r.claim then min 262143 (s.water.fresh + (r.claim - f)) else s.water.fresh - (f - r.claim)
          overdraw := if r.claim + s.water.fresh < f
            then min 262143 (s.water.overdraw + (f - r.claim - s.water.fresh)) else s.water.overdraw
          bayOpen := t.water.bayOpen } ∧
        t = { s with water := t.water, bays := t.bays, journal := t.journal, clock := t.clock, disp := t.disp,
                     links := t.links }

/-- SUPPLY_LOW_ASSERT latches LOAD-SHED with the number of bays in RUN; SUPPLY_LOW_CLEAR changes the level alone.
PUMP_CYCLE_END in RUN starts the next cycle at the effective duty, the phase duty halved while SUPPLY-LOW is asserted;
elsewhere it changes nothing. The pump output is high for exactly the duty's number of the 256 counts of a cycle, each
sub-cycle of 64 high for a quarter of it, rounded by one. That a cycle's end acts due or not, and a repeated assert
again, are the model's choices, log 15 and log 36. -/
def Obligations.PumpDrive : Prop :=
  (∀ s : State, exec .supplyLowClear s = .next { s with lines := { s.lines with supplyLow := false } }) ∧
  (∀ s : State, s.Running →
      exec .supplyLowAssert s = .next (State.latch { s with lines := { s.lines with supplyLow := true } }
        (.loadShed (allBays.countP fun b => s.subState b = .run))) ∧
      ∀ b : Bay, (s.subState b ≠ .run → exec (.pumpCycleEnd b) s = .next s) ∧
        ∀ r ph, (s.bays.get b).state = .washing → (s.bays.get b).record = some r → r.sub = .run →
          r.terms.phases[r.phase - 1]? = some ph →
            exec (.pumpCycleEnd b) s = .next { s with
              bays := s.bays.set b { s.bays.get b with
                pumpPos := 0, pumpDuty := if s.lines.supplyLow then ph.duty / 2 else ph.duty } }) ∧
  (∀ (u : BayUnit) (d : Nat), d ≤ 255 →
      (List.range 256).countP (fun k => ({ u with supply := true, pumpDuty := d, pumpPos := 10 * k } : BayUnit).pumpHigh)
        = d ∧
      ∀ i, i < 4 → (List.range 64).countP (fun k =>
        ({ u with supply := true, pumpDuty := d, pumpPos := 10 * (64 * i + k) } : BayUnit).pumpHigh) =
          d / 4 + (if i < d % 4 then 1 else 0))

/-- BAY_STATUS answers the state, sub-state, lines, BAY_OPEN bit, record and counters of the bay and changes nothing.
BAY_RELEASE takes a bay in FAULT whose e-stop is clear to CLOSED, and on to IDLE if its bit is set, with INTRUSION if
its presence line is asserted; any other bay is refused REFUSED-STATE. A number that is no bay is refused BAD-ARGUMENT.
The layout of BAY STATUS and its rounding are the model's choices, log 20 and log 23. -/
def Obligations.BayStatusAndRelease : Prop :=
  ∀ (p : Port) (n : Byte) (s : State), s.Ready p →
    (n.toNat = 0 ∨ 6 < n.toNat →
      exec (.bayStatus p n) s = .next (s.replying p (.bayStatus n) (refuse .badArgument)) ∧
      exec (.bayRelease p n) s = .next (s.replying p (.bayRelease n) (refuse .badArgument)) ∧
      exec (.bayAbort p n) s = .next (s.replying p (.bayAbort n) (refuse .badArgument))) ∧
    ∀ b, n.toNat = bayNumber b →
      exec (.bayStatus p n) s = .next (s.replying p (.bayStatus n)
        (accept (be 1 (s.bays.get b).state.ctorIdx ++ be 1 (s.subState b).ctorIdx ++
          yesNo (s.lines.presence.get b) ++ yesNo (s.lines.estop.get b) ++ yesNo (s.bayIsOpen b) ++
          s.recordBytes b ++ s.runningBytes b))) ∧
      ((s.bays.get b).state ≠ .fault ∨ s.lines.estop.get b = true →
        exec (.bayRelease p n) s = .next (s.replying p (.bayRelease n) (refuse .refusedState))) ∧
      ((s.bays.get b).state = .fault → s.lines.estop.get b = false →
        ∃ t, exec (.bayRelease p n) s = .next t ∧ s.Answered t p (.bayRelease n) (accept []) ∧
          t.bays = s.bays.set b { s.bays.get b with state := if s.bayIsOpen b then .idle else .closed } ∧
          s.IntrusionJudged t b ∧
          t.disp = (if s.bayIsOpen b then { s.disp with mark := true } else s.disp) ∧
          t = { s with bays := t.bays, disp := t.disp, links := t.links })

/-! ### Freshwater and the Resource Table -/

/-- SWAP: a code or a new value out of range, or a change of owner the port may not make, is BAD-ARGUMENT; another value
than the expected one is answered MISMATCH with the value that stands; otherwise the resource takes the new value and
the reply gives the old. A rise of FRESH_REMAIN grants the oldest waiting claim that fits, passing over one that does
not; a change of BAY_OPEN moves the CLOSED and IDLE bays whose bit changed, and INTRUSION shows the last that is IDLE
under an asserted presence line (the bays taken in ascending number, log 26); a change of owner closes the load of a
port that is no longer it and cancels a release tagging. ALLOWANCE_SET loads at once while no bay washes, otherwise only
the preload. RELEASE-RESET on a SWAP is read as in log 29, and the codes of the indications as in log 40. -/
def Obligations.WaterRequests : Prop :=
  (∀ (p : Port) (n : Byte) (e w : BitVec 24) (s : State), s.Ready p →
      (n.toNat = 0 ∨ 4 < n.toNat →
        exec (.swap p n e w) s = .next (s.replying p (.swap n e w) (refuse .badArgument))) ∧
      (∀ k, resourceOf n.toNat = some k →
        (resourceBound k < w.toNat ∨ k = .settleOwner ∧ w.toNat ≠ 0 ∧ w.toNat ≠ portNumber p ∨
            k = .settleOwner ∧ w.toNat = portNumber p ∧ e.toNat = portNumber (otherPort p) →
          exec (.swap p n e w) s = .next (s.replying p (.swap n e w) (refuse .badArgument))) ∧
        (w.toNat ≤ resourceBound k →
            (k ≠ .settleOwner ∨ w.toNat = 0 ∨ w.toNat = portNumber p ∧ e.toNat ≠ portNumber (otherPort p)) →
          (s.water.value k ≠ e.toNat →
            exec (.swap p n e w) s = .next (s.replying p (.swap n e w) (answer .mismatch (be 3 (s.water.value k))))) ∧
          (s.water.value k = e.toNat →
            (w = e → exec (.swap p n e w) s = .next (s.replying p (.swap n e w) (accept (be 3 e.toNat)))) ∧
            (k = .overdraw → exec (.swap p n e w) s = .next
              (State.replying { s with water := { s.water with overdraw := w.toNat } } p (.swap n e w)
                (accept (be 3 e.toNat)))) ∧
            (k = .freshRemain → (w.toNat ≤ e.toNat ∨ s.water.waits = []) →
              exec (.swap p n e w) s = .next
                (State.replying { s with water := { s.water with fresh := w.toNat } } p (.swap n e w)
                  (accept (be 3 e.toNat)))) ∧
            (∀ x y r ph f, k = .freshRemain → e.toNat < w.toNat → s.water.waits = [x, y] → x.bay ≠ y.bay →
                w.toNat < x.estimate → y.estimate ≤ w.toNat → (s.bays.get y.bay).state = .washing →
                (s.bays.get y.bay).record = some r → r.terms.phases[r.phase - 1]? = some ph →
                r.entries[r.phase - 1]? = some f →
              exec (.swap p n e w) s = .next
                (State.replying
                  { s with
                    water := { s.water with fresh := w.toNat - y.estimate, waits := [x] }
                    bays := s.bays.set y.bay { s.bays.get y.bay with
                      dose := BitVec.ofNat 16 (65536 - ph.dose), blend := f.rPhase, supply := true, pumpPos := 0
                      pumpDuty := if s.lines.supplyLow then ph.duty / 2 else ph.duty
                      limit := some (s.laneTime + 1000 * ph.limit), wait := none
                      record := some { r with claim := y.estimate, sub := .run } } }
                  p (.swap n e w) (accept (be 3 e.toNat)))) ∧
            (k = .bayOpen → w ≠ e →
              ∃ t, exec (.swap p n e w) s = .next t ∧ s.Answered t p (.swap n e w) (accept (be 3 e.toNat)) ∧
                t.water = { s.water with bayOpen := BitVec.ofNat 6 w.toNat } ∧ t.disp.mark = true ∧
                (∀ b, t.bays.get b = { s.bays.get b with
                  state :=
                    if (s.bays.get b).state = .closed ∧ s.bayIsOpen b = false ∧ t.bayIsOpen b = true then .idle
                    else if (s.bays.get b).state = .idle ∧ s.bayIsOpen b = true ∧ t.bayIsOpen b = false then .closed
                    else (s.bays.get b).state }) ∧
                (∀ found : Bay → Prop,
                  found = (fun b => (s.bays.get b).state = .closed ∧ (t.bays.get b).state = .idle ∧
                    s.lines.presence.get b = true) →
                  (∀ b, found b → (∀ c, bayNumber b < bayNumber c → ¬ found c) → t.Shows (.intrusion b s.clock.time)) ∧
                  ((∀ b, ¬ found b) → s.KeepsLatch t .intrusion)) ∧
                t.disp.status = t.signStatus ∧
                t = { s with water := t.water, bays := t.bays, disp := t.disp, links := t.links }) ∧
            (k = .settleOwner → w ≠ e →
              exec (.swap p n e w) s = .next
                (State.replying
                  { s with
                    water := { s.water with owner := ownerOf w.toNat }
                    journal := { s.journal with tagging := .untagged }
                    staging := if s.staging.map (fun g => g.port) = ownerOf w.toNat then s.staging else none }
                  p (.swap n e w)
                  { accept (be 3 e.toNat) with releaseReset := decide (s.journal.tagging ≠ .untagged) })))))) ∧
  (∀ (p : Port) (n : BitVec 24) (s : State), s.Ready p →
      (262143 < n.toNat →
        exec (.allowanceSet p n) s = .next (s.replying p (.allowanceSet n) (refuse .badArgument))) ∧
      (n.toNat ≤ 262143 →
        ((∀ b, s.subState b = .outside) →
          exec (.allowanceSet p n) s = .next
            (State.replying { s with water := { s.water with fresh := n.toNat, preload := n.toNat } } p (.allowanceSet n)
              (accept (be 1 0 ++ be 3 n.toNat)))) ∧
        ((∃ b, s.subState b ≠ .outside) →
          exec (.allowanceSet p n) s = .next
            (State.replying { s with water := { s.water with preload := n.toNat } } p (.allowanceSet n)
              (accept (be 1 1 ++ be 3 s.water.fresh))))))

/-! ### Tanks and the Probe Converter -/

/-- LOW_SWITCH_ASSERT: FILLING and HELD stay; SETTLING, SAMPLING, READY and DUMPING go to FILLING, or on to SETTLING
with HIGH asserted, a sampling being abandoned; SERVICE gives the reclaim-loss notice to the bays, leaves service with
TANK-CHANGE and hands over to a READY tank whose LOW switch is clear, a resampling being abandoned. HIGH_SWITCH_ASSERT
takes FILLING to SETTLING with its timer started, and no other state. A clearing changes the level alone. Where several
bays lose reclaim, RECLAIM-LOST shows the one with the highest number, the bays being taken in ascending number, the
model's choice, log 26. That a repeated assert acts again is the model's choice too, log 36. -/
def Obligations.TankSwitchesAct : Prop :=
  (∀ (k : Tank) (s s' : State) (u : TankUnit), s.Running → u = s.tanks.get k →
      s' = { s with lines := { s.lines with low := s.lines.low.set k true } } →
      (u.state = .filling ∨ u.state = .held → exec (.lowSwitchAssert k) s = .next s') ∧
      (u.state = .settling ∨ u.state = .sampling ∨ u.state = .ready ∨ u.state = .dumping →
        exec (.lowSwitchAssert k) s = .next { s' with
          conv := if u.sampled then s.conv.withdraw k else s.conv
          tanks := s.tanks.set k { u with
            state := if s.lines.high.get k then .settling else .filling
            settleTimer := if s.lines.high.get k then some (s.laneTime + 60000 * s.active.settlingTime) else none
            settleLeft := none, resampleTimer := none, salt := .notAwaited, turb := .notAwaited
            fault := if u.sampled then none else u.fault
            inlet := !s.lines.high.get k, dump := false, outlet := false } }) ∧
      (∀ o, u.state = .service → s.service = some k → o = s.tanks.get (otherTank k) →
        ∃ t, exec (.lowSwitchAssert k) s = .next t ∧
          (t.tanks.get k).state = (if s.lines.high.get k then .settling else .filling) ∧
          (t.tanks.get k).outlet = false ∧ (t.tanks.get k).resampleTimer = none ∧
          (t.tanks.get k).salt = .notAwaited ∧ (t.tanks.get k).turb = .notAwaited ∧
          (o.state ≠ .ready ∨ o.sampled = false → t.conv = if u.sampled then s.conv.withdraw k else s.conv) ∧
          s.HandedOver t k .lowSwitch ∧ s.ReclaimLost t k ∧
          t = { s' with tanks := t.tanks, service := t.service, conv := t.conv, bays := t.bays, links := t.links })) ∧
  (∀ (k : Tank) (s s' : State) (u : TankUnit), s.Running → u = s.tanks.get k →
      s' = { s with lines := { s.lines with high := s.lines.high.set k true } } →
      (u.state ≠ .filling → exec (.highSwitchAssert k) s = .next s') ∧
      (u.state = .filling →
        exec (.highSwitchAssert k) s = .next { s' with
          conv := if u.sampled then s.conv.withdraw k else s.conv
          tanks := s.tanks.set k { u with
            state := .settling, settleTimer := some (s.laneTime + 60000 * s.active.settlingTime), settleLeft := none
            resampleTimer := none, salt := .notAwaited, turb := .notAwaited
            fault := if u.sampled then none else u.fault, inlet := false, dump := false, outlet := false } })) ∧
  (∀ (k : Tank) (s : State),
      exec (.lowSwitchClear k) s =
        .next { s with lines := { s.lines with low := s.lines.low.set k false } } ∧
      exec (.highSwitchClear k) s =
        .next { s with lines := { s.lines with high := s.lines.high.set k false } })

/-- TANK_SETTLE_EXPIRY: a settling tank enters SAMPLING, its valves closed, both probes awaited and requested, SALT
before TURB, behind the entries that wait, each merged into an entry that names its probe; with its LOW switch asserted
it fills again, or with HIGH asserted too settles again with its timer started. RESAMPLE_EXPIRY: the serving tank stays
in SERVICE and has both probes awaited and requested. An idle converter begins at once. A timer that does not run
expires without effect. That an expiry acts due or not is the model's choice, log 15. -/
def Obligations.TankTimersStartSampling : Prop :=
  ∀ (k : Tank) (s : State) (u : TankUnit), s.Running → u = s.tanks.get k →
    (u.state ≠ .settling ∨ u.settleTimer = none → exec (.tankSettleExpiry k) s = .next s) ∧
    (∀ d, u.state = .settling → u.settleTimer = some d → u.sampled = false →
      (s.lines.low.get k = true →
        exec (.tankSettleExpiry k) s = .next { s with tanks := s.tanks.set k { u with
          state := if s.lines.high.get k then .settling else .filling
          settleTimer := if s.lines.high.get k then some (s.laneTime + 60000 * s.active.settlingTime) else none
          settleLeft := none, resampleTimer := none, inlet := !s.lines.high.get k, dump := false, outlet := false } }) ∧
      (s.lines.low.get k = false →
        exec (.tankSettleExpiry k) s = .next { s with
          conv := s.convSampling k
          tanks := s.tanks.set k { u with
            state := .sampling, settleTimer := none, settleLeft := none, resampleTimer := none, salt := .awaited
            turb := .awaited, fault := none, inlet := false, dump := false, outlet := false } })) ∧
    (u.state ≠ .service ∨ u.resampleTimer = none → exec (.resampleExpiry k) s = .next s) ∧
    (∀ d, u.state = .service → u.resampleTimer = some d →
      exec (.resampleExpiry k) s = .next { s with
        conv := s.convSampling k
        tanks := s.tanks.set k { u with resampleTimer := none, fault := none, salt := .awaited, turb := .awaited } })

/-- REFERENCE_COUNT_DONE takes REFERENCE to PROBE once the up-counter has come to 0, SPAN ends a conversion still in
REFERENCE at time count 65,535, without P or Q, and CONVERSION_END one in PROBE whose time counter has come down to 0: P
is the up-counter; with the flag SATURATED the outcome is that, otherwise under 8 it is OPEN, else good; Q = P × 1024 ÷
N_ref, at most 65,535. The entry leaves the queue, and the conversion of the next begins at once; with none the
converter is idle. A port that asked is told by SPOT-RESULT, and an awaiting tank receives the reading, its own or one
it shares. A tank's first OPEN or SPAN is retried behind the entries that wait, the second sends it to HELD with
PROBE-FAULT, its waiting requests withdrawn, and if it served out of service with the reclaim-loss notice, the handover
and TANK-CHANGE; where several bays lose reclaim, RECLAIM-LOST shows the one with the highest number, the bays being
taken in ascending number, the model's choice, log 26. At any other count, and with another P, each changes nothing. How
the periods of cell and probe come to the counters is the model's, log 9; the order of end and next beginning is read as
in log 42. -/
def Obligations.ConversionsEnd : Prop :=
  (∀ s : State, s.Running →
      (s.conv.phase = .reference → s.conv.up = 0 →
        exec .referenceCountDone s = .next { s with conv := { s.conv with phase := .probe } }) ∧
      (s.conv.phase ≠ .reference ∨ s.conv.up ≠ 0 → exec .referenceCountDone s = .next s) ∧
      (s.conv.phase ≠ .reference ∨ s.conv.up = 0 ∨ s.conv.time ≠ 65535 → exec .span s = .next s) ∧
      (∀ n, s.conv.phase ≠ .probe ∨ s.conv.time ≠ 0 ∨ n ≠ s.conv.up.toNat → exec (.conversionEnd n) s = .next s)) ∧
  (∀ (s s' : State) (n : Nat) (e : ConvRequest) (l : List ConvRequest) (o : OutcomeKind) (q : Option Nat) (u : TankUnit),
      s.Running → s.conv.phase = .probe → s.conv.time = 0 → s.conv.requests = e :: l →
      u = s.tanks.get (probeTank e.probe) → n = s.conv.up.toNat →
      o = (if s.conv.saturated then .saturated else if n < 8 then .openProbe else .good) →
      q = (if o = .openProbe then none else some (min 65535 (n * 1024 / s.conv.nRef))) →
      s' = (if e.spot1 = true ∨ e.spot2 = true then
          State.latch { s with conv := s.convAfter l }
            (.spotResult e.probe o (some n) q (decide (o = .saturated)) s.conv.nRef e.spot1 e.spot2 s.clock.time)
        else { s with conv := s.convAfter l }) →
      (e.tank = false ∨ u.slot e.probe ≠ .awaited → exec (.conversionEnd n) s = .next s') ∧
      (∀ x, e.tank = true → q = some x →
        (e.probe = saltProbe (probeTank e.probe) → u.salt = .awaited → (∀ y, u.turb ≠ .received y) →
          exec (.conversionEnd n) s = .next { s' with
            tanks := s.tanks.set (probeTank e.probe) { u with
              salt := .received { q := x, saturated := s.conv.saturated } } }) ∧
        (e.probe = turbProbe (probeTank e.probe) → u.turb = .awaited → (∀ y, u.salt ≠ .received y) →
          exec (.conversionEnd n) s = .next { s' with
            tanks := s.tanks.set (probeTank e.probe) { u with
              turb := .received { q := x, saturated := s.conv.saturated } } }))) ∧
  (∀ (s s' : State) (c : Instr) (o : OutcomeKind) (n : Option Nat) (e : ConvRequest) (l : List ConvRequest) (k : Tank)
      (u u' : TankUnit), s.Running →
      (c = .conversionEnd s.conv.up.toNat ∧ s.conv.phase = .probe ∧ s.conv.time = 0 ∧ s.conv.up.toNat < 8 ∧
          s.conv.saturated = false ∧ o = .openProbe ∧ n = some s.conv.up.toNat ∨
        c = .span ∧ s.conv.phase = .reference ∧ s.conv.up ≠ 0 ∧ s.conv.time = 65535 ∧ o = .span ∧ n = none) →
      s.conv.requests = e :: l → k = probeTank e.probe → u = s.tanks.get k →
      u' = { u with
        state := .held, settleTimer := none, settleLeft := none, resampleTimer := none, salt := .notAwaited
        turb := .notAwaited, fault := none, inlet := false, dump := false, outlet := false } →
      s' = (if e.spot1 = true ∨ e.spot2 = true then
          State.latch { s with conv := s.convAfter l }
            (.spotResult e.probe o n none false s.conv.nRef e.spot1 e.spot2 s.clock.time)
        else { s with conv := s.convAfter l }) →
      (e.tank = false ∨ u.slot e.probe ≠ .awaited → exec c s = .next s') ∧
      (e.tank = true → u.slot e.probe = .awaited → u.fault = none →
        exec c s = .next { s' with
          tanks := s.tanks.set k { u with fault := some { probe := e.probe, outcome := o } }
          conv := s.convAfter (tankRequested l e.probe) }) ∧
      (∀ f, e.tank = true → u.slot e.probe = .awaited → u.fault = some f →
        (s.service ≠ some k →
          exec c s = .next (State.latch
            { s' with tanks := s.tanks.set k u', conv := s.convAfter (tankWithdrawn l k) }
            (.probeFault k u.state f { probe := e.probe, outcome := o }))) ∧
        (s.service = some k →
          ∃ t, exec c s = .next t ∧ t.tanks.get k = u' ∧ t.service ≠ some k ∧
            t.Shows (.probeFault k u.state f { probe := e.probe, outcome := o }) ∧
            s.HandedOver t k .probeFault ∧ s.ReclaimLost t k ∧
            ((s.tanks.get (otherTank k)).state = .ready → (s.tanks.get (otherTank k)).sampled = false →
              t.conv = s.convAfter (tankWithdrawn l k)) ∧
            ((s.tanks.get (otherTank k)).state ≠ .ready → t.service = none ∧ t.conv = s.convAfter (tankWithdrawn l k) ∧
              t.tanks = s.tanks.set k u') ∧
            t = { s with tanks := t.tanks, service := t.service, conv := t.conv, bays := t.bays, links := t.links })))

/-- CONVERSION_END that brings the second result of a pair: the tank keeps both Q values and is judged, the entry leaves
the queue, a port that shares it is told by SPOT-RESULT, and the next entry's conversion begins at once. It passes
exactly when Q_turb is at most Tlimit and Q_salt below Qdump; then its R is computed, and it takes SERVICE if no tank
serves (with TANK-CHANGE), waits in READY if the other serves, and if it serves itself its resample timer starts again.
Failing, it loses its R and dumps, and if it served leaves service with the reclaim-loss notice, the handover and
TANK-CHANGE; where several bays lose reclaim, RECLAIM-LOST shows the one with the highest number, the bays being taken
in ascending number, the model's choice, log 26. R is 256 up to Qlow, 0 from Qhigh on, and between them 256 × (Qhigh −
Q_salt) ÷ (Qhigh − Qlow), truncated. What becomes of the fault count is the model's choice, log 31; how periods come to
the counters is the model's, log 9. -/
def Obligations.PairIsJudged : Prop :=
  (∀ q lo hi : Nat, lo < hi →
      (q ≤ lo → shareFor q lo hi = 256) ∧ (hi ≤ q → shareFor q lo hi = 0) ∧
      (lo < q → q < hi → shareFor q lo hi * (hi - lo) ≤ 256 * (hi - q) ∧
        256 * (hi - q) < (shareFor q lo hi + 1) * (hi - lo)) ∧
      shareFor q lo hi ≤ 256 ∧ ∀ q', q ≤ q' → shareFor q' lo hi ≤ shareFor q lo hi) ∧
  ∀ (s s' : State) (e : ConvRequest) (l : List ConvRequest) (k : Tank) (u : TankUnit) (r x y : Reading), s.Running →
    s.conv.phase = .probe → s.conv.time = 0 → (8 ≤ s.conv.up.toNat ∨ s.conv.saturated = true) →
    s.conv.requests = e :: l → e.tank = true → k = probeTank e.probe → u = s.tanks.get k → s.lines.low.get k = false →
    r = { q := min 65535 (s.conv.up.toNat * 1024 / s.conv.nRef), saturated := s.conv.saturated } →
    (e.probe = saltProbe k ∧ u.salt = .awaited ∧ x = r ∧ u.turb = .received y ∨
      e.probe = turbProbe k ∧ u.turb = .awaited ∧ y = r ∧ u.salt = .received x) →
    s' = (if e.spot1 = true ∨ e.spot2 = true then
        s.latch (.spotResult e.probe (if s.conv.saturated then .saturated else .good) (some s.conv.up.toNat) (some r.q)
          s.conv.saturated s.conv.nRef e.spot1 e.spot2 s.clock.time)
      else s) →
    ∃ t, exec (.conversionEnd s.conv.up.toNat) s = .next t ∧
      (t.tanks.get k).qSalt = some x ∧ (t.tanks.get k).qTurb = some y ∧ (t.tanks.get k).salt = .notAwaited ∧
      (t.tanks.get k).turb = .notAwaited ∧
      ((s.tanks.get (otherTank k)).state ≠ .ready ∨ (s.tanks.get (otherTank k)).sampled = false →
        t.conv = s.convAfter l) ∧
      s'.KeepsLatch t .spotResult ∧
      (y.q ≤ s.active.tLimit → x.q < s.active.qDump →
        (t.tanks.get k).share = some (shareFor x.q s.active.qLow s.active.qHigh) ∧ t.bays = s.bays ∧
        t.tanks.get (otherTank k) = s.tanks.get (otherTank k) ∧
        (u.state = .sampling → s.service = none →
          (t.tanks.get k).state = .service ∧ t.service = some k ∧ (t.tanks.get k).outlet = true ∧
          (t.tanks.get k).resampleTimer = some (s.laneTime + 60000 * s.active.resampleInterval) ∧
          ∀ p, ∃ z, (t.links.get p).latched .tankChange = some z ∧
            z.event = .tankChange none (some k) .samplePass (some (shareFor x.q s.active.qLow s.active.qHigh))) ∧
        (∀ j, u.state = .sampling → s.service = some j →
          (t.tanks.get k).state = .ready ∧ t.service = some j ∧ t.links = s'.links) ∧
        (u.state = .service →
          (t.tanks.get k).state = .service ∧ t.service = s.service ∧ t.links = s'.links ∧
          (t.tanks.get k).resampleTimer = some (s.laneTime + 60000 * s.active.resampleInterval))) ∧
      (s.active.tLimit < y.q ∨ s.active.qDump ≤ x.q →
        (t.tanks.get k).share = none ∧ (t.tanks.get k).state = .dumping ∧ (t.tanks.get k).dump = true ∧
        (t.tanks.get k).outlet = false ∧
        (s.service ≠ some k → t.service = s.service ∧ t.bays = s.bays ∧ t.links = s'.links) ∧
        (s.service = some k → t.service ≠ some k ∧ s.HandedOver t k .resampleFail ∧ s.ReclaimLost t k)) ∧
      t = { s with tanks := t.tanks, service := t.service, conv := t.conv, bays := t.bays, links := t.links }

/-- TANK_DUMP and TANK_HOLD: a tank in that state already is refused REFUSED-STATE; any other goes there, its R cleared,
and the reply gives the state it left; a sampling is abandoned, and a serving tank leaves service with the reclaim-loss
notice, the handover and TANK-CHANGE; where several bays lose reclaim, RECLAIM-LOST shows the one with the highest
number, the bays being taken in ascending number, the model's choice, log 26. TANK_RESUME takes a HELD tank to SAMPLING
or FILLING by its HIGH switch, or with LOW asserted too to SETTLING, TANK_SERVE a READY one into SERVICE when no tank
serves, or with LOW asserted back to filling; elsewhere both are refused. TANK_STATUS answers and changes nothing.
SPOT_SAMPLE joins the port to the request queue and answers the probe's place. The layout of TANK STATUS is the model's
choice, log 22; the state a RESUME names, and a SERVE with LOW asserted, are read as in log 35. -/
def Obligations.TankRequests : Prop :=
  (∀ (p : Port) (n : Byte) (s : State), s.Ready p →
      (1 < n.toNat →
        exec (.tankDump p n) s = .next (s.replying p (.tankDump n) (refuse .badArgument)) ∧
        exec (.tankHold p n) s = .next (s.replying p (.tankHold n) (refuse .badArgument)) ∧
        exec (.tankResume p n) s = .next (s.replying p (.tankResume n) (refuse .badArgument)) ∧
        exec (.tankServe p n) s = .next (s.replying p (.tankServe n) (refuse .badArgument))) ∧
      (3 < n.toNat → exec (.spotSample p n) s = .next (s.replying p (.spotSample n) (refuse .badArgument))) ∧
      exec (.tankStatus p) s = .next (s.replying p .tankStatus
        (accept (tankByte s.service ++ s.tankBytes .a ++ s.tankBytes .b ++ be 1 s.conv.phase.ctorIdx ++
          presence [s.conv.converting.isSome] ++ be 1 ((s.conv.converting.map probeCode).getD 0) ++
          be 1 s.conv.requests.length ++ s.conv.requests.flatMap fun e =>
            be 1 (probeCode e.probe) ++ be 1 (flagByte [e.tank, e.spot1, e.spot2]))))) ∧
  (∀ (p : Port) (n : Byte) (k : Tank) (s : State) (u : TankUnit), s.Ready p → n.toNat = tankCode k → u = s.tanks.get k →
      (∀ c r st cause, (c, r, st, cause) ∈
          [(Instr.tankDump p n, Request.tankDump n, TankState.dumping, TankCause.tankDump),
           (.tankHold p n, .tankHold n, .held, .tankHold)] →
        (u.state = st → exec c s = .next (s.replying p r (refuse .refusedState))) ∧
        (u.state ≠ st →
          ∃ t, exec c s = .next t ∧ s.Answered t p r (accept (be 1 u.state.ctorIdx)) ∧
            (t.tanks.get k).share = none ∧ (t.tanks.get k).salt = .notAwaited ∧ (t.tanks.get k).turb = .notAwaited ∧
            (t.tanks.get k).outlet = false ∧ (t.tanks.get k).resampleTimer = none ∧
            (st = .held ∨ s.lines.low.get k = false →
              (t.tanks.get k).state = st ∧ (t.tanks.get k).settleTimer = none ∧
              (t.tanks.get k).dump = (st == .dumping)) ∧
            (st = .dumping → s.lines.low.get k = true →
              (t.tanks.get k).state = (if s.lines.high.get k then .settling else .filling)) ∧
            (s.service ≠ some k ∨ (s.tanks.get (otherTank k)).state ≠ .ready ∨
                (s.tanks.get (otherTank k)).sampled = false →
              t.conv = if u.sampled then s.conv.withdraw k else s.conv) ∧
            (s.service ≠ some k →
              t.service = s.service ∧ t.bays = s.bays ∧ t.tanks.get (otherTank k) = s.tanks.get (otherTank k)) ∧
            (s.service = some k → t.service ≠ some k ∧ s.HandedOver t k cause ∧ s.ReclaimLost t k) ∧
            t = { s with tanks := t.tanks, service := t.service, conv := t.conv, bays := t.bays, links := t.links })) ∧
      (u.state ≠ .held → exec (.tankResume p n) s = .next (s.replying p (.tankResume n) (refuse .refusedState))) ∧
      (u.state = .held → u.sampled = false →
        (s.lines.high.get k = false →
          exec (.tankResume p n) s = .next (State.replying
            { s with tanks := s.tanks.set k { u with
                state := .filling, settleTimer := none, settleLeft := none, resampleTimer := none, inlet := true
                dump := false, outlet := false } }
            p (.tankResume n) (accept (be 1 TankState.filling.ctorIdx)))) ∧
        (s.lines.high.get k = true → s.lines.low.get k = false →
          ∃ t, exec (.tankResume p n) s = .next t ∧
            s.Answered t p (.tankResume n) (accept (be 1 TankState.sampling.ctorIdx)) ∧
            t.tanks = s.tanks.set k { u with
              state := .sampling, settleTimer := none, settleLeft := none, resampleTimer := none, salt := .awaited
              turb := .awaited, fault := none, inlet := false, dump := false, outlet := false } ∧
            t.conv = s.convSampling k ∧ t = { s with tanks := t.tanks, conv := t.conv, links := t.links }) ∧
        (s.lines.high.get k = true → s.lines.low.get k = true →
          exec (.tankResume p n) s = .next (State.replying
            { s with tanks := s.tanks.set k { u with
                state := .settling, settleTimer := some (s.laneTime + 60000 * s.active.settlingTime), settleLeft := none
                resampleTimer := none, inlet := false, dump := false, outlet := false } }
            p (.tankResume n) (accept (be 1 TankState.settling.ctorIdx))))) ∧
      (u.state ≠ .ready ∨ s.service ≠ none →
        exec (.tankServe p n) s = .next (s.replying p (.tankServe n)
          (answer .refusedState (be 1 s.tanks.a.state.ctorIdx ++ be 1 s.tanks.b.state.ctorIdx)))) ∧
      (u.state = .ready → s.service = none → s.lines.low.get k = false → u.sampled = false →
        exec (.tankServe p n) s = .next (State.replying
          (State.latch
            { s with
              service := some k
              tanks := s.tanks.set k { u with
                state := .service, settleTimer := none, settleLeft := none
                resampleTimer := some (s.laneTime + 60000 * s.active.resampleInterval), inlet := false, dump := false
                outlet := true } }
            (.tankChange none (some k) .tankServe u.share))
          p (.tankServe n) (accept []))) ∧
      (u.state = .ready → s.service = none → s.lines.low.get k = true → u.sampled = false →
        exec (.tankServe p n) s = .next (State.replying
          { s with tanks := s.tanks.set k { u with
              state := if s.lines.high.get k then .settling else .filling
              settleTimer := if s.lines.high.get k then some (s.laneTime + 60000 * s.active.settlingTime) else none
              settleLeft := none, resampleTimer := none, inlet := !s.lines.high.get k, dump := false, outlet := false } }
          p (.tankServe n) (accept [])))) ∧
  (∀ (p : Port) (n : Byte) (x : Probe) (s : State), s.Ready p → n.toNat = probeCode x →
      ∃ t i e, exec (.spotSample p n) s = .next t ∧ s.Answered t p (.spotSample n) (accept (be 1 (i + 1))) ∧
        t.conv.requests[i]? = some e ∧ e.probe = x ∧ (match p with
                                                     | .one => e.spot1
                                                     | .two => e.spot2) = true ∧
        t.conv.requests.map (·.probe) = s.conv.requests.map (·.probe) ++
          (if x ∈ s.conv.requests.map (·.probe) then [] else [x]) ∧
        (s.conv.phase ≠ .idle → t.conv = { s.conv with requests := t.conv.requests }) ∧
        (s.conv.phase = .idle → t.conv.phase = .reference ∧ t.conv.nRef = s.active.nRef ∧
          t.conv.up = BitVec.ofNat 16 (65536 - s.active.nRef) ∧ t.conv.time = 0) ∧
        t = { s with conv := t.conv, links := t.links })

/-! ### Charge Journal -/

/-- The export requests, by a port's own cursor. EXPORT_OPEN sets it to slot 0 of a page that is not FREE and answers
the page; EXPORT_STOP makes it absent; EXPORT_NEXT returns the record at a used slot and moves on, from slot 15 of a
CLOSED page making the page READ, and otherwise answers REFUSED-STATE, LOST-POSITION or END. JOURNAL_STATUS answers the
journal's picture. From the owner port each cancels a release tagging and then carries RELEASE-RESET. The layout of
JOURNAL STATUS is the model's choice, log 20. -/
def Obligations.ExportReads : Prop :=
  ∀ (p : Port) (s : State) (f : Bool) (j : Journal), s.Ready p →
    f = decide (s.water.owner = some p ∧ s.journal.tagging ≠ .untagged) →
    j = { s.journal with tagging := if s.water.owner = some p then .untagged else s.journal.tagging } →
    (∀ n : Byte, 63 < n.toNat →
      exec (.exportOpen p n) s = .next (State.replying { s with journal := j } p (.exportOpen n)
        { refuse .badArgument with releaseReset := f })) ∧
    (∀ (n : Byte) (i : PageNo) (pg : JournalPage), n.toNat = i.val → pg = s.journal.pages[i] →
      (pg.state = .free →
        exec (.exportOpen p n) s = .next (State.replying { s with journal := j } p (.exportOpen n)
          { refuse .refusedState with releaseReset := f })) ∧
      (pg.state ≠ .free →
        exec (.exportOpen p n) s = .next
          (State.replying
            { s with journal := { j with cursors := j.cursors.set p { place := .slot i 0, lost := false } } }
            p (.exportOpen n)
            { accept (be 1 pg.state.ctorIdx ++ yesNo pg.hold ++ be 1 pg.records.length ++
                presence [pg.records.head?.isSome] ++ be 3 ((pg.records.head?.map fun r => r.seq.toNat).getD 0))
              with releaseReset := f }))) ∧
    exec (.exportStop p) s = .next
      (State.replying { s with journal := { j with cursors := j.cursors.set p { place := .absent, lost := false } } }
        p .exportStop { accept [] with releaseReset := f }) ∧
    exec (.journalStatus p) s = .next
      (State.replying { s with journal := j } p .journalStatus { accept (j.picture p) with releaseReset := f }) ∧
    (∀ (c : Cursor) (next : Journal → Reply → Host.Outcome State Fault Refusal), c = s.journal.cursors.get p →
      next = (fun x a => .next (State.replying { s with journal := x } p .exportNext { a with releaseReset := f })) →
      (c.lost = true →
        exec (.exportNext p) s =
          next { j with cursors := j.cursors.set p { place := .absent, lost := false } } (refuse .lostPosition)) ∧
      (c.lost = false →
        (c.place = .absent → exec (.exportNext p) s = next j (refuse .refusedState)) ∧
        (c.place = .ringEnd → exec (.exportNext p) s = next j (refuse .endOfRecords)) ∧
        (∀ (i : PageNo) (k : Nat) (pg : JournalPage), c.place = .slot i k → pg = s.journal.pages[i] →
          (pg.records.length ≤ k → exec (.exportNext p) s = next j (refuse .endOfRecords)) ∧
          (∀ r, pg.records[k]? = some r →
            (k < 15 →
              exec (.exportNext p) s =
                next { j with cursors := j.cursors.set p { place := .slot i (k + 1), lost := false } }
                  (accept (be 1 i.val ++ be 1 k ++ be 1 pg.state.ctorIdx ++ r.encode))) ∧
            (∀ st, 15 ≤ k → (st = if pg.state = .closed then .read else pg.state) →
              exec (.exportNext p) s =
                next
                  { j with
                    pages := putAt j.pages i { pg with state := st }
                    cursors := j.cursors.set p
                      { place := if i = s.journal.newest then .ringEnd else .slot (i + 1) 0, lost := false } }
                  (accept (be 1 i.val ++ be 1 k ++ be 1 st.ctorIdx ++ r.encode)))))))

/-- HOLD_SET and HOLD_CLEAR, RELEASE_FIRST, RELEASE_LAST and RELEASE_GO, each with its tests in the manual's order: a
running walk, ownership, the page number, the page's state, the tagging. An accepted hold request sets or clears the
page's flag; an accepted tag names the first or last page; an accepted GO starts a walk over the range with counts 0. A
hold request cancels a tagging from either port, with RELEASE-RESET; a GO that fails by its range ends the tagging. -/
def Obligations.HoldsAndTagging : Prop :=
  ∀ (p : Port) (s : State) (j : Journal) (f : Bool), s.Ready p → j = { s.journal with tagging := .untagged } →
    f = decide (s.journal.tagging ≠ .untagged) →
    (∀ (n : Byte) (c : Instr) (r : Request) (hold : Bool),
      (c, r, hold) ∈ [(Instr.holdSet p n, Request.holdSet n, true), (.holdClear p n, .holdClear n, false)] →
      (∀ code, s.journal.walk.isSome = true ∧ code = ReplyCode.refusedBusy ∨
          s.journal.walk = none ∧ s.water.owner ≠ some p ∧ code = .notOwner ∨
          s.journal.walk = none ∧ s.water.owner = some p ∧ 63 < n.toNat ∧ code = .badArgument →
        exec c s = .next (State.replying { s with journal := j } p r { refuse code with releaseReset := f })) ∧
      (∀ (i : PageNo) (pg : JournalPage), s.journal.walk = none → s.water.owner = some p → n.toNat = i.val →
        pg = s.journal.pages[i] →
        (hold = true → pg.state = .free ∨ pg.state = .released →
          exec c s = .next
            (State.replying { s with journal := j } p r { refuse .refusedState with releaseReset := f })) ∧
        (hold = false ∨ pg.state ≠ .free ∧ pg.state ≠ .released →
          exec c s = .next
            (State.replying { s with journal := { j with pages := putAt j.pages i { pg with hold := hold } } } p r
              { accept (be 1 pg.state.ctorIdx ++ yesNo pg.hold) with releaseReset := f })))) ∧
    (∀ (n : Byte) (c : Instr) (r : Request) (last : Bool),
      (c, r, last) ∈ [(Instr.releaseFirst p n, Request.releaseFirst n, false), (.releaseLast p n, .releaseLast n, true)] →
      (∀ code, s.journal.walk.isSome = true ∧ code = ReplyCode.refusedBusy ∨
          s.journal.walk = none ∧ s.water.owner ≠ some p ∧ code = .notOwner ∨
          s.journal.walk = none ∧ s.water.owner = some p ∧ 63 < n.toNat ∧ code = .badArgument →
        exec c s = .next (s.replying p r (refuse code))) ∧
      (∀ (i : PageNo) (pg : JournalPage), s.journal.walk = none → s.water.owner = some p → n.toNat = i.val →
        pg = s.journal.pages[i] →
        (pg.state = .free → exec c s = .next (s.replying p r (refuse .refusedState))) ∧
        (pg.state ≠ .free → last = true → s.journal.tagging = .untagged →
          exec c s = .next (s.replying p r (refuse .sequence))) ∧
        (∀ tag, pg.state ≠ .free →
            (last = false ∧ tag = .firstTagged i ∨
              last = true ∧ ∃ x, (s.journal.tagging = .firstTagged x ∨ ∃ y, s.journal.tagging = .bothTagged x y) ∧
                tag = .bothTagged x i) →
          exec c s = .next
            (State.replying { s with journal := { s.journal with tagging := tag } } p r
              (accept (be 1 pg.state.ctorIdx ++ yesNo pg.hold)))))) ∧
    (s.journal.walk.isSome = true → exec (.releaseGo p) s = .next (s.replying p .releaseGo (refuse .refusedBusy))) ∧
    (s.journal.walk = none → s.water.owner ≠ some p →
      exec (.releaseGo p) s = .next (s.replying p .releaseGo (refuse .notOwner))) ∧
    (s.journal.walk = none → s.water.owner = some p → (∀ a b, s.journal.tagging ≠ .bothTagged a b) →
      exec (.releaseGo p) s = .next (s.replying p .releaseGo (refuse .sequence))) ∧
    (∀ (a b o : PageNo), s.journal.walk = none → s.water.owner = some p → s.journal.tagging = .bothTagged a b →
      o = s.journal.oldest →
      ((b - o).val < (a - o).val →
        exec (.releaseGo p) s =
          .next (State.replying { s with journal := j } p .releaseGo (refuse .range))) ∧
      ((a - o).val ≤ (b - o).val →
        ((∃ i : PageNo, (i - a).val ≤ (b - a).val ∧ s.journal.pages[i].state = .opened) →
          exec (.releaseGo p) s =
            .next (State.replying { s with journal := j } p .releaseGo (refuse .openInRange))) ∧
        ((∀ i : PageNo, (i - a).val ≤ (b - a).val → s.journal.pages[i].state ≠ .opened) →
          exec (.releaseGo p) s = .next
            (State.replying
              { s with journal := { j with
                  walk := some { first := a, last := b, next := a, released := 0, unread := 0, held := 0 } } }
              p .releaseGo (accept (be 1 a.val ++ be 1 b.val ++ be 1 ((b - a).val + 1)))))))

/-- RELEASE_WALK_STEP with no walk running changes nothing. Otherwise the next page is judged: a held page counts as
hold-skip, a CLOSED one as unread-skip, a READ one becomes RELEASED and its amounts leave the balances, and the walk
moves on. After the last page the walk ends: the RELEASED pages from the oldest on are freed, 16 slots each, cursors on
them are lost, the first becomes OPEN if no page was and it comes next in the ring, with the cursors at the ring end
moved onto it; a pending DAY-CLOSE is written if there is then room and pends on otherwise; RELEASE-DONE is latched with
the counts, and a pass is requested. The slots that come back are judged for JOURNAL-LOW, as is the close written: with
a margin of 64 or more the arm is armed, and a margin below latches the event if it was. A walk that frees nothing
leaves the arm. That the walk ends in the step of its last page, and which available count it reports, are read as in
log 19 and log 25; that a pass of several pages is judged once is the model's choice, log 44. That the close written
lowers the available count by one holds where the pages are sound, which every step keeps (`BoundsAndCapacitiesKept`).
-/
def Obligations.WalkStepJudgesPage : Prop :=
  (∀ s : State, s.Running → s.journal.walk = none → exec .releaseWalkStep s = .next s) ∧
  (∀ (s : State) (w w' : Walk) (pg : JournalPage) (j : Journal), s.Running → s.journal.walk = some w →
      pg = s.journal.pages[w.next] →
      w' = (if pg.hold then { w with held := w.held + 1 }
        else if pg.state = .closed then { w with unread := w.unread + 1 }
        else if pg.state = .read then { w with released := w.released + 1 }
        else w) →
      j = (if pg.hold = false ∧ pg.state = .read then
          { s.journal with
            pages := putAt s.journal.pages w.next { pg with state := .released }
            balances := Vector.ofFn fun h => s.journal.balances[h] - amountsOf h pg.records }
        else s.journal) →
      (w.next ≠ w.last →
        exec .releaseWalkStep s =
          .next { s with journal := { j with walk := some { w' with next := w.next + 1 } } }) ∧
      (∀ n a o (opens : Bool), w.next = w.last → o = j.oldest →
        n = ((List.finRange 64).takeWhile fun i => j.pages[o + i].state == .released).length →
        a = j.available + 16 * n → opens = decide (j.openPage = none ∧ 0 < n ∧ o = j.newest + 1) →
        (s.journal.pendingClose = none ∨ a < s.journal.reserved + 1 →
          ∃ t, exec .releaseWalkStep s = .next t ∧ t.journal.walk = none ∧ t.journal.balances = j.balances ∧
            t.journal.pendingClose = s.journal.pendingClose ∧ t.journal.nextSeq = s.journal.nextSeq ∧
            t.journal.available = a ∧ t.journal.reserved = s.journal.reserved ∧ (0 < n → s.LowJudged t) ∧
            (n = 0 → t.journal.lowArmed = s.journal.lowArmed ∧ s.KeepsLatch t .journalLow) ∧
            (∀ i : PageNo, (i - o).val < n →
              t.journal.pages[i] = { freePage with state := if opens = true ∧ i = o then .opened else .free }) ∧
            (∀ i : PageNo, n ≤ (i - o).val → t.journal.pages[i] = j.pages[i]) ∧
            (∀ p i k, (s.journal.cursors.get p).place = .slot i k →
              (t.journal.cursors.get p).place = .slot i k ∧
              ((i - o).val < n → (t.journal.cursors.get p).lost = true) ∧
              (n ≤ (i - o).val → (t.journal.cursors.get p).lost = (s.journal.cursors.get p).lost)) ∧
            (opens = true → t.journal.newest = o ∧ ∀ p, (s.journal.cursors.get p).place = .ringEnd →
              t.journal.cursors.get p = { s.journal.cursors.get p with place := .slot o 0 }) ∧
            (opens = false → t.journal.newest = s.journal.newest ∧ ∀ p, (s.journal.cursors.get p).place = .ringEnd →
              t.journal.cursors.get p = s.journal.cursors.get p) ∧
            (∀ p, ∃ x, (t.links.get p).latched .releaseDone = some x ∧
              x.event = .releaseDone w.first w.last w'.released w'.unread w'.held n a) ∧
            t.disp.mark = true ∧
            t = { s with journal := t.journal, disp := t.disp, links := t.links }) ∧
        (∀ d q, s.PagesSound → s.journal.pendingClose = some d → s.journal.reserved + 1 ≤ a →
          (j.openPage = some q ∨ opens = true ∧ q = o) →
          ∃ t, exec .releaseWalkStep s = .next t ∧ t.journal.walk = none ∧ t.journal.balances = j.balances ∧
            t.journal.pendingClose = none ∧ t.journal.nextSeq = s.journal.nextSeq + 1 ∧
            t.journal.reserved = s.journal.reserved ∧
            t.journal.lowArmed = decide (s.journal.reserved + 65 ≤ a) ∧
            (0 < n → a < s.journal.reserved + 64 → s.journal.lowArmed = true →
              t.Shows (.journalLow a s.journal.reserved (s.journal.countState .closed) t.journal.heldPages)) ∧
            (n = 0 ∧ s.journal.lowArmed = true ∧ a < s.journal.reserved + 65 ∨ 0 < n ∧ a = s.journal.reserved + 64 →
              t.Shows (.journalLow (a - 1) s.journal.reserved (t.journal.countState .closed) t.journal.heldPages)) ∧
            (s.journal.reserved + 65 ≤ a ∨
                s.journal.lowArmed = false ∧ (n = 0 ∨ a < s.journal.reserved + 64) →
              s.KeepsLatch t .journalLow) ∧
            t.journal.pages[q].records =
              (if opens then [] else s.journal.pages[q].records) ++ [.dayClose s.journal.nextSeq d] ∧
            (∀ p, ∃ x, (t.links.get p).latched .dayClosed = some x ∧
              x.event = .dayClosed s.journal.nextSeq d.first d.last d.totals.amount) ∧
            (∀ p, ∃ x, (t.links.get p).latched .releaseDone = some x ∧
              x.event = .releaseDone w.first w.last w'.released w'.unread w'.held n a) ∧
            t.disp.mark = true ∧
            t = { s with journal := t.journal, disp := t.disp, links := t.links })))

/-! ### Depot Clock -/

/-- MIDNIGHT_PASSAGE, once the last centisecond of second 86,399 has passed whole, takes depot time to second 0 of the
next day, day 65,535 staying; at any other time it changes nothing. TIME_SET takes it to the given day and second, its
reply giving the time before, the signed difference and the rollover indication; a difference beyond the tolerance
latches CLOCK-STEP. A day that passes the billing day of the running part brings one rollover: the allowance is loaded,
OVERDRAW cleared, the fairness state reset, and if the billing day lay beyond LastClosedDay a DAY-CLOSE with the
accumulators is written, with JOURNAL-LOW judged, made pending, or merged into the pending one. Any other leaves all
that as it was. (No bay waits for water.) How the end of a day is counted is the model's, log 4; the cleared part of a
centisecond is read as in log 32, the codes of the indication as in log 40. -/
def Obligations.ClockMovesDay : Prop :=
  (∀ (s : State) (nt : DepotTime), nt = { day := min 65535 (s.clock.time.day + 1), secs := 0, cs := 0 } →
      s.clock.time.day ≤ 65535 →
      (s.clock.time.secs < 86399 ∨ s.clock.time.cs < 99 ∨ s.clock.sub < 1000 →
        exec .midnightPassage s = .next s) ∧
      (86399 ≤ s.clock.time.secs → 99 ≤ s.clock.time.cs → 1000 ≤ s.clock.sub →
        (s.part.phase ≠ .running →
          exec .midnightPassage s = .next { s with clock := { s.clock with time := nt, sub := 0 } }) ∧
        (s.Running → nt.day ≤ s.clock.billingDay →
          exec .midnightPassage s = .next { s with clock := { s.clock with time := nt, sub := 0 } }))) ∧
  (∀ (p : Port) (d : BitVec 16) (x : BitVec 24) (s : State) (nt : DepotTime) (diff : Int), s.Ready p →
      nt = { day := d.toNat, secs := x.toNat, cs := 0 } →
      diff = ((d.toNat : Int) * 86400 + x.toNat) - ((s.clock.time.day : Int) * 86400 + s.clock.time.secs) →
      (86399 < x.toNat →
        exec (.timeSet p d x) s = .next (s.replying p (.timeSet d x) (refuse .badArgument))) ∧
      (x.toNat ≤ 86399 → d.toNat ≤ s.clock.billingDay →
        (diff.natAbs ≤ s.active.clockTolerance →
          exec (.timeSet p d x) s = .next (State.replying
            { s with clock := { s.clock with time := nt, sub := 0, billingDay := d.toNat } } p (.timeSet d x)
            (accept (timeBytes s.clock.time ++ signedBytes diff ++ be 1 0)))) ∧
        (s.active.clockTolerance < diff.natAbs →
          exec (.timeSet p d x) s = .next (State.replying
            (State.latch { s with clock := { s.clock with time := nt, sub := 0, billingDay := d.toNat } }
              (.clockStep p s.clock.time nt diff)) p (.timeSet d x)
            (accept (timeBytes s.clock.time ++ signedBytes diff ++ be 1 0))))) ∧
      (x.toNat ≤ 86399 → s.clock.billingDay < d.toNat →
        ∃ t, exec (.timeSet p d x) s = .next t ∧
          s.Answered t p (.timeSet d x) (accept (timeBytes s.clock.time ++ signedBytes diff ++
            be 1 (if s.clock.lastClosed < s.clock.billingDay then 2 else 1))) ∧
          (s.active.clockTolerance < diff.natAbs → ∀ q, ∃ z, (t.links.get q).latched .clockStep = some z ∧
            z.event = .clockStep p s.clock.time nt diff))) ∧
  (∀ (s : State) (c : Instr) (nt : DepotTime) (dc : DayClose), s.Running → s.water.waits = [] →
      (c = .midnightPassage ∧ 86399 ≤ s.clock.time.secs ∧ 99 ≤ s.clock.time.cs ∧ 1000 ≤ s.clock.sub ∧
          nt = { day := min 65535 (s.clock.time.day + 1), secs := 0, cs := 0 } ∨
        ∃ p d x, s.Ready p ∧ c = .timeSet p d x ∧ x.toNat ≤ 86399 ∧
          nt = { day := d.toNat, secs := x.toNat, cs := 0 }) →
      s.clock.billingDay < nt.day → s.clock.time.day ≤ 65535 →
      dc = { first := s.clock.lastClosed + 1, last := nt.day - 1, totals := s.clock.acc } →
      ∃ t, exec c s = .next t ∧ t.water = { s.water with fresh := s.water.preload, overdraw := 0 } ∧
        t.disp.lastHaulier = none ∧ t.disp.run = 0 ∧
        (s.clock.billingDay ≤ s.clock.lastClosed →
          t.clock = { s.clock with time := nt, sub := 0, billingDay := nt.day } ∧ t.journal = s.journal) ∧
        (s.clock.lastClosed < s.clock.billingDay →
          t.clock = { time := nt, sub := 0, billingDay := nt.day, lastClosed := nt.day - 1, acc := zeroTotals } ∧
          (∀ pg, s.journal.pendingClose = none → s.journal.reserved + 1 ≤ s.journal.available →
            s.journal.openPage = some pg →
            t.journal.pages[pg].records = s.journal.pages[pg].records ++ [.dayClose s.journal.nextSeq dc] ∧
            t.journal.nextSeq = s.journal.nextSeq + 1 ∧ t.journal.pendingClose = none ∧
            t.journal.reserved = s.journal.reserved ∧ t.journal.balances = s.journal.balances ∧ s.LowJudged t ∧
            ∀ q, ∃ z, (t.links.get q).latched .dayClosed = some z ∧
              z.event = .dayClosed s.journal.nextSeq dc.first dc.last dc.totals.amount) ∧
          (∀ m, (s.journal.pendingClose = none ∧ s.journal.available < s.journal.reserved + 1 ∧ m = dc ∨
              ∃ old, s.journal.pendingClose = some old ∧
                m = { first := old.first, last := dc.last, totals := old.totals.plus dc.totals }) →
            t.journal = { s.journal with pendingClose := some m } ∧
            ∀ q, ∃ z, (t.links.get q).latched .dayCloseDeferred = some z ∧
              z.event = .dayCloseDeferred m.first m.last s.journal.available s.journal.reserved)) ∧
        t = { s with water := t.water, disp := t.disp, journal := t.journal, clock := t.clock, links := t.links })

/-! ### Site link ports -/

/-- The requests of the port itself. STATUS returns latched kinds in ascending code, as many as fit in 249 bytes, and
clears on that port exactly those it returned. CHECK_MODE turns the frame check on or off and answers the setting
before. ATTENTION_SET and ATTENTION_CLEAR change the port's mask, and its line follows. RESET, and CLEAR_STORE from the
owner, are accepted with a reset to follow the reply. -/
def Obligations.LinkRequests : Prop :=
  ∀ (p : Port) (s : State) (l : Link), s.Ready p → l = s.links.get p →
    (∃ t n, exec (.status p) s = .next t ∧ n ≤ l.entries.length ∧
      s.Answered t p .status (accept (be 1 (if n < l.entries.length then 1 else 0) ++ be 1 n ++
        (l.entries.take n).flatMap fun x => x.2.encode)) ∧
      ((l.entries.take n).map fun x => x.2.encode.length).sum ≤ 247 ∧
      (n < l.entries.length → 247 < ((l.entries.take (n + 1)).map fun x => x.2.encode.length).sum) ∧
      (∀ k : Fin 29, ((t.links.get p).latch[k] =
        if k ∈ (l.entries.take n).map (fun x => x.1) then none else l.latch[k])) ∧
      ((t.links.get p).attention = true ↔
        ∃ k : Fin 29, (t.links.get p).latch[k].isSome = true ∧ l.mask.getLsbD k.val = true) ∧
      t.links.get (otherPort p) = s.links.get (otherPort p) ∧ (t.links.get p).mask = l.mask ∧
      t = { s with links := t.links }) ∧
    (∀ m : Byte, 1 < m.toNat →
      exec (.checkMode p m) s = .next (s.replying p (.checkMode m) (refuse .badArgument))) ∧
    (∀ (m : Byte) (b : Bool), m.toNat = (if b then 1 else 0) →
      exec (.checkMode p m) s = .next (State.replying
        { s with links := s.links.set p { l with checkOn := b } } p (.checkMode m) (accept (yesNo l.checkOn)))) ∧
    (∀ (m : BitVec 32) (c : Instr) (r : Request) (mask : BitVec 29),
      (c, r, mask) ∈ [(Instr.attentionSet p m, Request.attentionSet m, l.mask ||| m.setWidth 29),
        (.attentionClear p m, .attentionClear m, l.mask &&& ~~~(m.setWidth 29))] →
      (2 ^ 29 ≤ m.toNat → exec c s = .next (s.replying p r (refuse .badArgument))) ∧
      (m.toNat < 2 ^ 29 →
        ∃ a : Bool, (a = true ↔ ∃ k : Fin 29, l.latch[k].isSome = true ∧ mask.getLsbD k.val = true) ∧
          exec c s = .next (State.replying
            { s with links := s.links.set p { l with mask := mask, attention := a } } p r
            (accept (be 4 mask.toNat))))) ∧
    exec (.reset p) s = .next (State.replying
      { s with links := s.links.set p { l with resetAfter := some .resetRequest } } p .reset (accept [])) ∧
    (s.water.owner ≠ some p → exec (.clearStore p) s = .next (s.replying p .clearStore (refuse .notOwner))) ∧
    (s.water.owner = some p →
      exec (.clearStore p) s = .next (State.replying
        { s with links := s.links.set p { l with resetAfter := some .clearStore } } p .clearStore (accept [])))

/-- How a port takes bytes and frames. FRAME_BYTE moves the receiver through kind, length (over 250 abandoned) and
payload to the check bytes; a byte after a gap of more than 20 ms is examined in HUNT, and FRAME_GAP and
MISSING_STOP_BIT bring the receiver back there. A complete frame meets its tests in order: a wrong check in check mode
ON gives CHECK-FAILED and with the mode OFF the frame does what the request's row does; an unknown kind gives
UNKNOWN-KIND, every kind but STATUS and IDENTITY in start-up STARTING, a wrong length BAD-ARGUMENT. While a reply is in
sending one request is held and a further one is discarded; REPLY_SENT ends the reply, and the held request is then
taken as if it had just arrived. That REPLY_SENT ends a reply and FRAME_GAP a frame whenever taken, and which frame
UNKNOWN_KIND is, are the model's choices, log 13, log 15 and log 41. -/
def Obligations.PortLines : Prop :=
  (∀ (p : Port) (s : State) (r : Receiver) (rx : Receiver → State), s.part.phase ≠ .off →
      (s.part.phase = .running → s.disp.status = s.signStatus) →
      r = (if (s.links.get p).rxAt + 2000 < s.timebase then .hunt else (s.links.get p).rx) →
      rx = (fun x => { s with links := s.links.set p { s.links.get p with rx := x, rxAt := s.timebase } }) →
      (∀ b : Byte,
        (r = .hunt → exec (.frameByte p b) s = .next (rx (if b = 0xA6 then .kind else .hunt))) ∧
        (r = .kind → exec (.frameByte p b) s = .next (rx (.length b))) ∧
        (∀ k, r = .length k →
          exec (.frameByte p b) s = .next (rx (if 250 < b.toNat then .hunt
            else if b = 0 then .check k [] none else .payload k b []))) ∧
        (∀ k n got, r = .payload k n got →
          exec (.frameByte p b) s = .next (rx (if got.length + 1 < n.toNat then .payload k n (got ++ [b])
            else .check k (got ++ [b]) none))) ∧
        (∀ k pl, r = .check k pl none → exec (.frameByte p b) s = .next (rx (.check k pl (some b)))) ∧
        (∀ k pl a right refused, r = .check k pl (some a) →
          (s.links.get p).reply = none → (s.links.get p).held = none →
          right = (a.toNat * 256 + b.toNat = (crc ([k] ++ be 1 pl.length ++ pl)).toNat) →
          refused = (fun code => Host.Outcome.next { s with links := s.links.set p { s.links.get p with
            rx := .hunt, rxAt := s.timebase
            reply := some { bytes := replyFrame k (refuse code), began := s.timebase } } }) →
          ((s.links.get p).checkOn = true → ¬ right → exec (.frameByte p b) s = refused .checkFailed) ∧
          ((s.links.get p).checkOn = false ∨ right →
            (requestLength k = none → exec (.frameByte p b) s = refused .unknownKind) ∧
            (∀ n, requestLength k = some n →
              (s.part.phase ≠ .running → k ≠ 0x70 → k ≠ 0x71 → exec (.frameByte p b) s = refused .starting) ∧
              (s.part.phase = .running ∨ k = 0x70 ∨ k = 0x71 → pl.length ≠ n →
                exec (.frameByte p b) s = refused .badArgument)) ∧
            (∀ c q, c.request = some (p, q) → q.kind = k → q.payload = pl →
              exec (.frameByte p b) s =
                exec c { s with links := s.links.set p { s.links.get p with rxAt := s.timebase } })))) ∧
      exec (.frameGap p) s = .next { s with links := s.links.set p { s.links.get p with rx := .hunt } } ∧
      exec (.missingStopBit p) s = .next { s with links := s.links.set p { s.links.get p with rx := .hunt } } ∧
      (∀ x f, (s.links.get p).held = none → (s.links.get p).reply = some x → (s.links.get p).resetAfter = none →
        (∀ c r, c.request = some (p, r) →
          f = { kind := r.kind, payload := r.payload, check := frameCheck r.kind r.payload } →
          exec c s = .next { s with links := s.links.set p { s.links.get p with rx := .hunt, held := some f } }) ∧
        exec (.replySent p) s = .next { s with links := s.links.set p { s.links.get p with reply := none } }) ∧
      (∀ f c r, (s.links.get p).held = some f → c.request = some (p, r) →
        exec c s = .next { s with links := s.links.set p { s.links.get p with rx := .hunt } }) ∧
      ((s.links.get p).reply = none → exec (.replySent p) s = .next s)) ∧
  (∀ (p : Port) (s : State) (k : Byte), s.Ready p → requestLength k = none →
      exec (.unknownKind p k) s = .next { s with links := s.links.set p { s.links.get p with
        rx := .hunt
        reply := some { bytes := replyFrame k (refuse .unknownKind), began := s.timebase } } }) ∧
  (∀ (p : Port) (s : State) (c : Instr) (r : Request), (s.part.phase = .checking ∨ s.part.phase = .starting) →
      (s.links.get p).reply = none → (s.links.get p).held = none → c.request = some (p, r) → r ≠ .status →
      r ≠ .identity → exec c s = .next (s.replying p r (refuse .starting))) ∧
  (∀ (p : Port) (s : State) (x : Sending) (c : Instr) (r : Request), s.Running → (s.links.get p).reply = some x →
      (s.links.get p).resetAfter = none → (s.links.get p).rx = .hunt → c.request = some (p, r) →
      (s.links.get p).held =
        some { kind := r.kind, payload := r.payload, check := frameCheck r.kind r.payload } →
      exec (.replySent p) s =
        exec c { s with links := s.links.set p { s.links.get p with reply := none, held := none } })

/-- The bytes of a request frame, arriving one by one at a port in HUNT, do what the request's row does. In order: start
byte, kind, length, payload, and the check over kind, length and payload. That a request row is a whole frame with a
right check is the model's choice, log 1. -/
def Obligations.FrameBytesAreRequest : Prop :=
  ∀ (p : Port) (c : Instr) (r : Request) (s : State), c.request = some (p, r) → s.Ready p →
    (s.links.get p).rx = .hunt →
      ∃ t, s.afterBytes p ([0xA6, r.kind] ++ be 1 r.payload.length ++ r.payload ++
          be 2 (crc ([r.kind] ++ be 1 r.payload.length ++ r.payload)).toNat) = some t ∧
        exec c { s with links := s.links.set p { s.links.get p with rxAt := s.timebase } } = .next t

/-! ### Start-up and recovery -/

/-- POWER_ON, RESET_LINE, POWER_LOSS, and REPLY_SENT of a reply that a reset follows: every block stops, the pumps low
and the valves closed, the queue, the lane, the links, staging and the tagging gone, BAY_OPEN and SETTLE_OWNER 0, the
sign blank; bay states with their records, tank states with their readings, registers, terms, journal, clock and line
levels stay. A reset stands before the store check with its cause; after POWER_LOSS the part is off. Off, RESET_LINE and
POWER_LOSS do nothing. What a power loss and a second POWER_ON do, and when sections fail, are the model's choices, log
27 and log 28; so are the converter's N_ref 0 and its flag clear, log 7, and the timebase running on, log 4. -/
def Obligations.ResetsStopEveryBlock : Prop :=
  (∀ s : State, s.part.phase = .off → exec .resetLine s = .next s ∧ exec .powerLoss s = .next s) ∧
  ∀ (s : State) (c : Instr) (cause : ResetCause) (k : StoreChecks),
    (c = .powerOn k ∧ cause = .powerOn ∨ c = .resetLine ∧ cause = .resetLine ∧ s.part.phase ≠ .off ∨
        c = .powerLoss ∧ cause = .powerOn ∧ s.part.phase ≠ .off ∨
        s.part.phase ≠ .off ∧ ∃ p x, c = .replySent p ∧ (s.links.get p).reply = some x ∧
          (s.links.get p).resetAfter = some cause) →
    ∃ t, exec c s = .next t ∧
      t.part.phase = (if c = .powerLoss then .off else .checking) ∧ t.part.startKind = .pending ∧
      t.part.cause = cause ∧ t.part.recovered = 0 ∧
      (c = .powerOn k → t.store = checksBoth s.store k) ∧ (c ≠ .powerOn k → cause ≠ .clearStore → t.store = s.store) ∧
      (cause = .clearStore → checksValid t.store = false) ∧
      t.lane = laneReset ∧ t.queue = [] ∧ t.staging = none ∧ t.service = none ∧ t.conv = converterReset ∧
      t.links = ⟨linkReset, linkReset⟩ ∧
      t.water = { s.water with bayOpen := 0, owner := none, waits := [] } ∧
      t.journal = { s.journal with
        cursors := ⟨cursorAbsent, cursorAbsent⟩, tagging := .untagged, lowArmed := true } ∧
      (∀ b, t.bays.get b = { bayClosed with state := (s.bays.get b).state, record := (s.bays.get b).record }) ∧
      (∀ i, t.tanks.get i = { s.tanks.get i with
        settleTimer := none, resampleTimer := none, salt := .notAwaited, turb := .notAwaited, fault := none
        inlet := false, dump := false, outlet := false
        settleLeft := (match (s.tanks.get i).settleTimer with
                       | some d => some (d - s.laneTime)
                       | none => (s.tanks.get i).settleLeft) }) ∧
      t.disp.status = .closed ∧ t.disp.lines = [] ∧ t.disp.mark = false ∧ t.disp.lastHaulier = none ∧ t.disp.run = 0 ∧
      t.disp.sending = (if c = .powerLoss then none
        else some { bytes := [0x5A] ++ List.replicate 16 0x20 ++ [0x00], began := s.timebase }) ∧
      t = { s with part := t.part, store := t.store, lane := t.lane, queue := t.queue, staging := t.staging,
                   service := t.service, conv := t.conv, links := t.links, water := t.water, journal := t.journal,
                   bays := t.bays, tanks := t.tanks, disp := t.disp }

/-- STORE_CHECK with an invalid section starts COLD with the factory state in every table. With every section valid it
starts WARM: a bay found in WASHING is recovered, its phase cut off, its claim settled and the charge appended with
WASH-ABORTED, the day accumulators raised and OVERDRAW latched where it applies, any other record is cleared; a tank
that served goes to SAMPLING, every bay is CLOSED, and the balances are recomputed from the records. Of two washes the
lower bay's is recovered first. A release walk that was cut off judges its remaining pages and frees as any walk does,
RELEASE-DONE carrying its whole counts and a pending DAY-CLOSE pending on. Outside the check it does nothing. (No bay
waits for water.) When a section fails is the model's choice, log 27, and so is that a cold start clears the clock's
prescaler, log 4. -/
def Obligations.StoreCheckStarts : Prop :=
  (∀ s : State, s.part.phase ≠ .checking → exec .storeCheck s = .next s) ∧
  (∀ s : State, s.part.phase = .checking → checksValid s.store = false →
      exec .storeCheck s = .next { s with
        part := { s.part with phase := .starting, startKind := .cold }
        nextVisit := 1, register := [], hauliers := hauliersFactory, active := defaultBank, generation := 0
        water := { fresh := 0, overdraw := 0, bayOpen := 0, owner := none, preload := 0, waits := [] }
        tanks := ⟨tankFactory, tankFactory⟩, journal := journalFactory
        clock := { time := ⟨0, 0, 0⟩, sub := 0, billingDay := 0, lastClosed := 0, acc := ⟨0, 0, 0, 0, 0⟩ }
        bays := .all bayClosed, store := allChecks, queue := [], lane := laneReset, staging := none }) ∧
  (∀ s : State, s.part.phase = .checking → checksValid s.store = true → s.journal.walk = none →
      (∀ b, (s.bays.get b).state ≠ .washing) →
      ∃ t, exec .storeCheck s = .next t ∧
        t.part = { s.part with phase := .starting, startKind := .warm, walkFinished := false } ∧ t.queue = [] ∧
        t.bays = .all bayClosed ∧ t.lane = laneReset ∧ t.staging = none ∧
        t.water = { s.water with bayOpen := 0, owner := none, waits := [] } ∧ t.journal.reserved = 0 ∧
        t.journal.pages = s.journal.pages ∧ t.journal.nextSeq = s.journal.nextSeq ∧
        (∀ h : Haulier, t.journal.balances[h] = s.journal.owed h) ∧
        (∀ i, t.tanks.get i = { s.tanks.get i with
          state := if (s.tanks.get i).state = .service then .sampling else (s.tanks.get i).state }) ∧
        t = { s with part := t.part, queue := t.queue, bays := t.bays, lane := t.lane, staging := t.staging,
                     water := t.water, journal := t.journal, tanks := t.tanks }) ∧
  (∀ (s : State) (b : Bay) (r r' : WorkRecord) (e : PhaseEntry) (f : Nat) (c : Charge) (pg : PageNo),
      s.part.phase = .checking → checksValid s.store = true → s.journal.walk = none → s.water.waits = [] →
      (s.bays.get b).state = .washing → (s.bays.get b).record = some r → (∀ x, x ≠ b → (s.bays.get x).state ≠ .washing) →
      r.entries[r.phase - 1]? = some e → s.journal.openPage = some pg →
      f = (if r.sub = .run ∨ r.sub = .runOn then (e.lb * (256 - e.rPhase) + 255) / 256 + e.lf else 0) →
      r' = { r with
        endTime := some s.clock.time
        entries := r.entries.modify (r.phase - 1) fun x =>
          { x with fk := f, status := if r.sub = .run ∨ r.sub = .runOn then .aborted else .notReached } } →
      c = r'.price b true →
      ∃ t, exec .storeCheck s = .next t ∧ t.part.startKind = .warm ∧ t.part.recovered = s.part.recovered + 1 ∧
        t.journal.pages[pg].records = s.journal.pages[pg].records ++ [.charge s.journal.nextSeq c] ∧
        t.journal.nextSeq = s.journal.nextSeq + 1 ∧ t.journal.reserved = 0 ∧
        t.water.fresh = (if f < r.claim then min 262143 (s.water.fresh + (r.claim - f))
          else s.water.fresh - (f - r.claim)) ∧
        t.water.overdraw = (if r.claim + s.water.fresh < f
          then min 262143 (s.water.overdraw + (f - r.claim - s.water.fresh)) else s.water.overdraw) ∧
        t.clock = { s.clock with acc := (s.accSettled r.claim f).charged c } ∧ s.OverdrawLatched t b r f ∧
        c.flags.aborted = true ∧ c.flags.recovered = true ∧
        (∀ p, ∃ x, (t.links.get p).latched .washAborted = some x ∧
          x.event = .washAborted c.visit b c.haulier s.journal.nextSeq c.amount r.abort r.phase) ∧
        t.bays = .all bayClosed ∧
        t = { s with part := t.part, queue := t.queue, bays := t.bays, lane := t.lane, staging := t.staging,
                     water := t.water, journal := t.journal, clock := t.clock, tanks := t.tanks, links := t.links }) ∧
  (∀ (s : State) (a b : Bay) (ra rb : WorkRecord) (ea eb : PhaseEntry) (cut : WorkRecord → PhaseEntry → WorkRecord)
      (lit : WorkRecord → PhaseEntry → Nat) (fr : Nat → WorkRecord → PhaseEntry → Nat)
      (ov : Nat → Nat → WorkRecord → PhaseEntry → Nat) (short : Nat → WorkRecord → PhaseEntry → Nat)
      (noted : Totals → Nat → Totals) (ca cb : Charge) (pg : PageNo),
      s.part.phase = .checking → checksValid s.store = true → s.journal.walk = none → s.water.waits = [] →
      bayNumber a < bayNumber b → (∀ x, (s.bays.get x).state = .washing ↔ x = a ∨ x = b) →
      (s.bays.get a).record = some ra → (s.bays.get b).record = some rb → ra.entries[ra.phase - 1]? = some ea →
      rb.entries[rb.phase - 1]? = some eb → s.journal.openPage = some pg → s.journal.pages[pg].records.length < 15 →
      lit = (fun r e => if r.sub = .run ∨ r.sub = .runOn then (e.lb * (256 - e.rPhase) + 255) / 256 + e.lf else 0) →
      cut = (fun r e => { r with
        endTime := some s.clock.time
        entries := r.entries.modify (r.phase - 1) fun x =>
          { x with fk := lit r e, status := if r.sub = .run ∨ r.sub = .runOn then .aborted else .notReached } }) →
      fr = (fun fresh r e =>
        if lit r e < r.claim then min 262143 (fresh + (r.claim - lit r e)) else fresh - (lit r e - r.claim)) →
      ov = (fun fresh overdraw r e =>
        if r.claim + fresh < lit r e then min 262143 (overdraw + (lit r e - r.claim - fresh)) else overdraw) →
      short = (fun fresh r e => lit r e - (r.claim + fresh)) →
      noted = (fun k n => if n = 0 then k else k.raised 0 0 0 0 n) →
      ca = (cut ra ea).price a true → cb = (cut rb eb).price b true →
      ∃ t, exec .storeCheck s = .next t ∧ t.part.startKind = .warm ∧ t.part.recovered = s.part.recovered + 2 ∧
        t.journal.pages[pg].records = s.journal.pages[pg].records ++
          [.charge s.journal.nextSeq ca, .charge (s.journal.nextSeq + 1) cb] ∧
        t.journal.nextSeq = s.journal.nextSeq + 2 ∧ t.journal.reserved = 0 ∧
        (∀ h : Haulier, t.journal.balances[h] = t.journal.owed h) ∧
        t.water.fresh = fr (fr s.water.fresh ra ea) rb eb ∧
        t.water.overdraw = ov (fr s.water.fresh ra ea) (ov s.water.fresh s.water.overdraw ra ea) rb eb ∧
        t.clock = { s.clock with acc := (noted ((noted s.clock.acc (short s.water.fresh ra ea)).charged ca)
          (short (fr s.water.fresh ra ea) rb eb)).charged cb } ∧
        (short (fr s.water.fresh ra ea) rb eb ≠ 0 →
          t.Shows (.overdraw b rb.visitNumber rb.phase (short (fr s.water.fresh ra ea) rb eb) t.water.overdraw)) ∧
        (short (fr s.water.fresh ra ea) rb eb = 0 → short s.water.fresh ra ea ≠ 0 →
          t.Shows (.overdraw a ra.visitNumber ra.phase (short s.water.fresh ra ea)
            (ov s.water.fresh s.water.overdraw ra ea))) ∧
        (∀ p, ∃ x, (t.links.get p).latched .washAborted = some x ∧
          x.event = .washAborted cb.visit b cb.haulier (s.journal.nextSeq + 1) cb.amount rb.abort rb.phase) ∧
        t.bays = .all bayClosed ∧
        t = { s with part := t.part, queue := t.queue, bays := t.bays, lane := t.lane, staging := t.staging,
                     water := t.water, journal := t.journal, clock := t.clock, tanks := t.tanks, links := t.links }) ∧
  (∀ (s : State) (w : Walk) (j : Journal) (o : PageNo) (n : Nat) (opens : Bool)
      (among : (JournalPage → Bool) → Nat), s.part.phase = .checking → checksValid s.store = true →
      s.journal.walk = some w → (∀ b, (s.bays.get b).state ≠ .washing) →
      j = { s.journal with pages := Vector.ofFn fun i : PageNo =>
        if (i - w.next).val ≤ (w.last - w.next).val ∧ s.journal.pages[i].hold = false ∧
            s.journal.pages[i].state = .read
        then { s.journal.pages[i] with state := .released } else s.journal.pages[i] } →
      o = j.oldest → n = ((List.finRange 64).takeWhile fun i => j.pages[o + i].state == .released).length →
      opens = decide (j.openPage = none ∧ 0 < n ∧ o = j.newest + 1) →
      among = (fun f => (List.finRange 64).countP fun i : PageNo =>
        decide ((i - w.next).val ≤ (w.last - w.next).val) && f s.journal.pages[i]) →
      ∃ t, exec .storeCheck s = .next t ∧
        t.part = { s.part with phase := .starting, startKind := .warm, walkFinished := true } ∧
        t.journal.walk = none ∧ t.journal.pendingClose = s.journal.pendingClose ∧ t.journal.reserved = 0 ∧
        t.journal.nextSeq = s.journal.nextSeq ∧
        (∀ i : PageNo, (i - o).val < n →
          t.journal.pages[i] = { freePage with state := if opens = true ∧ i = o then .opened else .free }) ∧
        (∀ i : PageNo, n ≤ (i - o).val → t.journal.pages[i] = j.pages[i]) ∧
        (∀ h : Haulier, t.journal.balances[h] = t.journal.owed h) ∧
        (∀ p, ∃ x, (t.links.get p).latched .releaseDone = some x ∧
          x.event = .releaseDone w.first w.last
            (w.released + among fun g => !g.hold && g.state == .read)
            (w.unread + among fun g => !g.hold && g.state == .closed) (w.held + among fun g => g.hold) n
            (j.available + 16 * n)) ∧
        t = { s with part := t.part, queue := t.queue, bays := t.bays, lane := t.lane, staging := t.staging,
                     water := t.water, journal := t.journal, tanks := t.tanks, disp := t.disp, links := t.links })

/-- START_UP_END: with a day that has advanced one rollover comes first: the allowance is loaded, OVERDRAW cleared, the
fairness state reset, and a day close is due if the billing day lay beyond LastClosedDay. STARTED is latched with the
start kind, the cause, the washes recovered, whether a walk was finished, whether a rollover was made and whether a
DAY-CLOSE pends; the part runs, a pass is requested and the status line is current; a FILLING tank opens its inlet, a
SAMPLING one has its probes requested, SALT before TURB, tank A before tank B (log 26), a settle timer resumes, and a
bay with its e-stop asserted is in FAULT. The due close, or the one pending, with which a due one merges, is written
when there is room, and otherwise pends. The JOURNAL-LOW arm is armed, and only a pending close then written is judged,
read as in log 14. Outside start-up's end it does nothing. (No bay waits for water.) Whose recoveries STARTED counts is
read as in log 33. -/
def Obligations.StartUpEnds : Prop :=
  (∀ s : State, s.part.phase ≠ .starting → exec .startUpEnd s = .next s) ∧
  (∀ (s : State) (rolled due room : Bool) (dc : DayClose) (close : Option DayClose), s.part.phase = .starting →
      s.water.waits = [] → s.water.bayOpen = 0 → (∀ b, (s.bays.get b).state = .closed) → s.service = none →
      rolled = decide (s.clock.billingDay < s.clock.time.day) →
      due = (rolled && decide (s.clock.lastClosed < s.clock.billingDay)) →
      room = decide (s.journal.reserved + 1 ≤ s.journal.available) →
      dc = { first := s.clock.lastClosed + 1, last := s.clock.time.day - 1, totals := s.clock.acc } →
      close = (match s.journal.pendingClose with
        | none => if due then some dc else none
        | some old =>
          if due then some { first := old.first, last := dc.last, totals := old.totals.plus dc.totals } else some old) →
      ∃ t, exec .startUpEnd s = .next t ∧ t.part = { s.part with phase := .running } ∧ t.disp.mark = true ∧
        t.disp.status = t.signStatus ∧
        t.water = (if rolled then { s.water with fresh := s.water.preload, overdraw := 0 } else s.water) ∧
        t.disp.lastHaulier = (if rolled then none else s.disp.lastHaulier) ∧
        t.disp.run = (if rolled then 0 else s.disp.run) ∧
        t.clock = (if due then
            { s.clock with billingDay := s.clock.time.day, lastClosed := s.clock.time.day - 1, acc := ⟨0, 0, 0, 0, 0⟩ }
          else if rolled then { s.clock with billingDay := s.clock.time.day }
          else s.clock) ∧
        (∀ p, ∃ x, (t.links.get p).latched .started = some x ∧
          x.event = .started s.part.startKind s.part.cause s.part.recovered s.part.walkFinished rolled
            (s.journal.pendingClose.isSome || (due && !room))) ∧
        (close = none → t.journal = { s.journal with lowArmed := true } ∧ s.KeepsLatch t .journalLow) ∧
        (∀ d pg, close = some d → room = true → s.journal.openPage = some pg →
          t.journal.pages[pg].records = s.journal.pages[pg].records ++ [.dayClose s.journal.nextSeq d] ∧
          t.journal.nextSeq = s.journal.nextSeq + 1 ∧ t.journal.pendingClose = none ∧
          t.journal.reserved = s.journal.reserved ∧ t.journal.balances = s.journal.balances ∧
          (s.journal.pendingClose = none → t.journal.lowArmed = true ∧ s.KeepsLatch t .journalLow) ∧
          (s.journal.pendingClose.isSome = true →
            t.journal.lowArmed = decide (t.journal.reserved + 64 ≤ t.journal.available) ∧
            (t.journal.available < t.journal.reserved + 64 →
              t.Shows (.journalLow t.journal.available t.journal.reserved (t.journal.countState .closed)
                t.journal.heldPages))) ∧
          ∀ p, ∃ x, (t.links.get p).latched .dayClosed = some x ∧
            x.event = .dayClosed s.journal.nextSeq d.first d.last d.totals.amount) ∧
        (∀ d, close = some d → room = false →
          t.journal = { s.journal with pendingClose := some d, lowArmed := true } ∧ s.KeepsLatch t .journalLow) ∧
        (∀ d, close = some d → due = true → (room = false ∨ s.journal.pendingClose.isSome = true) →
          ∀ p, ∃ x, (t.links.get p).latched .dayCloseDeferred = some x ∧
            x.event = .dayCloseDeferred d.first d.last s.journal.available s.journal.reserved) ∧
        (∀ p, (s.links.get p).mask.getLsbD 28 = true → (t.links.get p).attention = true) ∧
        (∀ b, (t.bays.get b).state = if s.lines.estop.get b then .fault else .closed) ∧
        (∀ i, (s.tanks.get i).state = .filling → s.lines.high.get i = false →
          (t.tanks.get i).state = .filling ∧ (t.tanks.get i).inlet = true) ∧
        (∀ i, (s.tanks.get i).state = .sampling → s.lines.low.get i = false →
          (t.tanks.get i).salt = .awaited ∧ (t.tanks.get i).turb = .awaited) ∧
        (∀ c : Tank → State → Converter, (∀ i, (s.tanks.get i).sampled = false) →
          c = (fun i x =>
            if (s.tanks.get i).state = .sampling ∧ s.lines.low.get i = false then x.convSampling i else x.conv) →
          t.conv = c .b { s with conv := c .a s }) ∧
        (∀ i d, (s.tanks.get i).state = .settling → (s.tanks.get i).settleLeft = some d →
          (t.tanks.get i).settleTimer = some (s.laneTime + d)) ∧
        t = { s with part := t.part, bays := t.bays, tanks := t.tanks, conv := t.conv, journal := t.journal,
                     clock := t.clock, disp := t.disp, links := t.links, water := t.water })

/-! ### Pricing -/

/-- The amount of a visit: the subtotal is the base part plus the water part, the discount part is subtotal × discount ÷
1000 truncated, and the amount is the subtotal less it. With W ≤ 1000, a base price up to 99,999, rates up to 2000,
litres up to 32,400 and a discount up to 500 the subtotal and amount lie within 0 to 747,999, the discount part is at
most half, and a discount of 0 leaves the subtotal. A phase earns its weight DONE, its litres' share of it up to the
whole SHORT or ABORTED, and nothing SKIPPED or NOT-REACHED. Litres and fresh litres are summed over the phases DONE,
SHORT or ABORTED. The CHARGE record takes its fields from visit, bay, times and snapshot, the priced sums and parts, the
flags, and the phases in order, SKIPPED and NOT-REACHED ones with zeros and clear flags. -/
def Obligations.PricedAmount : Prop :=
  (∀ r : WorkRecord,
      r.base = (r.terms.basePrice * r.weight + 500) / 1000 ∧
      r.water = (r.fresh * r.terms.freshRate + (r.litres - r.fresh) * r.terms.reclaimRate + 99) / 100 ∧
      r.discount = (r.base + r.water) * r.terms.discount / 1000 ∧ r.amount = r.base + r.water - r.discount ∧
      (r.terms.discount ≤ 500 → 2 * r.discount ≤ r.base + r.water ∧ r.base + r.water ≤ 2 * r.amount ∧
        r.discount * 1000 ≤ (r.base + r.water) * r.terms.discount ∧
        (r.base + r.water) * r.terms.discount < (r.discount + 1) * 1000) ∧
      (r.terms.discount = 0 → r.discount = 0 ∧ r.amount = r.base + r.water) ∧
      (r.weight ≤ 1000 → r.terms.basePrice ≤ 99999 → r.terms.freshRate ≤ 2000 → r.terms.reclaimRate ≤ 2000 →
        r.litres ≤ 32400 → r.fresh ≤ r.litres → r.terms.discount ≤ 500 →
          r.base ≤ 99999 ∧ r.water ≤ 648000 ∧ r.base + r.water ≤ 747999 ∧
          (r.base + r.water) * r.terms.discount ≤ 373999500 ∧ r.amount ≤ 747999) ∧
      (r.weight = 1000 → r.base = r.terms.basePrice) ∧ (r.litres = 0 → r.fresh = 0 → r.water = 0)) ∧
  (∀ (t : PhaseTerms) (e : PhaseEntry),
      earned t e = (match e.status with
        | .done => t.weight
        | .short => min t.weight (t.weight * (e.lb + e.lf) / t.dose)
        | .aborted => min t.weight (t.weight * (e.lb + e.lf) / t.dose)
        | .skipped => 0
        | .notReached => 0) ∧ earned t e ≤ t.weight) ∧
  (∀ (r : WorkRecord) (ran : PhaseEntry → Bool), r.entries.length = r.terms.phases.length →
      ran = (fun e => e.status = .done || e.status = .short || e.status = .aborted) →
      r.litres = ((r.entries.filter ran).map fun e => e.lb + e.lf).sum ∧
      r.fresh = ((r.entries.filter ran).map (·.fk)).sum ∧
      r.weight = ((r.terms.phases.zip r.entries).map fun x => earned x.1 x.2).sum ∧
      ∀ (b : Bay) (recovered : Bool) (v : Visit) (h : Haulier) (c : Nat) (x y : DepotTime), r.visit = some v →
        v.haulier = some h → v.cls = some c → r.startTime = some x → r.endTime = some y →
        r.price b recovered =
          { visit := v.number, haulier := h, bay := b, programme := r.terms.programme, cls := c
            generation := r.terms.generation, axles := v.axles, length := v.length, tag := v.tags.head?
            plate := v.plate, callTime := r.callTime, startTime := x, endTime := y, litres := r.litres
            fresh := r.fresh, weight := r.weight, base := r.base, water := r.water, discount := r.discount
            amount := r.amount
            flags :=
              { aborted := r.abort = .presence || r.abort = .host || r.abort = .eStop || recovered
                short := r.entries.any fun e => e.status = .short
                skipped := r.entries.any fun e => e.status = .skipped
                degraded := r.entries.any fun e => ran e && e.degraded
                lost := r.entries.any fun e => ran e && e.lost
                recovered := recovered }
            phases := (r.terms.phases.zip r.entries).map fun z =>
              if ran z.2 then
                { kind := z.1.kind, status := z.2.status, rPhase := z.2.rPhase, lb := z.2.lb, lf := z.2.lf
                  fk := z.2.fk, degraded := z.2.degraded, lost := z.2.lost }
              else
                { kind := z.1.kind, status := z.2.status, rPhase := 0, lb := 0, lf := 0, fk := 0, degraded := false
                  lost := false } }) ∧
  (∀ r : WorkRecord, r.entries.length = r.terms.phases.length → (r.terms.phases.map (·.weight)).sum = 1000 →
      r.weight ≤ 1000 ∧ ((∀ e ∈ r.entries, e.status = .done) → r.weight = 1000) ∧
      ((∀ e ∈ r.entries, e.status = .skipped ∨ e.status = .notReached) → r.weight = 0 ∧ r.litres = 0 ∧ r.fresh = 0))
end

