-- ==== Sys2Proof/Laws/State.lean ====
section
/-! SUPPORT. The small lemmas of the named updates of State: one for each field and update, true by rfl; and reading back
what belongs to a port, a bay or a tank after one of them is set. -/

namespace Sys2Proof.Machine

/-! ### modLane -/

@[simp] theorem modLane_pending (s : State) (f : Lane → Lane) : (s.modLane f).pending = s.pending := rfl
@[simp] theorem modLane_timebase (s : State) (f : Lane → Lane) : (s.modLane f).timebase = s.timebase := rfl
@[simp] theorem modLane_part (s : State) (f : Lane → Lane) : (s.modLane f).part = s.part := rfl
@[simp] theorem modLane_lines (s : State) (f : Lane → Lane) : (s.modLane f).lines = s.lines := rfl
@[simp] theorem modLane_lane (s : State) (f : Lane → Lane) : (s.modLane f).lane = f s.lane := rfl
@[simp] theorem modLane_queue (s : State) (f : Lane → Lane) : (s.modLane f).queue = s.queue := rfl
@[simp] theorem modLane_nextVisit (s : State) (f : Lane → Lane) : (s.modLane f).nextVisit = s.nextVisit := rfl
@[simp] theorem modLane_register (s : State) (f : Lane → Lane) : (s.modLane f).register = s.register := rfl
@[simp] theorem modLane_hauliers (s : State) (f : Lane → Lane) : (s.modLane f).hauliers = s.hauliers := rfl
@[simp] theorem modLane_active (s : State) (f : Lane → Lane) : (s.modLane f).active = s.active := rfl
@[simp] theorem modLane_generation (s : State) (f : Lane → Lane) : (s.modLane f).generation = s.generation := rfl
@[simp] theorem modLane_staging (s : State) (f : Lane → Lane) : (s.modLane f).staging = s.staging := rfl
@[simp] theorem modLane_disp (s : State) (f : Lane → Lane) : (s.modLane f).disp = s.disp := rfl
@[simp] theorem modLane_bays (s : State) (f : Lane → Lane) : (s.modLane f).bays = s.bays := rfl
@[simp] theorem modLane_water (s : State) (f : Lane → Lane) : (s.modLane f).water = s.water := rfl
@[simp] theorem modLane_tanks (s : State) (f : Lane → Lane) : (s.modLane f).tanks = s.tanks := rfl
@[simp] theorem modLane_service (s : State) (f : Lane → Lane) : (s.modLane f).service = s.service := rfl
@[simp] theorem modLane_conv (s : State) (f : Lane → Lane) : (s.modLane f).conv = s.conv := rfl
@[simp] theorem modLane_journal (s : State) (f : Lane → Lane) : (s.modLane f).journal = s.journal := rfl
@[simp] theorem modLane_clock (s : State) (f : Lane → Lane) : (s.modLane f).clock = s.clock := rfl
@[simp] theorem modLane_links (s : State) (f : Lane → Lane) : (s.modLane f).links = s.links := rfl
@[simp] theorem modLane_store (s : State) (f : Lane → Lane) : (s.modLane f).store = s.store := rfl

/-! ### modMeas -/

@[simp] theorem modMeas_pending (s : State) (f : Measurement → Measurement) : (s.modMeas f).pending = s.pending := rfl
@[simp] theorem modMeas_timebase (s : State) (f : Measurement → Measurement) :
    (s.modMeas f).timebase = s.timebase := rfl
@[simp] theorem modMeas_part (s : State) (f : Measurement → Measurement) : (s.modMeas f).part = s.part := rfl
@[simp] theorem modMeas_lines (s : State) (f : Measurement → Measurement) : (s.modMeas f).lines = s.lines := rfl
@[simp] theorem modMeas_lane (s : State) (f : Measurement → Measurement) :
    (s.modMeas f).lane = { s.lane with meas := s.lane.meas.map f } := rfl
@[simp] theorem modMeas_queue (s : State) (f : Measurement → Measurement) : (s.modMeas f).queue = s.queue := rfl
@[simp] theorem modMeas_nextVisit (s : State) (f : Measurement → Measurement) :
    (s.modMeas f).nextVisit = s.nextVisit := rfl
@[simp] theorem modMeas_register (s : State) (f : Measurement → Measurement) :
    (s.modMeas f).register = s.register := rfl
@[simp] theorem modMeas_hauliers (s : State) (f : Measurement → Measurement) :
    (s.modMeas f).hauliers = s.hauliers := rfl
@[simp] theorem modMeas_active (s : State) (f : Measurement → Measurement) : (s.modMeas f).active = s.active := rfl
@[simp] theorem modMeas_generation (s : State) (f : Measurement → Measurement) :
    (s.modMeas f).generation = s.generation := rfl
@[simp] theorem modMeas_staging (s : State) (f : Measurement → Measurement) : (s.modMeas f).staging = s.staging := rfl
@[simp] theorem modMeas_disp (s : State) (f : Measurement → Measurement) : (s.modMeas f).disp = s.disp := rfl
@[simp] theorem modMeas_bays (s : State) (f : Measurement → Measurement) : (s.modMeas f).bays = s.bays := rfl
@[simp] theorem modMeas_water (s : State) (f : Measurement → Measurement) : (s.modMeas f).water = s.water := rfl
@[simp] theorem modMeas_tanks (s : State) (f : Measurement → Measurement) : (s.modMeas f).tanks = s.tanks := rfl
@[simp] theorem modMeas_service (s : State) (f : Measurement → Measurement) : (s.modMeas f).service = s.service := rfl
@[simp] theorem modMeas_conv (s : State) (f : Measurement → Measurement) : (s.modMeas f).conv = s.conv := rfl
@[simp] theorem modMeas_journal (s : State) (f : Measurement → Measurement) : (s.modMeas f).journal = s.journal := rfl
@[simp] theorem modMeas_clock (s : State) (f : Measurement → Measurement) : (s.modMeas f).clock = s.clock := rfl
@[simp] theorem modMeas_links (s : State) (f : Measurement → Measurement) : (s.modMeas f).links = s.links := rfl
@[simp] theorem modMeas_store (s : State) (f : Measurement → Measurement) : (s.modMeas f).store = s.store := rfl

/-! ### modDisp -/

@[simp] theorem modDisp_pending (s : State) (f : Dispatcher → Dispatcher) : (s.modDisp f).pending = s.pending := rfl
@[simp] theorem modDisp_timebase (s : State) (f : Dispatcher → Dispatcher) :
    (s.modDisp f).timebase = s.timebase := rfl
@[simp] theorem modDisp_part (s : State) (f : Dispatcher → Dispatcher) : (s.modDisp f).part = s.part := rfl
@[simp] theorem modDisp_lines (s : State) (f : Dispatcher → Dispatcher) : (s.modDisp f).lines = s.lines := rfl
@[simp] theorem modDisp_lane (s : State) (f : Dispatcher → Dispatcher) : (s.modDisp f).lane = s.lane := rfl
@[simp] theorem modDisp_queue (s : State) (f : Dispatcher → Dispatcher) : (s.modDisp f).queue = s.queue := rfl
@[simp] theorem modDisp_nextVisit (s : State) (f : Dispatcher → Dispatcher) :
    (s.modDisp f).nextVisit = s.nextVisit := rfl
@[simp] theorem modDisp_register (s : State) (f : Dispatcher → Dispatcher) :
    (s.modDisp f).register = s.register := rfl
@[simp] theorem modDisp_hauliers (s : State) (f : Dispatcher → Dispatcher) :
    (s.modDisp f).hauliers = s.hauliers := rfl
@[simp] theorem modDisp_active (s : State) (f : Dispatcher → Dispatcher) : (s.modDisp f).active = s.active := rfl
@[simp] theorem modDisp_generation (s : State) (f : Dispatcher → Dispatcher) :
    (s.modDisp f).generation = s.generation := rfl
@[simp] theorem modDisp_staging (s : State) (f : Dispatcher → Dispatcher) : (s.modDisp f).staging = s.staging := rfl
@[simp] theorem modDisp_disp (s : State) (f : Dispatcher → Dispatcher) : (s.modDisp f).disp = f s.disp := rfl
@[simp] theorem modDisp_bays (s : State) (f : Dispatcher → Dispatcher) : (s.modDisp f).bays = s.bays := rfl
@[simp] theorem modDisp_water (s : State) (f : Dispatcher → Dispatcher) : (s.modDisp f).water = s.water := rfl
@[simp] theorem modDisp_tanks (s : State) (f : Dispatcher → Dispatcher) : (s.modDisp f).tanks = s.tanks := rfl
@[simp] theorem modDisp_service (s : State) (f : Dispatcher → Dispatcher) : (s.modDisp f).service = s.service := rfl
@[simp] theorem modDisp_conv (s : State) (f : Dispatcher → Dispatcher) : (s.modDisp f).conv = s.conv := rfl
@[simp] theorem modDisp_journal (s : State) (f : Dispatcher → Dispatcher) : (s.modDisp f).journal = s.journal := rfl
@[simp] theorem modDisp_clock (s : State) (f : Dispatcher → Dispatcher) : (s.modDisp f).clock = s.clock := rfl
@[simp] theorem modDisp_links (s : State) (f : Dispatcher → Dispatcher) : (s.modDisp f).links = s.links := rfl
@[simp] theorem modDisp_store (s : State) (f : Dispatcher → Dispatcher) : (s.modDisp f).store = s.store := rfl

/-! ### requestPass -/

@[simp] theorem requestPass_pending (s : State) : (s.requestPass).pending = s.pending := rfl
@[simp] theorem requestPass_timebase (s : State) : (s.requestPass).timebase = s.timebase := rfl
@[simp] theorem requestPass_part (s : State) : (s.requestPass).part = s.part := rfl
@[simp] theorem requestPass_lines (s : State) : (s.requestPass).lines = s.lines := rfl
@[simp] theorem requestPass_lane (s : State) : (s.requestPass).lane = s.lane := rfl
@[simp] theorem requestPass_queue (s : State) : (s.requestPass).queue = s.queue := rfl
@[simp] theorem requestPass_nextVisit (s : State) : (s.requestPass).nextVisit = s.nextVisit := rfl
@[simp] theorem requestPass_register (s : State) : (s.requestPass).register = s.register := rfl
@[simp] theorem requestPass_hauliers (s : State) : (s.requestPass).hauliers = s.hauliers := rfl
@[simp] theorem requestPass_active (s : State) : (s.requestPass).active = s.active := rfl
@[simp] theorem requestPass_generation (s : State) : (s.requestPass).generation = s.generation := rfl
@[simp] theorem requestPass_staging (s : State) : (s.requestPass).staging = s.staging := rfl
@[simp] theorem requestPass_disp (s : State) : (s.requestPass).disp = { s.disp with mark := true } := rfl
@[simp] theorem requestPass_bays (s : State) : (s.requestPass).bays = s.bays := rfl
@[simp] theorem requestPass_water (s : State) : (s.requestPass).water = s.water := rfl
@[simp] theorem requestPass_tanks (s : State) : (s.requestPass).tanks = s.tanks := rfl
@[simp] theorem requestPass_service (s : State) : (s.requestPass).service = s.service := rfl
@[simp] theorem requestPass_conv (s : State) : (s.requestPass).conv = s.conv := rfl
@[simp] theorem requestPass_journal (s : State) : (s.requestPass).journal = s.journal := rfl
@[simp] theorem requestPass_clock (s : State) : (s.requestPass).clock = s.clock := rfl
@[simp] theorem requestPass_links (s : State) : (s.requestPass).links = s.links := rfl
@[simp] theorem requestPass_store (s : State) : (s.requestPass).store = s.store := rfl

/-! ### modWater -/

@[simp] theorem modWater_pending (s : State) (f : Resources → Resources) : (s.modWater f).pending = s.pending := rfl
@[simp] theorem modWater_timebase (s : State) (f : Resources → Resources) :
    (s.modWater f).timebase = s.timebase := rfl
@[simp] theorem modWater_part (s : State) (f : Resources → Resources) : (s.modWater f).part = s.part := rfl
@[simp] theorem modWater_lines (s : State) (f : Resources → Resources) : (s.modWater f).lines = s.lines := rfl
@[simp] theorem modWater_lane (s : State) (f : Resources → Resources) : (s.modWater f).lane = s.lane := rfl
@[simp] theorem modWater_queue (s : State) (f : Resources → Resources) : (s.modWater f).queue = s.queue := rfl
@[simp] theorem modWater_nextVisit (s : State) (f : Resources → Resources) :
    (s.modWater f).nextVisit = s.nextVisit := rfl
@[simp] theorem modWater_register (s : State) (f : Resources → Resources) :
    (s.modWater f).register = s.register := rfl
@[simp] theorem modWater_hauliers (s : State) (f : Resources → Resources) :
    (s.modWater f).hauliers = s.hauliers := rfl
@[simp] theorem modWater_active (s : State) (f : Resources → Resources) : (s.modWater f).active = s.active := rfl
@[simp] theorem modWater_generation (s : State) (f : Resources → Resources) :
    (s.modWater f).generation = s.generation := rfl
@[simp] theorem modWater_staging (s : State) (f : Resources → Resources) : (s.modWater f).staging = s.staging := rfl
@[simp] theorem modWater_disp (s : State) (f : Resources → Resources) : (s.modWater f).disp = s.disp := rfl
@[simp] theorem modWater_bays (s : State) (f : Resources → Resources) : (s.modWater f).bays = s.bays := rfl
@[simp] theorem modWater_water (s : State) (f : Resources → Resources) : (s.modWater f).water = f s.water := rfl
@[simp] theorem modWater_tanks (s : State) (f : Resources → Resources) : (s.modWater f).tanks = s.tanks := rfl
@[simp] theorem modWater_service (s : State) (f : Resources → Resources) : (s.modWater f).service = s.service := rfl
@[simp] theorem modWater_conv (s : State) (f : Resources → Resources) : (s.modWater f).conv = s.conv := rfl
@[simp] theorem modWater_journal (s : State) (f : Resources → Resources) : (s.modWater f).journal = s.journal := rfl
@[simp] theorem modWater_clock (s : State) (f : Resources → Resources) : (s.modWater f).clock = s.clock := rfl
@[simp] theorem modWater_links (s : State) (f : Resources → Resources) : (s.modWater f).links = s.links := rfl
@[simp] theorem modWater_store (s : State) (f : Resources → Resources) : (s.modWater f).store = s.store := rfl

/-! ### modBay -/

@[simp] theorem modBay_pending (s : State) (b : Bay) (f : BayUnit → BayUnit) :
    (s.modBay b f).pending = s.pending := rfl
@[simp] theorem modBay_timebase (s : State) (b : Bay) (f : BayUnit → BayUnit) :
    (s.modBay b f).timebase = s.timebase := rfl
@[simp] theorem modBay_part (s : State) (b : Bay) (f : BayUnit → BayUnit) : (s.modBay b f).part = s.part := rfl
@[simp] theorem modBay_lines (s : State) (b : Bay) (f : BayUnit → BayUnit) : (s.modBay b f).lines = s.lines := rfl
@[simp] theorem modBay_lane (s : State) (b : Bay) (f : BayUnit → BayUnit) : (s.modBay b f).lane = s.lane := rfl
@[simp] theorem modBay_queue (s : State) (b : Bay) (f : BayUnit → BayUnit) : (s.modBay b f).queue = s.queue := rfl
@[simp] theorem modBay_nextVisit (s : State) (b : Bay) (f : BayUnit → BayUnit) :
    (s.modBay b f).nextVisit = s.nextVisit := rfl
@[simp] theorem modBay_register (s : State) (b : Bay) (f : BayUnit → BayUnit) :
    (s.modBay b f).register = s.register := rfl
@[simp] theorem modBay_hauliers (s : State) (b : Bay) (f : BayUnit → BayUnit) :
    (s.modBay b f).hauliers = s.hauliers := rfl
@[simp] theorem modBay_active (s : State) (b : Bay) (f : BayUnit → BayUnit) : (s.modBay b f).active = s.active := rfl
@[simp] theorem modBay_generation (s : State) (b : Bay) (f : BayUnit → BayUnit) :
    (s.modBay b f).generation = s.generation := rfl
@[simp] theorem modBay_staging (s : State) (b : Bay) (f : BayUnit → BayUnit) :
    (s.modBay b f).staging = s.staging := rfl
@[simp] theorem modBay_disp (s : State) (b : Bay) (f : BayUnit → BayUnit) : (s.modBay b f).disp = s.disp := rfl
@[simp] theorem modBay_bays (s : State) (b : Bay) (f : BayUnit → BayUnit) :
    (s.modBay b f).bays = s.bays.set b (f (s.bays.get b)) := rfl
@[simp] theorem modBay_water (s : State) (b : Bay) (f : BayUnit → BayUnit) : (s.modBay b f).water = s.water := rfl
@[simp] theorem modBay_tanks (s : State) (b : Bay) (f : BayUnit → BayUnit) : (s.modBay b f).tanks = s.tanks := rfl
@[simp] theorem modBay_service (s : State) (b : Bay) (f : BayUnit → BayUnit) :
    (s.modBay b f).service = s.service := rfl
@[simp] theorem modBay_conv (s : State) (b : Bay) (f : BayUnit → BayUnit) : (s.modBay b f).conv = s.conv := rfl
@[simp] theorem modBay_journal (s : State) (b : Bay) (f : BayUnit → BayUnit) :
    (s.modBay b f).journal = s.journal := rfl
@[simp] theorem modBay_clock (s : State) (b : Bay) (f : BayUnit → BayUnit) : (s.modBay b f).clock = s.clock := rfl
@[simp] theorem modBay_links (s : State) (b : Bay) (f : BayUnit → BayUnit) : (s.modBay b f).links = s.links := rfl
@[simp] theorem modBay_store (s : State) (b : Bay) (f : BayUnit → BayUnit) : (s.modBay b f).store = s.store := rfl

/-! ### modRecord -/

@[simp] theorem modRecord_pending (s : State) (b : Bay) (f : WorkRecord → WorkRecord) :
    (s.modRecord b f).pending = s.pending := rfl
@[simp] theorem modRecord_timebase (s : State) (b : Bay) (f : WorkRecord → WorkRecord) :
    (s.modRecord b f).timebase = s.timebase := rfl
@[simp] theorem modRecord_part (s : State) (b : Bay) (f : WorkRecord → WorkRecord) :
    (s.modRecord b f).part = s.part := rfl
@[simp] theorem modRecord_lines (s : State) (b : Bay) (f : WorkRecord → WorkRecord) :
    (s.modRecord b f).lines = s.lines := rfl
@[simp] theorem modRecord_lane (s : State) (b : Bay) (f : WorkRecord → WorkRecord) :
    (s.modRecord b f).lane = s.lane := rfl
@[simp] theorem modRecord_queue (s : State) (b : Bay) (f : WorkRecord → WorkRecord) :
    (s.modRecord b f).queue = s.queue := rfl
@[simp] theorem modRecord_nextVisit (s : State) (b : Bay) (f : WorkRecord → WorkRecord) :
    (s.modRecord b f).nextVisit = s.nextVisit := rfl
@[simp] theorem modRecord_register (s : State) (b : Bay) (f : WorkRecord → WorkRecord) :
    (s.modRecord b f).register = s.register := rfl
@[simp] theorem modRecord_hauliers (s : State) (b : Bay) (f : WorkRecord → WorkRecord) :
    (s.modRecord b f).hauliers = s.hauliers := rfl
@[simp] theorem modRecord_active (s : State) (b : Bay) (f : WorkRecord → WorkRecord) :
    (s.modRecord b f).active = s.active := rfl
@[simp] theorem modRecord_generation (s : State) (b : Bay) (f : WorkRecord → WorkRecord) :
    (s.modRecord b f).generation = s.generation := rfl
@[simp] theorem modRecord_staging (s : State) (b : Bay) (f : WorkRecord → WorkRecord) :
    (s.modRecord b f).staging = s.staging := rfl
@[simp] theorem modRecord_disp (s : State) (b : Bay) (f : WorkRecord → WorkRecord) :
    (s.modRecord b f).disp = s.disp := rfl
@[simp] theorem modRecord_bays (s : State) (b : Bay) (f : WorkRecord → WorkRecord) :
    (s.modRecord b f).bays = s.bays.set b { s.bays.get b with record := (s.bays.get b).record.map f } := rfl
@[simp] theorem modRecord_water (s : State) (b : Bay) (f : WorkRecord → WorkRecord) :
    (s.modRecord b f).water = s.water := rfl
@[simp] theorem modRecord_tanks (s : State) (b : Bay) (f : WorkRecord → WorkRecord) :
    (s.modRecord b f).tanks = s.tanks := rfl
@[simp] theorem modRecord_service (s : State) (b : Bay) (f : WorkRecord → WorkRecord) :
    (s.modRecord b f).service = s.service := rfl
@[simp] theorem modRecord_conv (s : State) (b : Bay) (f : WorkRecord → WorkRecord) :
    (s.modRecord b f).conv = s.conv := rfl
@[simp] theorem modRecord_journal (s : State) (b : Bay) (f : WorkRecord → WorkRecord) :
    (s.modRecord b f).journal = s.journal := rfl
@[simp] theorem modRecord_clock (s : State) (b : Bay) (f : WorkRecord → WorkRecord) :
    (s.modRecord b f).clock = s.clock := rfl
@[simp] theorem modRecord_links (s : State) (b : Bay) (f : WorkRecord → WorkRecord) :
    (s.modRecord b f).links = s.links := rfl
@[simp] theorem modRecord_store (s : State) (b : Bay) (f : WorkRecord → WorkRecord) :
    (s.modRecord b f).store = s.store := rfl

/-! ### modTank -/

@[simp] theorem modTank_pending (s : State) (t : Tank) (f : TankUnit → TankUnit) :
    (s.modTank t f).pending = s.pending := rfl
@[simp] theorem modTank_timebase (s : State) (t : Tank) (f : TankUnit → TankUnit) :
    (s.modTank t f).timebase = s.timebase := rfl
@[simp] theorem modTank_part (s : State) (t : Tank) (f : TankUnit → TankUnit) : (s.modTank t f).part = s.part := rfl
@[simp] theorem modTank_lines (s : State) (t : Tank) (f : TankUnit → TankUnit) :
    (s.modTank t f).lines = s.lines := rfl
@[simp] theorem modTank_lane (s : State) (t : Tank) (f : TankUnit → TankUnit) : (s.modTank t f).lane = s.lane := rfl
@[simp] theorem modTank_queue (s : State) (t : Tank) (f : TankUnit → TankUnit) :
    (s.modTank t f).queue = s.queue := rfl
@[simp] theorem modTank_nextVisit (s : State) (t : Tank) (f : TankUnit → TankUnit) :
    (s.modTank t f).nextVisit = s.nextVisit := rfl
@[simp] theorem modTank_register (s : State) (t : Tank) (f : TankUnit → TankUnit) :
    (s.modTank t f).register = s.register := rfl
@[simp] theorem modTank_hauliers (s : State) (t : Tank) (f : TankUnit → TankUnit) :
    (s.modTank t f).hauliers = s.hauliers := rfl
@[simp] theorem modTank_active (s : State) (t : Tank) (f : TankUnit → TankUnit) :
    (s.modTank t f).active = s.active := rfl
@[simp] theorem modTank_generation (s : State) (t : Tank) (f : TankUnit → TankUnit) :
    (s.modTank t f).generation = s.generation := rfl
@[simp] theorem modTank_staging (s : State) (t : Tank) (f : TankUnit → TankUnit) :
    (s.modTank t f).staging = s.staging := rfl
@[simp] theorem modTank_disp (s : State) (t : Tank) (f : TankUnit → TankUnit) : (s.modTank t f).disp = s.disp := rfl
@[simp] theorem modTank_bays (s : State) (t : Tank) (f : TankUnit → TankUnit) : (s.modTank t f).bays = s.bays := rfl
@[simp] theorem modTank_water (s : State) (t : Tank) (f : TankUnit → TankUnit) :
    (s.modTank t f).water = s.water := rfl
@[simp] theorem modTank_tanks (s : State) (t : Tank) (f : TankUnit → TankUnit) :
    (s.modTank t f).tanks = s.tanks.set t (f (s.tanks.get t)) := rfl
@[simp] theorem modTank_service (s : State) (t : Tank) (f : TankUnit → TankUnit) :
    (s.modTank t f).service = s.service := rfl
@[simp] theorem modTank_conv (s : State) (t : Tank) (f : TankUnit → TankUnit) : (s.modTank t f).conv = s.conv := rfl
@[simp] theorem modTank_journal (s : State) (t : Tank) (f : TankUnit → TankUnit) :
    (s.modTank t f).journal = s.journal := rfl
@[simp] theorem modTank_clock (s : State) (t : Tank) (f : TankUnit → TankUnit) :
    (s.modTank t f).clock = s.clock := rfl
@[simp] theorem modTank_links (s : State) (t : Tank) (f : TankUnit → TankUnit) :
    (s.modTank t f).links = s.links := rfl
@[simp] theorem modTank_store (s : State) (t : Tank) (f : TankUnit → TankUnit) :
    (s.modTank t f).store = s.store := rfl

/-! ### modConv -/

@[simp] theorem modConv_pending (s : State) (f : Converter → Converter) : (s.modConv f).pending = s.pending := rfl
@[simp] theorem modConv_timebase (s : State) (f : Converter → Converter) : (s.modConv f).timebase = s.timebase := rfl
@[simp] theorem modConv_part (s : State) (f : Converter → Converter) : (s.modConv f).part = s.part := rfl
@[simp] theorem modConv_lines (s : State) (f : Converter → Converter) : (s.modConv f).lines = s.lines := rfl
@[simp] theorem modConv_lane (s : State) (f : Converter → Converter) : (s.modConv f).lane = s.lane := rfl
@[simp] theorem modConv_queue (s : State) (f : Converter → Converter) : (s.modConv f).queue = s.queue := rfl
@[simp] theorem modConv_nextVisit (s : State) (f : Converter → Converter) :
    (s.modConv f).nextVisit = s.nextVisit := rfl
@[simp] theorem modConv_register (s : State) (f : Converter → Converter) : (s.modConv f).register = s.register := rfl
@[simp] theorem modConv_hauliers (s : State) (f : Converter → Converter) : (s.modConv f).hauliers = s.hauliers := rfl
@[simp] theorem modConv_active (s : State) (f : Converter → Converter) : (s.modConv f).active = s.active := rfl
@[simp] theorem modConv_generation (s : State) (f : Converter → Converter) :
    (s.modConv f).generation = s.generation := rfl
@[simp] theorem modConv_staging (s : State) (f : Converter → Converter) : (s.modConv f).staging = s.staging := rfl
@[simp] theorem modConv_disp (s : State) (f : Converter → Converter) : (s.modConv f).disp = s.disp := rfl
@[simp] theorem modConv_bays (s : State) (f : Converter → Converter) : (s.modConv f).bays = s.bays := rfl
@[simp] theorem modConv_water (s : State) (f : Converter → Converter) : (s.modConv f).water = s.water := rfl
@[simp] theorem modConv_tanks (s : State) (f : Converter → Converter) : (s.modConv f).tanks = s.tanks := rfl
@[simp] theorem modConv_service (s : State) (f : Converter → Converter) : (s.modConv f).service = s.service := rfl
@[simp] theorem modConv_conv (s : State) (f : Converter → Converter) : (s.modConv f).conv = f s.conv := rfl
@[simp] theorem modConv_journal (s : State) (f : Converter → Converter) : (s.modConv f).journal = s.journal := rfl
@[simp] theorem modConv_clock (s : State) (f : Converter → Converter) : (s.modConv f).clock = s.clock := rfl
@[simp] theorem modConv_links (s : State) (f : Converter → Converter) : (s.modConv f).links = s.links := rfl
@[simp] theorem modConv_store (s : State) (f : Converter → Converter) : (s.modConv f).store = s.store := rfl

/-! ### modJournal -/

@[simp] theorem modJournal_pending (s : State) (f : Journal → Journal) : (s.modJournal f).pending = s.pending := rfl
@[simp] theorem modJournal_timebase (s : State) (f : Journal → Journal) :
    (s.modJournal f).timebase = s.timebase := rfl
@[simp] theorem modJournal_part (s : State) (f : Journal → Journal) : (s.modJournal f).part = s.part := rfl
@[simp] theorem modJournal_lines (s : State) (f : Journal → Journal) : (s.modJournal f).lines = s.lines := rfl
@[simp] theorem modJournal_lane (s : State) (f : Journal → Journal) : (s.modJournal f).lane = s.lane := rfl
@[simp] theorem modJournal_queue (s : State) (f : Journal → Journal) : (s.modJournal f).queue = s.queue := rfl
@[simp] theorem modJournal_nextVisit (s : State) (f : Journal → Journal) :
    (s.modJournal f).nextVisit = s.nextVisit := rfl
@[simp] theorem modJournal_register (s : State) (f : Journal → Journal) :
    (s.modJournal f).register = s.register := rfl
@[simp] theorem modJournal_hauliers (s : State) (f : Journal → Journal) :
    (s.modJournal f).hauliers = s.hauliers := rfl
@[simp] theorem modJournal_active (s : State) (f : Journal → Journal) : (s.modJournal f).active = s.active := rfl
@[simp] theorem modJournal_generation (s : State) (f : Journal → Journal) :
    (s.modJournal f).generation = s.generation := rfl
@[simp] theorem modJournal_staging (s : State) (f : Journal → Journal) : (s.modJournal f).staging = s.staging := rfl
@[simp] theorem modJournal_disp (s : State) (f : Journal → Journal) : (s.modJournal f).disp = s.disp := rfl
@[simp] theorem modJournal_bays (s : State) (f : Journal → Journal) : (s.modJournal f).bays = s.bays := rfl
@[simp] theorem modJournal_water (s : State) (f : Journal → Journal) : (s.modJournal f).water = s.water := rfl
@[simp] theorem modJournal_tanks (s : State) (f : Journal → Journal) : (s.modJournal f).tanks = s.tanks := rfl
@[simp] theorem modJournal_service (s : State) (f : Journal → Journal) : (s.modJournal f).service = s.service := rfl
@[simp] theorem modJournal_conv (s : State) (f : Journal → Journal) : (s.modJournal f).conv = s.conv := rfl
@[simp] theorem modJournal_journal (s : State) (f : Journal → Journal) : (s.modJournal f).journal = f s.journal := rfl
@[simp] theorem modJournal_clock (s : State) (f : Journal → Journal) : (s.modJournal f).clock = s.clock := rfl
@[simp] theorem modJournal_links (s : State) (f : Journal → Journal) : (s.modJournal f).links = s.links := rfl
@[simp] theorem modJournal_store (s : State) (f : Journal → Journal) : (s.modJournal f).store = s.store := rfl

/-! ### modClock -/

@[simp] theorem modClock_pending (s : State) (f : Clock → Clock) : (s.modClock f).pending = s.pending := rfl
@[simp] theorem modClock_timebase (s : State) (f : Clock → Clock) : (s.modClock f).timebase = s.timebase := rfl
@[simp] theorem modClock_part (s : State) (f : Clock → Clock) : (s.modClock f).part = s.part := rfl
@[simp] theorem modClock_lines (s : State) (f : Clock → Clock) : (s.modClock f).lines = s.lines := rfl
@[simp] theorem modClock_lane (s : State) (f : Clock → Clock) : (s.modClock f).lane = s.lane := rfl
@[simp] theorem modClock_queue (s : State) (f : Clock → Clock) : (s.modClock f).queue = s.queue := rfl
@[simp] theorem modClock_nextVisit (s : State) (f : Clock → Clock) : (s.modClock f).nextVisit = s.nextVisit := rfl
@[simp] theorem modClock_register (s : State) (f : Clock → Clock) : (s.modClock f).register = s.register := rfl
@[simp] theorem modClock_hauliers (s : State) (f : Clock → Clock) : (s.modClock f).hauliers = s.hauliers := rfl
@[simp] theorem modClock_active (s : State) (f : Clock → Clock) : (s.modClock f).active = s.active := rfl
@[simp] theorem modClock_generation (s : State) (f : Clock → Clock) : (s.modClock f).generation = s.generation := rfl
@[simp] theorem modClock_staging (s : State) (f : Clock → Clock) : (s.modClock f).staging = s.staging := rfl
@[simp] theorem modClock_disp (s : State) (f : Clock → Clock) : (s.modClock f).disp = s.disp := rfl
@[simp] theorem modClock_bays (s : State) (f : Clock → Clock) : (s.modClock f).bays = s.bays := rfl
@[simp] theorem modClock_water (s : State) (f : Clock → Clock) : (s.modClock f).water = s.water := rfl
@[simp] theorem modClock_tanks (s : State) (f : Clock → Clock) : (s.modClock f).tanks = s.tanks := rfl
@[simp] theorem modClock_service (s : State) (f : Clock → Clock) : (s.modClock f).service = s.service := rfl
@[simp] theorem modClock_conv (s : State) (f : Clock → Clock) : (s.modClock f).conv = s.conv := rfl
@[simp] theorem modClock_journal (s : State) (f : Clock → Clock) : (s.modClock f).journal = s.journal := rfl
@[simp] theorem modClock_clock (s : State) (f : Clock → Clock) : (s.modClock f).clock = f s.clock := rfl
@[simp] theorem modClock_links (s : State) (f : Clock → Clock) : (s.modClock f).links = s.links := rfl
@[simp] theorem modClock_store (s : State) (f : Clock → Clock) : (s.modClock f).store = s.store := rfl

/-! ### modLink -/

@[simp] theorem modLink_pending (s : State) (p : Port) (f : Link → Link) : (s.modLink p f).pending = s.pending := rfl
@[simp] theorem modLink_timebase (s : State) (p : Port) (f : Link → Link) :
    (s.modLink p f).timebase = s.timebase := rfl
@[simp] theorem modLink_part (s : State) (p : Port) (f : Link → Link) : (s.modLink p f).part = s.part := rfl
@[simp] theorem modLink_lines (s : State) (p : Port) (f : Link → Link) : (s.modLink p f).lines = s.lines := rfl
@[simp] theorem modLink_lane (s : State) (p : Port) (f : Link → Link) : (s.modLink p f).lane = s.lane := rfl
@[simp] theorem modLink_queue (s : State) (p : Port) (f : Link → Link) : (s.modLink p f).queue = s.queue := rfl
@[simp] theorem modLink_nextVisit (s : State) (p : Port) (f : Link → Link) :
    (s.modLink p f).nextVisit = s.nextVisit := rfl
@[simp] theorem modLink_register (s : State) (p : Port) (f : Link → Link) :
    (s.modLink p f).register = s.register := rfl
@[simp] theorem modLink_hauliers (s : State) (p : Port) (f : Link → Link) :
    (s.modLink p f).hauliers = s.hauliers := rfl
@[simp] theorem modLink_active (s : State) (p : Port) (f : Link → Link) : (s.modLink p f).active = s.active := rfl
@[simp] theorem modLink_generation (s : State) (p : Port) (f : Link → Link) :
    (s.modLink p f).generation = s.generation := rfl
@[simp] theorem modLink_staging (s : State) (p : Port) (f : Link → Link) : (s.modLink p f).staging = s.staging := rfl
@[simp] theorem modLink_disp (s : State) (p : Port) (f : Link → Link) : (s.modLink p f).disp = s.disp := rfl
@[simp] theorem modLink_bays (s : State) (p : Port) (f : Link → Link) : (s.modLink p f).bays = s.bays := rfl
@[simp] theorem modLink_water (s : State) (p : Port) (f : Link → Link) : (s.modLink p f).water = s.water := rfl
@[simp] theorem modLink_tanks (s : State) (p : Port) (f : Link → Link) : (s.modLink p f).tanks = s.tanks := rfl
@[simp] theorem modLink_service (s : State) (p : Port) (f : Link → Link) : (s.modLink p f).service = s.service := rfl
@[simp] theorem modLink_conv (s : State) (p : Port) (f : Link → Link) : (s.modLink p f).conv = s.conv := rfl
@[simp] theorem modLink_journal (s : State) (p : Port) (f : Link → Link) : (s.modLink p f).journal = s.journal := rfl
@[simp] theorem modLink_clock (s : State) (p : Port) (f : Link → Link) : (s.modLink p f).clock = s.clock := rfl
@[simp] theorem modLink_links (s : State) (p : Port) (f : Link → Link) :
    (s.modLink p f).links = s.links.set p (f (s.links.get p)) := rfl
@[simp] theorem modLink_store (s : State) (p : Port) (f : Link → Link) : (s.modLink p f).store = s.store := rfl

/-! ### modLines -/

@[simp] theorem modLines_pending (s : State) (f : Lines → Lines) : (s.modLines f).pending = s.pending := rfl
@[simp] theorem modLines_timebase (s : State) (f : Lines → Lines) : (s.modLines f).timebase = s.timebase := rfl
@[simp] theorem modLines_part (s : State) (f : Lines → Lines) : (s.modLines f).part = s.part := rfl
@[simp] theorem modLines_lines (s : State) (f : Lines → Lines) : (s.modLines f).lines = f s.lines := rfl
@[simp] theorem modLines_lane (s : State) (f : Lines → Lines) : (s.modLines f).lane = s.lane := rfl
@[simp] theorem modLines_queue (s : State) (f : Lines → Lines) : (s.modLines f).queue = s.queue := rfl
@[simp] theorem modLines_nextVisit (s : State) (f : Lines → Lines) : (s.modLines f).nextVisit = s.nextVisit := rfl
@[simp] theorem modLines_register (s : State) (f : Lines → Lines) : (s.modLines f).register = s.register := rfl
@[simp] theorem modLines_hauliers (s : State) (f : Lines → Lines) : (s.modLines f).hauliers = s.hauliers := rfl
@[simp] theorem modLines_active (s : State) (f : Lines → Lines) : (s.modLines f).active = s.active := rfl
@[simp] theorem modLines_generation (s : State) (f : Lines → Lines) : (s.modLines f).generation = s.generation := rfl
@[simp] theorem modLines_staging (s : State) (f : Lines → Lines) : (s.modLines f).staging = s.staging := rfl
@[simp] theorem modLines_disp (s : State) (f : Lines → Lines) : (s.modLines f).disp = s.disp := rfl
@[simp] theorem modLines_bays (s : State) (f : Lines → Lines) : (s.modLines f).bays = s.bays := rfl
@[simp] theorem modLines_water (s : State) (f : Lines → Lines) : (s.modLines f).water = s.water := rfl
@[simp] theorem modLines_tanks (s : State) (f : Lines → Lines) : (s.modLines f).tanks = s.tanks := rfl
@[simp] theorem modLines_service (s : State) (f : Lines → Lines) : (s.modLines f).service = s.service := rfl
@[simp] theorem modLines_conv (s : State) (f : Lines → Lines) : (s.modLines f).conv = s.conv := rfl
@[simp] theorem modLines_journal (s : State) (f : Lines → Lines) : (s.modLines f).journal = s.journal := rfl
@[simp] theorem modLines_clock (s : State) (f : Lines → Lines) : (s.modLines f).clock = s.clock := rfl
@[simp] theorem modLines_links (s : State) (f : Lines → Lines) : (s.modLines f).links = s.links := rfl
@[simp] theorem modLines_store (s : State) (f : Lines → Lines) : (s.modLines f).store = s.store := rfl

/-! ### latch -/

@[simp] theorem latch_pending (s : State) (e : Event) : (s.latch e).pending = s.pending := rfl
@[simp] theorem latch_timebase (s : State) (e : Event) : (s.latch e).timebase = s.timebase := rfl
@[simp] theorem latch_part (s : State) (e : Event) : (s.latch e).part = s.part := rfl
@[simp] theorem latch_lines (s : State) (e : Event) : (s.latch e).lines = s.lines := rfl
@[simp] theorem latch_lane (s : State) (e : Event) : (s.latch e).lane = s.lane := rfl
@[simp] theorem latch_queue (s : State) (e : Event) : (s.latch e).queue = s.queue := rfl
@[simp] theorem latch_nextVisit (s : State) (e : Event) : (s.latch e).nextVisit = s.nextVisit := rfl
@[simp] theorem latch_register (s : State) (e : Event) : (s.latch e).register = s.register := rfl
@[simp] theorem latch_hauliers (s : State) (e : Event) : (s.latch e).hauliers = s.hauliers := rfl
@[simp] theorem latch_active (s : State) (e : Event) : (s.latch e).active = s.active := rfl
@[simp] theorem latch_generation (s : State) (e : Event) : (s.latch e).generation = s.generation := rfl
@[simp] theorem latch_staging (s : State) (e : Event) : (s.latch e).staging = s.staging := rfl
@[simp] theorem latch_disp (s : State) (e : Event) : (s.latch e).disp = s.disp := rfl
@[simp] theorem latch_bays (s : State) (e : Event) : (s.latch e).bays = s.bays := rfl
@[simp] theorem latch_water (s : State) (e : Event) : (s.latch e).water = s.water := rfl
@[simp] theorem latch_tanks (s : State) (e : Event) : (s.latch e).tanks = s.tanks := rfl
@[simp] theorem latch_service (s : State) (e : Event) : (s.latch e).service = s.service := rfl
@[simp] theorem latch_conv (s : State) (e : Event) : (s.latch e).conv = s.conv := rfl
@[simp] theorem latch_journal (s : State) (e : Event) : (s.latch e).journal = s.journal := rfl
@[simp] theorem latch_clock (s : State) (e : Event) : (s.latch e).clock = s.clock := rfl
@[simp] theorem latch_links (s : State) (e : Event) :
    (s.latch e).links = s.links.map fun l => l.latchEvent s.clock.time e := rfl
@[simp] theorem latch_store (s : State) (e : Event) : (s.latch e).store = s.store := rfl

/-! ### Per port, bay and tank -/

@[simp] theorem perPort_get_set {α : Type} (x : PerPort α) (p q : Port) (v : α) :
    (x.set p v).get q = if q = p then v else x.get q := by
  cases p <;> cases q <;> rfl

@[simp] theorem perPort_get_map {α β : Type} (f : α → β) (x : PerPort α) (p : Port) :
    (x.map f).get p = f (x.get p) := by
  cases p <;> rfl

@[simp] theorem perBay_get_set {α : Type} (x : PerBay α) (b c : Bay) (v : α) :
    (x.set b v).get c = if c = b then v else x.get c := by
  cases b <;> cases c <;> rfl

@[simp] theorem perBay_get_map {α β : Type} (f : α → β) (x : PerBay α) (b : Bay) :
    (x.map f).get b = f (x.get b) := by
  cases b <;> rfl

@[simp] theorem perBay_get_all {α : Type} (v : α) (b : Bay) : (PerBay.all v).get b = v := by
  cases b <;> rfl

@[simp] theorem perTank_get_set {α : Type} (x : PerTank α) (t u : Tank) (v : α) :
    (x.set t v).get u = if u = t then v else x.get u := by
  cases t <;> cases u <;> rfl

@[simp] theorem perTank_get_map {α β : Type} (f : α → β) (x : PerTank α) (t : Tank) :
    (x.map f).get t = f (x.get t) := by
  cases t <;> rfl

end Sys2Proof.Machine
end

