-- ==== Sys2Proof/Laws/Frames.lean ====
section
/-! SUPPORT. Frames: for each operation, every field of State it leaves alone (the operations that blocks share: journal, bays, water and sign). -/

namespace Sys2Proof.Machine

/-- What each step of a fold keeps, the fold keeps. -/
theorem keep_foldl {α β σ : Type} (g : σ → β) (f : σ → α → σ) (h : ∀ s x, g (f s x) = g s) (l : List α) (s : σ) :
    g (l.foldl f s) = g s := by
  induction l generalizing s with
  | nil => rfl
  | cons x l ih => exact (ih (f s x)).trans (h s x)

@[simp] theorem judgeLow_frame (s : State) :
    (s.judgeLow).pending = s.pending ∧ (s.judgeLow).timebase = s.timebase ∧ (s.judgeLow).part = s.part ∧
    (s.judgeLow).lines = s.lines ∧ (s.judgeLow).lane = s.lane ∧ (s.judgeLow).queue = s.queue ∧
    (s.judgeLow).nextVisit = s.nextVisit ∧ (s.judgeLow).register = s.register ∧
    (s.judgeLow).hauliers = s.hauliers ∧ (s.judgeLow).active = s.active ∧ (s.judgeLow).generation = s.generation ∧
    (s.judgeLow).staging = s.staging ∧ (s.judgeLow).disp = s.disp ∧ (s.judgeLow).bays = s.bays ∧
    (s.judgeLow).water = s.water ∧ (s.judgeLow).tanks = s.tanks ∧ (s.judgeLow).service = s.service ∧
    (s.judgeLow).conv = s.conv ∧ (s.judgeLow).clock = s.clock ∧ (s.judgeLow).store = s.store := by
  unfold State.judgeLow
  repeat' split
  all_goals simp

@[simp] theorem reserve_frame (s : State) :
    (s.reserve).pending = s.pending ∧ (s.reserve).timebase = s.timebase ∧ (s.reserve).part = s.part ∧
    (s.reserve).lines = s.lines ∧ (s.reserve).lane = s.lane ∧ (s.reserve).queue = s.queue ∧
    (s.reserve).nextVisit = s.nextVisit ∧ (s.reserve).register = s.register ∧ (s.reserve).hauliers = s.hauliers ∧
    (s.reserve).active = s.active ∧ (s.reserve).generation = s.generation ∧ (s.reserve).staging = s.staging ∧
    (s.reserve).disp = s.disp ∧ (s.reserve).bays = s.bays ∧ (s.reserve).water = s.water ∧
    (s.reserve).tanks = s.tanks ∧ (s.reserve).service = s.service ∧ (s.reserve).conv = s.conv ∧
    (s.reserve).clock = s.clock ∧ (s.reserve).store = s.store := by
  unfold State.reserve
  simp

@[simp] theorem appendDayClose_frame (s : State) (d : DayClose) :
    (s.appendDayClose d).pending = s.pending ∧ (s.appendDayClose d).timebase = s.timebase ∧
    (s.appendDayClose d).part = s.part ∧ (s.appendDayClose d).lines = s.lines ∧
    (s.appendDayClose d).lane = s.lane ∧ (s.appendDayClose d).queue = s.queue ∧
    (s.appendDayClose d).nextVisit = s.nextVisit ∧ (s.appendDayClose d).register = s.register ∧
    (s.appendDayClose d).hauliers = s.hauliers ∧ (s.appendDayClose d).active = s.active ∧
    (s.appendDayClose d).generation = s.generation ∧ (s.appendDayClose d).staging = s.staging ∧
    (s.appendDayClose d).disp = s.disp ∧ (s.appendDayClose d).bays = s.bays ∧
    (s.appendDayClose d).water = s.water ∧ (s.appendDayClose d).tanks = s.tanks ∧
    (s.appendDayClose d).service = s.service ∧ (s.appendDayClose d).conv = s.conv ∧
    (s.appendDayClose d).clock = s.clock ∧ (s.appendDayClose d).store = s.store := by
  unfold State.appendDayClose
  simp

@[simp] theorem writePendingClose_frame (s : State) :
    (s.writePendingClose).pending = s.pending ∧ (s.writePendingClose).timebase = s.timebase ∧
    (s.writePendingClose).part = s.part ∧ (s.writePendingClose).lines = s.lines ∧
    (s.writePendingClose).lane = s.lane ∧ (s.writePendingClose).queue = s.queue ∧
    (s.writePendingClose).nextVisit = s.nextVisit ∧ (s.writePendingClose).register = s.register ∧
    (s.writePendingClose).hauliers = s.hauliers ∧ (s.writePendingClose).active = s.active ∧
    (s.writePendingClose).generation = s.generation ∧ (s.writePendingClose).staging = s.staging ∧
    (s.writePendingClose).bays = s.bays ∧ (s.writePendingClose).water = s.water ∧
    (s.writePendingClose).tanks = s.tanks ∧ (s.writePendingClose).service = s.service ∧
    (s.writePendingClose).conv = s.conv ∧ (s.writePendingClose).clock = s.clock ∧
    (s.writePendingClose).store = s.store := by
  unfold State.writePendingClose
  repeat' split
  all_goals simp

@[simp] theorem dropReservation_frame (s : State) :
    (s.dropReservation).pending = s.pending ∧ (s.dropReservation).timebase = s.timebase ∧
    (s.dropReservation).part = s.part ∧ (s.dropReservation).lines = s.lines ∧ (s.dropReservation).lane = s.lane ∧
    (s.dropReservation).queue = s.queue ∧ (s.dropReservation).nextVisit = s.nextVisit ∧
    (s.dropReservation).register = s.register ∧ (s.dropReservation).hauliers = s.hauliers ∧
    (s.dropReservation).active = s.active ∧ (s.dropReservation).generation = s.generation ∧
    (s.dropReservation).staging = s.staging ∧ (s.dropReservation).bays = s.bays ∧
    (s.dropReservation).water = s.water ∧ (s.dropReservation).tanks = s.tanks ∧
    (s.dropReservation).service = s.service ∧ (s.dropReservation).conv = s.conv ∧
    (s.dropReservation).clock = s.clock ∧ (s.dropReservation).store = s.store := by
  unfold State.dropReservation
  simp

@[simp] theorem deferClose_frame (s : State) (d : DayClose) :
    (s.deferClose d).pending = s.pending ∧ (s.deferClose d).timebase = s.timebase ∧
    (s.deferClose d).part = s.part ∧ (s.deferClose d).lines = s.lines ∧ (s.deferClose d).lane = s.lane ∧
    (s.deferClose d).queue = s.queue ∧ (s.deferClose d).nextVisit = s.nextVisit ∧
    (s.deferClose d).register = s.register ∧ (s.deferClose d).hauliers = s.hauliers ∧
    (s.deferClose d).active = s.active ∧ (s.deferClose d).generation = s.generation ∧
    (s.deferClose d).staging = s.staging ∧ (s.deferClose d).disp = s.disp ∧ (s.deferClose d).bays = s.bays ∧
    (s.deferClose d).water = s.water ∧ (s.deferClose d).tanks = s.tanks ∧ (s.deferClose d).service = s.service ∧
    (s.deferClose d).conv = s.conv ∧ (s.deferClose d).clock = s.clock ∧ (s.deferClose d).store = s.store := by
  unfold State.deferClose
  simp

@[simp] theorem dayCloseNotice_frame (s : State) (d : DayClose) :
    (s.dayCloseNotice d).pending = s.pending ∧ (s.dayCloseNotice d).timebase = s.timebase ∧
    (s.dayCloseNotice d).part = s.part ∧ (s.dayCloseNotice d).lines = s.lines ∧
    (s.dayCloseNotice d).lane = s.lane ∧ (s.dayCloseNotice d).queue = s.queue ∧
    (s.dayCloseNotice d).nextVisit = s.nextVisit ∧ (s.dayCloseNotice d).register = s.register ∧
    (s.dayCloseNotice d).hauliers = s.hauliers ∧ (s.dayCloseNotice d).active = s.active ∧
    (s.dayCloseNotice d).generation = s.generation ∧ (s.dayCloseNotice d).staging = s.staging ∧
    (s.dayCloseNotice d).disp = s.disp ∧ (s.dayCloseNotice d).bays = s.bays ∧
    (s.dayCloseNotice d).water = s.water ∧ (s.dayCloseNotice d).tanks = s.tanks ∧
    (s.dayCloseNotice d).service = s.service ∧ (s.dayCloseNotice d).conv = s.conv ∧
    (s.dayCloseNotice d).clock = s.clock ∧ (s.dayCloseNotice d).store = s.store := by
  unfold State.dayCloseNotice
  repeat' split
  all_goals simp

@[simp] theorem noteCharge_frame (s : State) (c : Charge) :
    (s.noteCharge c).pending = s.pending ∧ (s.noteCharge c).timebase = s.timebase ∧
    (s.noteCharge c).part = s.part ∧ (s.noteCharge c).lines = s.lines ∧ (s.noteCharge c).lane = s.lane ∧
    (s.noteCharge c).queue = s.queue ∧ (s.noteCharge c).nextVisit = s.nextVisit ∧
    (s.noteCharge c).register = s.register ∧ (s.noteCharge c).hauliers = s.hauliers ∧
    (s.noteCharge c).active = s.active ∧ (s.noteCharge c).generation = s.generation ∧
    (s.noteCharge c).staging = s.staging ∧ (s.noteCharge c).disp = s.disp ∧ (s.noteCharge c).bays = s.bays ∧
    (s.noteCharge c).water = s.water ∧ (s.noteCharge c).tanks = s.tanks ∧ (s.noteCharge c).service = s.service ∧
    (s.noteCharge c).conv = s.conv ∧ (s.noteCharge c).journal = s.journal ∧ (s.noteCharge c).links = s.links ∧
    (s.noteCharge c).store = s.store := by
  unfold State.noteCharge
  simp

@[simp] theorem appendCharge_frame (s : State) (c : Charge) :
    (s.appendCharge c).pending = s.pending ∧ (s.appendCharge c).timebase = s.timebase ∧
    (s.appendCharge c).part = s.part ∧ (s.appendCharge c).lines = s.lines ∧ (s.appendCharge c).lane = s.lane ∧
    (s.appendCharge c).queue = s.queue ∧ (s.appendCharge c).nextVisit = s.nextVisit ∧
    (s.appendCharge c).register = s.register ∧ (s.appendCharge c).hauliers = s.hauliers ∧
    (s.appendCharge c).active = s.active ∧ (s.appendCharge c).generation = s.generation ∧
    (s.appendCharge c).staging = s.staging ∧ (s.appendCharge c).disp = s.disp ∧ (s.appendCharge c).bays = s.bays ∧
    (s.appendCharge c).water = s.water ∧ (s.appendCharge c).tanks = s.tanks ∧
    (s.appendCharge c).service = s.service ∧ (s.appendCharge c).conv = s.conv ∧
    (s.appendCharge c).store = s.store := by
  unfold State.appendCharge
  simp

@[simp] theorem takeReclaim_frame (s : State) (r : Journal × Nat) :
    (s.takeReclaim r).pending = s.pending ∧ (s.takeReclaim r).timebase = s.timebase ∧
    (s.takeReclaim r).part = s.part ∧ (s.takeReclaim r).lines = s.lines ∧ (s.takeReclaim r).lane = s.lane ∧
    (s.takeReclaim r).queue = s.queue ∧ (s.takeReclaim r).nextVisit = s.nextVisit ∧
    (s.takeReclaim r).register = s.register ∧ (s.takeReclaim r).hauliers = s.hauliers ∧
    (s.takeReclaim r).active = s.active ∧ (s.takeReclaim r).generation = s.generation ∧
    (s.takeReclaim r).staging = s.staging ∧ (s.takeReclaim r).disp = s.disp ∧ (s.takeReclaim r).bays = s.bays ∧
    (s.takeReclaim r).water = s.water ∧ (s.takeReclaim r).tanks = s.tanks ∧ (s.takeReclaim r).service = s.service ∧
    (s.takeReclaim r).conv = s.conv ∧ (s.takeReclaim r).clock = s.clock ∧ (s.takeReclaim r).store = s.store := by
  unfold State.takeReclaim
  repeat' split
  all_goals simp

@[simp] theorem endWalk_frame (s : State) (w : Walk) (b : Bool) :
    (s.endWalk w b).pending = s.pending ∧ (s.endWalk w b).timebase = s.timebase ∧ (s.endWalk w b).part = s.part ∧
    (s.endWalk w b).lines = s.lines ∧ (s.endWalk w b).lane = s.lane ∧ (s.endWalk w b).queue = s.queue ∧
    (s.endWalk w b).nextVisit = s.nextVisit ∧ (s.endWalk w b).register = s.register ∧
    (s.endWalk w b).hauliers = s.hauliers ∧ (s.endWalk w b).active = s.active ∧
    (s.endWalk w b).generation = s.generation ∧ (s.endWalk w b).staging = s.staging ∧
    (s.endWalk w b).bays = s.bays ∧ (s.endWalk w b).water = s.water ∧ (s.endWalk w b).tanks = s.tanks ∧
    (s.endWalk w b).service = s.service ∧ (s.endWalk w b).conv = s.conv ∧ (s.endWalk w b).clock = s.clock ∧
    (s.endWalk w b).store = s.store := by
  unfold State.endWalk
  repeat' split
  all_goals simp

@[simp] theorem walkStep_frame (s : State) (w : Walk) (b : Bool) :
    (s.walkStep w b).pending = s.pending ∧ (s.walkStep w b).timebase = s.timebase ∧
    (s.walkStep w b).part = s.part ∧ (s.walkStep w b).lines = s.lines ∧ (s.walkStep w b).lane = s.lane ∧
    (s.walkStep w b).queue = s.queue ∧ (s.walkStep w b).nextVisit = s.nextVisit ∧
    (s.walkStep w b).register = s.register ∧ (s.walkStep w b).hauliers = s.hauliers ∧
    (s.walkStep w b).active = s.active ∧ (s.walkStep w b).generation = s.generation ∧
    (s.walkStep w b).staging = s.staging ∧ (s.walkStep w b).bays = s.bays ∧ (s.walkStep w b).water = s.water ∧
    (s.walkStep w b).tanks = s.tanks ∧ (s.walkStep w b).service = s.service ∧ (s.walkStep w b).conv = s.conv ∧
    (s.walkStep w b).clock = s.clock ∧ (s.walkStep w b).store = s.store := by
  unfold State.walkStep
  repeat' split
  all_goals simp

@[simp] theorem enterRun_frame (s : State) (b : Bay) :
    (s.enterRun b).pending = s.pending ∧ (s.enterRun b).timebase = s.timebase ∧ (s.enterRun b).part = s.part ∧
    (s.enterRun b).lines = s.lines ∧ (s.enterRun b).lane = s.lane ∧ (s.enterRun b).queue = s.queue ∧
    (s.enterRun b).nextVisit = s.nextVisit ∧ (s.enterRun b).register = s.register ∧
    (s.enterRun b).hauliers = s.hauliers ∧ (s.enterRun b).active = s.active ∧
    (s.enterRun b).generation = s.generation ∧ (s.enterRun b).staging = s.staging ∧ (s.enterRun b).disp = s.disp ∧
    (s.enterRun b).water = s.water ∧ (s.enterRun b).tanks = s.tanks ∧ (s.enterRun b).service = s.service ∧
    (s.enterRun b).conv = s.conv ∧ (s.enterRun b).journal = s.journal ∧ (s.enterRun b).clock = s.clock ∧
    (s.enterRun b).links = s.links ∧ (s.enterRun b).store = s.store := by
  unfold State.enterRun
  repeat' split
  all_goals simp

@[simp] theorem endRun_frame (s : State) (b : Bay) (st : PhaseStatus) :
    (s.endRun b st).pending = s.pending ∧ (s.endRun b st).timebase = s.timebase ∧ (s.endRun b st).part = s.part ∧
    (s.endRun b st).lines = s.lines ∧ (s.endRun b st).lane = s.lane ∧ (s.endRun b st).queue = s.queue ∧
    (s.endRun b st).nextVisit = s.nextVisit ∧ (s.endRun b st).register = s.register ∧
    (s.endRun b st).hauliers = s.hauliers ∧ (s.endRun b st).active = s.active ∧
    (s.endRun b st).generation = s.generation ∧ (s.endRun b st).staging = s.staging ∧
    (s.endRun b st).disp = s.disp ∧ (s.endRun b st).water = s.water ∧ (s.endRun b st).tanks = s.tanks ∧
    (s.endRun b st).service = s.service ∧ (s.endRun b st).conv = s.conv ∧ (s.endRun b st).journal = s.journal ∧
    (s.endRun b st).clock = s.clock ∧ (s.endRun b st).links = s.links ∧ (s.endRun b st).store = s.store := by
  unfold State.endRun
  simp

@[simp] theorem grant_frame (s : State) (b : Bay) (e : Nat) :
    (s.grant b e).pending = s.pending ∧ (s.grant b e).timebase = s.timebase ∧ (s.grant b e).part = s.part ∧
    (s.grant b e).lines = s.lines ∧ (s.grant b e).lane = s.lane ∧ (s.grant b e).queue = s.queue ∧
    (s.grant b e).nextVisit = s.nextVisit ∧ (s.grant b e).register = s.register ∧
    (s.grant b e).hauliers = s.hauliers ∧ (s.grant b e).active = s.active ∧
    (s.grant b e).generation = s.generation ∧ (s.grant b e).staging = s.staging ∧ (s.grant b e).disp = s.disp ∧
    (s.grant b e).tanks = s.tanks ∧ (s.grant b e).service = s.service ∧ (s.grant b e).conv = s.conv ∧
    (s.grant b e).journal = s.journal ∧ (s.grant b e).clock = s.clock ∧ (s.grant b e).links = s.links ∧
    (s.grant b e).store = s.store := by
  unfold State.grant
  simp

@[simp] theorem withdraw_frame (s : State) (b : Bay) :
    (s.withdraw b).pending = s.pending ∧ (s.withdraw b).timebase = s.timebase ∧ (s.withdraw b).part = s.part ∧
    (s.withdraw b).lines = s.lines ∧ (s.withdraw b).lane = s.lane ∧ (s.withdraw b).queue = s.queue ∧
    (s.withdraw b).nextVisit = s.nextVisit ∧ (s.withdraw b).register = s.register ∧
    (s.withdraw b).hauliers = s.hauliers ∧ (s.withdraw b).active = s.active ∧
    (s.withdraw b).generation = s.generation ∧ (s.withdraw b).staging = s.staging ∧ (s.withdraw b).disp = s.disp ∧
    (s.withdraw b).tanks = s.tanks ∧ (s.withdraw b).service = s.service ∧ (s.withdraw b).conv = s.conv ∧
    (s.withdraw b).journal = s.journal ∧ (s.withdraw b).clock = s.clock ∧ (s.withdraw b).links = s.links ∧
    (s.withdraw b).store = s.store := by
  unfold State.withdraw
  simp

@[simp] theorem grantWaiter_frame (s : State) (x : WaitEntry) :
    (s.grantWaiter x).pending = s.pending ∧ (s.grantWaiter x).timebase = s.timebase ∧
    (s.grantWaiter x).part = s.part ∧ (s.grantWaiter x).lines = s.lines ∧ (s.grantWaiter x).lane = s.lane ∧
    (s.grantWaiter x).queue = s.queue ∧ (s.grantWaiter x).nextVisit = s.nextVisit ∧
    (s.grantWaiter x).register = s.register ∧ (s.grantWaiter x).hauliers = s.hauliers ∧
    (s.grantWaiter x).active = s.active ∧ (s.grantWaiter x).generation = s.generation ∧
    (s.grantWaiter x).staging = s.staging ∧ (s.grantWaiter x).disp = s.disp ∧ (s.grantWaiter x).tanks = s.tanks ∧
    (s.grantWaiter x).service = s.service ∧ (s.grantWaiter x).conv = s.conv ∧
    (s.grantWaiter x).journal = s.journal ∧ (s.grantWaiter x).clock = s.clock ∧ (s.grantWaiter x).links = s.links ∧
    (s.grantWaiter x).store = s.store := by
  unfold State.grantWaiter
  simp

/-- What each grant keeps, a first-fit pass keeps. -/
theorem keep_firstFitOver {β : Type} (g : State → β) (h : ∀ s x, g (s.grantWaiter x) = g s) (l : List WaitEntry)
    (s : State) : g (State.firstFitOver l s) = g s := by
  induction l generalizing s with
  | nil => rfl
  | cons x l ih =>
    unfold State.firstFitOver
    split
    · exact (ih _).trans (h s x)
    · exact ih s

@[simp] theorem firstFit_frame (s : State) :
    (s.firstFit).pending = s.pending ∧ (s.firstFit).timebase = s.timebase ∧ (s.firstFit).part = s.part ∧
    (s.firstFit).lines = s.lines ∧ (s.firstFit).lane = s.lane ∧ (s.firstFit).queue = s.queue ∧
    (s.firstFit).nextVisit = s.nextVisit ∧ (s.firstFit).register = s.register ∧
    (s.firstFit).hauliers = s.hauliers ∧ (s.firstFit).active = s.active ∧ (s.firstFit).generation = s.generation ∧
    (s.firstFit).staging = s.staging ∧ (s.firstFit).disp = s.disp ∧ (s.firstFit).tanks = s.tanks ∧
    (s.firstFit).service = s.service ∧ (s.firstFit).conv = s.conv ∧ (s.firstFit).journal = s.journal ∧
    (s.firstFit).clock = s.clock ∧ (s.firstFit).links = s.links ∧ (s.firstFit).store = s.store := by
  unfold State.firstFit
  and_intros <;> exact keep_firstFitOver _ (fun t x => by simp) _ _

@[simp] theorem overdrawBy_frame (s : State) (b : Bay) (n : Nat) :
    (s.overdrawBy b n).pending = s.pending ∧ (s.overdrawBy b n).timebase = s.timebase ∧
    (s.overdrawBy b n).part = s.part ∧ (s.overdrawBy b n).lines = s.lines ∧ (s.overdrawBy b n).lane = s.lane ∧
    (s.overdrawBy b n).queue = s.queue ∧ (s.overdrawBy b n).nextVisit = s.nextVisit ∧
    (s.overdrawBy b n).register = s.register ∧ (s.overdrawBy b n).hauliers = s.hauliers ∧
    (s.overdrawBy b n).active = s.active ∧ (s.overdrawBy b n).generation = s.generation ∧
    (s.overdrawBy b n).staging = s.staging ∧ (s.overdrawBy b n).disp = s.disp ∧ (s.overdrawBy b n).bays = s.bays ∧
    (s.overdrawBy b n).tanks = s.tanks ∧ (s.overdrawBy b n).service = s.service ∧
    (s.overdrawBy b n).conv = s.conv ∧ (s.overdrawBy b n).journal = s.journal ∧
    (s.overdrawBy b n).store = s.store := by
  unfold State.overdrawBy
  simp

@[simp] theorem settleClaim_frame (s : State) (b : Bay) (e f : Nat) :
    (s.settleClaim b e f).pending = s.pending ∧ (s.settleClaim b e f).timebase = s.timebase ∧
    (s.settleClaim b e f).part = s.part ∧ (s.settleClaim b e f).lines = s.lines ∧
    (s.settleClaim b e f).lane = s.lane ∧ (s.settleClaim b e f).queue = s.queue ∧
    (s.settleClaim b e f).nextVisit = s.nextVisit ∧ (s.settleClaim b e f).register = s.register ∧
    (s.settleClaim b e f).hauliers = s.hauliers ∧ (s.settleClaim b e f).active = s.active ∧
    (s.settleClaim b e f).generation = s.generation ∧ (s.settleClaim b e f).staging = s.staging ∧
    (s.settleClaim b e f).disp = s.disp ∧ (s.settleClaim b e f).tanks = s.tanks ∧
    (s.settleClaim b e f).service = s.service ∧ (s.settleClaim b e f).conv = s.conv ∧
    (s.settleClaim b e f).journal = s.journal ∧ (s.settleClaim b e f).store = s.store := by
  unfold State.settleClaim
  repeat' split
  all_goals simp

@[simp] theorem enterClaim_frame (s : State) (b : Bay) (k : Nat) :
    (s.enterClaim b k).pending = s.pending ∧ (s.enterClaim b k).timebase = s.timebase ∧
    (s.enterClaim b k).part = s.part ∧ (s.enterClaim b k).lines = s.lines ∧ (s.enterClaim b k).lane = s.lane ∧
    (s.enterClaim b k).queue = s.queue ∧ (s.enterClaim b k).nextVisit = s.nextVisit ∧
    (s.enterClaim b k).register = s.register ∧ (s.enterClaim b k).hauliers = s.hauliers ∧
    (s.enterClaim b k).active = s.active ∧ (s.enterClaim b k).generation = s.generation ∧
    (s.enterClaim b k).staging = s.staging ∧ (s.enterClaim b k).disp = s.disp ∧
    (s.enterClaim b k).water = s.water ∧ (s.enterClaim b k).tanks = s.tanks ∧
    (s.enterClaim b k).service = s.service ∧ (s.enterClaim b k).conv = s.conv ∧
    (s.enterClaim b k).journal = s.journal ∧ (s.enterClaim b k).clock = s.clock ∧
    (s.enterClaim b k).links = s.links ∧ (s.enterClaim b k).store = s.store := by
  unfold State.enterClaim
  simp

@[simp] theorem goIdle_frame (s : State) (b : Bay) :
    (s.goIdle b).pending = s.pending ∧ (s.goIdle b).timebase = s.timebase ∧ (s.goIdle b).part = s.part ∧
    (s.goIdle b).lines = s.lines ∧ (s.goIdle b).lane = s.lane ∧ (s.goIdle b).queue = s.queue ∧
    (s.goIdle b).nextVisit = s.nextVisit ∧ (s.goIdle b).register = s.register ∧
    (s.goIdle b).hauliers = s.hauliers ∧ (s.goIdle b).active = s.active ∧ (s.goIdle b).generation = s.generation ∧
    (s.goIdle b).staging = s.staging ∧ (s.goIdle b).water = s.water ∧ (s.goIdle b).tanks = s.tanks ∧
    (s.goIdle b).service = s.service ∧ (s.goIdle b).conv = s.conv ∧ (s.goIdle b).journal = s.journal ∧
    (s.goIdle b).clock = s.clock ∧ (s.goIdle b).store = s.store := by
  unfold State.goIdle
  repeat' split
  all_goals simp

@[simp] theorem openNotice_frame (s : State) (b : Bay) :
    (s.openNotice b).pending = s.pending ∧ (s.openNotice b).timebase = s.timebase ∧
    (s.openNotice b).part = s.part ∧ (s.openNotice b).lines = s.lines ∧ (s.openNotice b).lane = s.lane ∧
    (s.openNotice b).queue = s.queue ∧ (s.openNotice b).nextVisit = s.nextVisit ∧
    (s.openNotice b).register = s.register ∧ (s.openNotice b).hauliers = s.hauliers ∧
    (s.openNotice b).active = s.active ∧ (s.openNotice b).generation = s.generation ∧
    (s.openNotice b).staging = s.staging ∧ (s.openNotice b).water = s.water ∧ (s.openNotice b).tanks = s.tanks ∧
    (s.openNotice b).service = s.service ∧ (s.openNotice b).conv = s.conv ∧ (s.openNotice b).journal = s.journal ∧
    (s.openNotice b).clock = s.clock ∧ (s.openNotice b).store = s.store := by
  unfold State.openNotice
  repeat' split
  all_goals simp

@[simp] theorem openNotices_frame (s : State) (old : BitVec 6) :
    (s.openNotices old).pending = s.pending ∧ (s.openNotices old).timebase = s.timebase ∧
    (s.openNotices old).part = s.part ∧ (s.openNotices old).lines = s.lines ∧ (s.openNotices old).lane = s.lane ∧
    (s.openNotices old).queue = s.queue ∧ (s.openNotices old).nextVisit = s.nextVisit ∧
    (s.openNotices old).register = s.register ∧ (s.openNotices old).hauliers = s.hauliers ∧
    (s.openNotices old).active = s.active ∧ (s.openNotices old).generation = s.generation ∧
    (s.openNotices old).staging = s.staging ∧ (s.openNotices old).water = s.water ∧
    (s.openNotices old).tanks = s.tanks ∧ (s.openNotices old).service = s.service ∧
    (s.openNotices old).conv = s.conv ∧ (s.openNotices old).journal = s.journal ∧
    (s.openNotices old).clock = s.clock ∧ (s.openNotices old).store = s.store := by
  unfold State.openNotices
  and_intros <;> exact keep_foldl _ _ (fun t x => by split <;> simp) _ _

@[simp] theorem setBayOpen_frame (s : State) (v : BitVec 6) :
    (s.setBayOpen v).pending = s.pending ∧ (s.setBayOpen v).timebase = s.timebase ∧
    (s.setBayOpen v).part = s.part ∧ (s.setBayOpen v).lines = s.lines ∧ (s.setBayOpen v).lane = s.lane ∧
    (s.setBayOpen v).queue = s.queue ∧ (s.setBayOpen v).nextVisit = s.nextVisit ∧
    (s.setBayOpen v).register = s.register ∧ (s.setBayOpen v).hauliers = s.hauliers ∧
    (s.setBayOpen v).active = s.active ∧ (s.setBayOpen v).generation = s.generation ∧
    (s.setBayOpen v).staging = s.staging ∧ (s.setBayOpen v).tanks = s.tanks ∧
    (s.setBayOpen v).service = s.service ∧ (s.setBayOpen v).conv = s.conv ∧ (s.setBayOpen v).journal = s.journal ∧
    (s.setBayOpen v).clock = s.clock ∧ (s.setBayOpen v).store = s.store := by
  unfold State.setBayOpen
  repeat' split
  all_goals simp

@[simp] theorem faultNotice_frame (s : State) (b : Bay) :
    (s.faultNotice b).pending = s.pending ∧ (s.faultNotice b).timebase = s.timebase ∧
    (s.faultNotice b).part = s.part ∧ (s.faultNotice b).lines = s.lines ∧ (s.faultNotice b).lane = s.lane ∧
    (s.faultNotice b).queue = s.queue ∧ (s.faultNotice b).nextVisit = s.nextVisit ∧
    (s.faultNotice b).register = s.register ∧ (s.faultNotice b).hauliers = s.hauliers ∧
    (s.faultNotice b).active = s.active ∧ (s.faultNotice b).generation = s.generation ∧
    (s.faultNotice b).staging = s.staging ∧ (s.faultNotice b).tanks = s.tanks ∧
    (s.faultNotice b).service = s.service ∧ (s.faultNotice b).conv = s.conv ∧
    (s.faultNotice b).journal = s.journal ∧ (s.faultNotice b).clock = s.clock ∧
    (s.faultNotice b).store = s.store := by
  unfold State.faultNotice
  simp

@[simp] theorem enterFault_frame (s : State) (b : Bay) (st : BayState) :
    (s.enterFault b st).pending = s.pending ∧ (s.enterFault b st).timebase = s.timebase ∧
    (s.enterFault b st).part = s.part ∧ (s.enterFault b st).lines = s.lines ∧ (s.enterFault b st).lane = s.lane ∧
    (s.enterFault b st).queue = s.queue ∧ (s.enterFault b st).nextVisit = s.nextVisit ∧
    (s.enterFault b st).register = s.register ∧ (s.enterFault b st).hauliers = s.hauliers ∧
    (s.enterFault b st).active = s.active ∧ (s.enterFault b st).generation = s.generation ∧
    (s.enterFault b st).staging = s.staging ∧ (s.enterFault b st).tanks = s.tanks ∧
    (s.enterFault b st).service = s.service ∧ (s.enterFault b st).conv = s.conv ∧
    (s.enterFault b st).journal = s.journal ∧ (s.enterFault b st).clock = s.clock ∧
    (s.enterFault b st).store = s.store := by
  unfold State.enterFault
  simp

@[simp] theorem leaveExit_frame (s : State) (b : Bay) :
    (s.leaveExit b).pending = s.pending ∧ (s.leaveExit b).timebase = s.timebase ∧ (s.leaveExit b).part = s.part ∧
    (s.leaveExit b).lines = s.lines ∧ (s.leaveExit b).lane = s.lane ∧ (s.leaveExit b).queue = s.queue ∧
    (s.leaveExit b).nextVisit = s.nextVisit ∧ (s.leaveExit b).register = s.register ∧
    (s.leaveExit b).hauliers = s.hauliers ∧ (s.leaveExit b).active = s.active ∧
    (s.leaveExit b).generation = s.generation ∧ (s.leaveExit b).staging = s.staging ∧
    (s.leaveExit b).water = s.water ∧ (s.leaveExit b).tanks = s.tanks ∧ (s.leaveExit b).service = s.service ∧
    (s.leaveExit b).conv = s.conv ∧ (s.leaveExit b).journal = s.journal ∧ (s.leaveExit b).clock = s.clock ∧
    (s.leaveExit b).store = s.store := by
  unfold State.leaveExit
  simp

@[simp] theorem enterExit_frame (s : State) (b : Bay) :
    (s.enterExit b).pending = s.pending ∧ (s.enterExit b).timebase = s.timebase ∧ (s.enterExit b).part = s.part ∧
    (s.enterExit b).lines = s.lines ∧ (s.enterExit b).lane = s.lane ∧ (s.enterExit b).queue = s.queue ∧
    (s.enterExit b).nextVisit = s.nextVisit ∧ (s.enterExit b).register = s.register ∧
    (s.enterExit b).hauliers = s.hauliers ∧ (s.enterExit b).active = s.active ∧
    (s.enterExit b).generation = s.generation ∧ (s.enterExit b).staging = s.staging ∧
    (s.enterExit b).water = s.water ∧ (s.enterExit b).tanks = s.tanks ∧ (s.enterExit b).service = s.service ∧
    (s.enterExit b).conv = s.conv ∧ (s.enterExit b).journal = s.journal ∧ (s.enterExit b).clock = s.clock ∧
    (s.enterExit b).store = s.store := by
  unfold State.enterExit
  repeat' split
  all_goals simp

@[simp] theorem chargeStep_frame (s : State) (b : Bay) :
    (s.chargeStep b).pending = s.pending ∧ (s.chargeStep b).timebase = s.timebase ∧
    (s.chargeStep b).part = s.part ∧ (s.chargeStep b).lines = s.lines ∧ (s.chargeStep b).lane = s.lane ∧
    (s.chargeStep b).queue = s.queue ∧ (s.chargeStep b).nextVisit = s.nextVisit ∧
    (s.chargeStep b).register = s.register ∧ (s.chargeStep b).hauliers = s.hauliers ∧
    (s.chargeStep b).active = s.active ∧ (s.chargeStep b).generation = s.generation ∧
    (s.chargeStep b).staging = s.staging ∧ (s.chargeStep b).disp = s.disp ∧ (s.chargeStep b).water = s.water ∧
    (s.chargeStep b).tanks = s.tanks ∧ (s.chargeStep b).service = s.service ∧ (s.chargeStep b).conv = s.conv ∧
    (s.chargeStep b).store = s.store := by
  unfold State.chargeStep
  repeat' split
  all_goals simp

@[simp] theorem leaveWashing_frame (s : State) (b : Bay) :
    (s.leaveWashing b).pending = s.pending ∧ (s.leaveWashing b).timebase = s.timebase ∧
    (s.leaveWashing b).part = s.part ∧ (s.leaveWashing b).lines = s.lines ∧ (s.leaveWashing b).lane = s.lane ∧
    (s.leaveWashing b).queue = s.queue ∧ (s.leaveWashing b).nextVisit = s.nextVisit ∧
    (s.leaveWashing b).register = s.register ∧ (s.leaveWashing b).hauliers = s.hauliers ∧
    (s.leaveWashing b).active = s.active ∧ (s.leaveWashing b).generation = s.generation ∧
    (s.leaveWashing b).staging = s.staging ∧ (s.leaveWashing b).tanks = s.tanks ∧
    (s.leaveWashing b).service = s.service ∧ (s.leaveWashing b).conv = s.conv ∧
    (s.leaveWashing b).store = s.store := by
  unfold State.leaveWashing
  repeat' split
  all_goals simp

@[simp] theorem nextPhase_frame (s : State) (b : Bay) :
    (s.nextPhase b).pending = s.pending ∧ (s.nextPhase b).timebase = s.timebase ∧ (s.nextPhase b).part = s.part ∧
    (s.nextPhase b).lines = s.lines ∧ (s.nextPhase b).lane = s.lane ∧ (s.nextPhase b).queue = s.queue ∧
    (s.nextPhase b).nextVisit = s.nextVisit ∧ (s.nextPhase b).register = s.register ∧
    (s.nextPhase b).hauliers = s.hauliers ∧ (s.nextPhase b).active = s.active ∧
    (s.nextPhase b).generation = s.generation ∧ (s.nextPhase b).staging = s.staging ∧
    (s.nextPhase b).tanks = s.tanks ∧ (s.nextPhase b).service = s.service ∧ (s.nextPhase b).conv = s.conv ∧
    (s.nextPhase b).store = s.store := by
  unfold State.nextPhase
  repeat' split
  all_goals simp

@[simp] theorem skipPhase_frame (s : State) (b : Bay) :
    (s.skipPhase b).pending = s.pending ∧ (s.skipPhase b).timebase = s.timebase ∧ (s.skipPhase b).part = s.part ∧
    (s.skipPhase b).lines = s.lines ∧ (s.skipPhase b).lane = s.lane ∧ (s.skipPhase b).queue = s.queue ∧
    (s.skipPhase b).nextVisit = s.nextVisit ∧ (s.skipPhase b).register = s.register ∧
    (s.skipPhase b).hauliers = s.hauliers ∧ (s.skipPhase b).active = s.active ∧
    (s.skipPhase b).generation = s.generation ∧ (s.skipPhase b).staging = s.staging ∧
    (s.skipPhase b).tanks = s.tanks ∧ (s.skipPhase b).service = s.service ∧ (s.skipPhase b).conv = s.conv ∧
    (s.skipPhase b).store = s.store := by
  unfold State.skipPhase
  repeat' split
  all_goals simp

@[simp] theorem leaveClaim_frame (s : State) (b : Bay) :
    (s.leaveClaim b).pending = s.pending ∧ (s.leaveClaim b).timebase = s.timebase ∧
    (s.leaveClaim b).part = s.part ∧ (s.leaveClaim b).lines = s.lines ∧ (s.leaveClaim b).lane = s.lane ∧
    (s.leaveClaim b).queue = s.queue ∧ (s.leaveClaim b).nextVisit = s.nextVisit ∧
    (s.leaveClaim b).register = s.register ∧ (s.leaveClaim b).hauliers = s.hauliers ∧
    (s.leaveClaim b).active = s.active ∧ (s.leaveClaim b).generation = s.generation ∧
    (s.leaveClaim b).staging = s.staging ∧ (s.leaveClaim b).tanks = s.tanks ∧
    (s.leaveClaim b).service = s.service ∧ (s.leaveClaim b).conv = s.conv ∧ (s.leaveClaim b).store = s.store := by
  unfold State.leaveClaim
  simp

@[simp] theorem answerClaim_frame (s : State) (b : Bay) (r : WorkRecord) (t : PhaseTerms) (e : PhaseEntry) :
    (s.answerClaim b r t e).pending = s.pending ∧ (s.answerClaim b r t e).timebase = s.timebase ∧
    (s.answerClaim b r t e).part = s.part ∧ (s.answerClaim b r t e).lines = s.lines ∧
    (s.answerClaim b r t e).lane = s.lane ∧ (s.answerClaim b r t e).queue = s.queue ∧
    (s.answerClaim b r t e).nextVisit = s.nextVisit ∧ (s.answerClaim b r t e).register = s.register ∧
    (s.answerClaim b r t e).hauliers = s.hauliers ∧ (s.answerClaim b r t e).active = s.active ∧
    (s.answerClaim b r t e).generation = s.generation ∧ (s.answerClaim b r t e).staging = s.staging ∧
    (s.answerClaim b r t e).tanks = s.tanks ∧ (s.answerClaim b r t e).service = s.service ∧
    (s.answerClaim b r t e).conv = s.conv ∧ (s.answerClaim b r t e).store = s.store := by
  unfold State.answerClaim
  dsimp only
  repeat' split
  all_goals simp

@[simp] theorem endRunOn_frame (s : State) (b : Bay) :
    (s.endRunOn b).pending = s.pending ∧ (s.endRunOn b).timebase = s.timebase ∧ (s.endRunOn b).part = s.part ∧
    (s.endRunOn b).lines = s.lines ∧ (s.endRunOn b).lane = s.lane ∧ (s.endRunOn b).queue = s.queue ∧
    (s.endRunOn b).nextVisit = s.nextVisit ∧ (s.endRunOn b).register = s.register ∧
    (s.endRunOn b).hauliers = s.hauliers ∧ (s.endRunOn b).active = s.active ∧
    (s.endRunOn b).generation = s.generation ∧ (s.endRunOn b).staging = s.staging ∧
    (s.endRunOn b).tanks = s.tanks ∧ (s.endRunOn b).service = s.service ∧ (s.endRunOn b).conv = s.conv ∧
    (s.endRunOn b).store = s.store := by
  unfold State.endRunOn
  repeat' split
  all_goals simp

@[simp] theorem abortBySub_frame (s : State) (b : Bay) :
    (s.abortBySub b).pending = s.pending ∧ (s.abortBySub b).timebase = s.timebase ∧
    (s.abortBySub b).part = s.part ∧ (s.abortBySub b).lines = s.lines ∧ (s.abortBySub b).lane = s.lane ∧
    (s.abortBySub b).queue = s.queue ∧ (s.abortBySub b).nextVisit = s.nextVisit ∧
    (s.abortBySub b).register = s.register ∧ (s.abortBySub b).hauliers = s.hauliers ∧
    (s.abortBySub b).active = s.active ∧ (s.abortBySub b).generation = s.generation ∧
    (s.abortBySub b).staging = s.staging ∧ (s.abortBySub b).tanks = s.tanks ∧
    (s.abortBySub b).service = s.service ∧ (s.abortBySub b).conv = s.conv ∧ (s.abortBySub b).store = s.store := by
  unfold State.abortBySub
  repeat' split
  all_goals simp

@[simp] theorem abortWash_frame (s : State) (b : Bay) (m : AbortMark) :
    (s.abortWash b m).pending = s.pending ∧ (s.abortWash b m).timebase = s.timebase ∧
    (s.abortWash b m).part = s.part ∧ (s.abortWash b m).lines = s.lines ∧ (s.abortWash b m).lane = s.lane ∧
    (s.abortWash b m).queue = s.queue ∧ (s.abortWash b m).nextVisit = s.nextVisit ∧
    (s.abortWash b m).register = s.register ∧ (s.abortWash b m).hauliers = s.hauliers ∧
    (s.abortWash b m).active = s.active ∧ (s.abortWash b m).generation = s.generation ∧
    (s.abortWash b m).staging = s.staging ∧ (s.abortWash b m).tanks = s.tanks ∧
    (s.abortWash b m).service = s.service ∧ (s.abortWash b m).conv = s.conv ∧
    (s.abortWash b m).store = s.store := by
  unfold State.abortWash
  repeat' split
  all_goals simp

@[simp] theorem eStopWash_frame (s : State) (b : Bay) :
    (s.eStopWash b).pending = s.pending ∧ (s.eStopWash b).timebase = s.timebase ∧ (s.eStopWash b).part = s.part ∧
    (s.eStopWash b).lines = s.lines ∧ (s.eStopWash b).lane = s.lane ∧ (s.eStopWash b).queue = s.queue ∧
    (s.eStopWash b).nextVisit = s.nextVisit ∧ (s.eStopWash b).register = s.register ∧
    (s.eStopWash b).hauliers = s.hauliers ∧ (s.eStopWash b).active = s.active ∧
    (s.eStopWash b).generation = s.generation ∧ (s.eStopWash b).staging = s.staging ∧
    (s.eStopWash b).tanks = s.tanks ∧ (s.eStopWash b).service = s.service ∧ (s.eStopWash b).conv = s.conv ∧
    (s.eStopWash b).store = s.store := by
  unfold State.eStopWash
  simp

@[simp] theorem pulseInRun_frame (s : State) (b : Bay) :
    (s.pulseInRun b).pending = s.pending ∧ (s.pulseInRun b).timebase = s.timebase ∧
    (s.pulseInRun b).part = s.part ∧ (s.pulseInRun b).lines = s.lines ∧ (s.pulseInRun b).lane = s.lane ∧
    (s.pulseInRun b).queue = s.queue ∧ (s.pulseInRun b).nextVisit = s.nextVisit ∧
    (s.pulseInRun b).register = s.register ∧ (s.pulseInRun b).hauliers = s.hauliers ∧
    (s.pulseInRun b).active = s.active ∧ (s.pulseInRun b).generation = s.generation ∧
    (s.pulseInRun b).staging = s.staging ∧ (s.pulseInRun b).disp = s.disp ∧ (s.pulseInRun b).water = s.water ∧
    (s.pulseInRun b).tanks = s.tanks ∧ (s.pulseInRun b).service = s.service ∧ (s.pulseInRun b).conv = s.conv ∧
    (s.pulseInRun b).journal = s.journal ∧ (s.pulseInRun b).clock = s.clock ∧ (s.pulseInRun b).links = s.links ∧
    (s.pulseInRun b).store = s.store := by
  unfold State.pulseInRun
  dsimp only
  repeat' split
  all_goals simp

@[simp] theorem pulseInRunOn_frame (s : State) (b : Bay) :
    (s.pulseInRunOn b).pending = s.pending ∧ (s.pulseInRunOn b).timebase = s.timebase ∧
    (s.pulseInRunOn b).part = s.part ∧ (s.pulseInRunOn b).lines = s.lines ∧ (s.pulseInRunOn b).lane = s.lane ∧
    (s.pulseInRunOn b).queue = s.queue ∧ (s.pulseInRunOn b).nextVisit = s.nextVisit ∧
    (s.pulseInRunOn b).register = s.register ∧ (s.pulseInRunOn b).hauliers = s.hauliers ∧
    (s.pulseInRunOn b).active = s.active ∧ (s.pulseInRunOn b).generation = s.generation ∧
    (s.pulseInRunOn b).staging = s.staging ∧ (s.pulseInRunOn b).disp = s.disp ∧
    (s.pulseInRunOn b).water = s.water ∧ (s.pulseInRunOn b).tanks = s.tanks ∧
    (s.pulseInRunOn b).service = s.service ∧ (s.pulseInRunOn b).conv = s.conv ∧
    (s.pulseInRunOn b).journal = s.journal ∧ (s.pulseInRunOn b).clock = s.clock ∧
    (s.pulseInRunOn b).store = s.store := by
  unfold State.pulseInRunOn
  dsimp only
  repeat' split
  all_goals simp

@[simp] theorem loseReclaim_frame (s : State) (t : Tank) (b : Bay) :
    (s.loseReclaim t b).pending = s.pending ∧ (s.loseReclaim t b).timebase = s.timebase ∧
    (s.loseReclaim t b).part = s.part ∧ (s.loseReclaim t b).lines = s.lines ∧ (s.loseReclaim t b).lane = s.lane ∧
    (s.loseReclaim t b).queue = s.queue ∧ (s.loseReclaim t b).nextVisit = s.nextVisit ∧
    (s.loseReclaim t b).register = s.register ∧ (s.loseReclaim t b).hauliers = s.hauliers ∧
    (s.loseReclaim t b).active = s.active ∧ (s.loseReclaim t b).generation = s.generation ∧
    (s.loseReclaim t b).staging = s.staging ∧ (s.loseReclaim t b).disp = s.disp ∧
    (s.loseReclaim t b).water = s.water ∧ (s.loseReclaim t b).tanks = s.tanks ∧
    (s.loseReclaim t b).service = s.service ∧ (s.loseReclaim t b).conv = s.conv ∧
    (s.loseReclaim t b).journal = s.journal ∧ (s.loseReclaim t b).clock = s.clock ∧
    (s.loseReclaim t b).store = s.store := by
  unfold State.loseReclaim
  repeat' split
  all_goals simp

@[simp] theorem reclaimLoss_frame (s : State) (t : Tank) :
    (s.reclaimLoss t).pending = s.pending ∧ (s.reclaimLoss t).timebase = s.timebase ∧
    (s.reclaimLoss t).part = s.part ∧ (s.reclaimLoss t).lines = s.lines ∧ (s.reclaimLoss t).lane = s.lane ∧
    (s.reclaimLoss t).queue = s.queue ∧ (s.reclaimLoss t).nextVisit = s.nextVisit ∧
    (s.reclaimLoss t).register = s.register ∧ (s.reclaimLoss t).hauliers = s.hauliers ∧
    (s.reclaimLoss t).active = s.active ∧ (s.reclaimLoss t).generation = s.generation ∧
    (s.reclaimLoss t).staging = s.staging ∧ (s.reclaimLoss t).disp = s.disp ∧ (s.reclaimLoss t).water = s.water ∧
    (s.reclaimLoss t).tanks = s.tanks ∧ (s.reclaimLoss t).service = s.service ∧ (s.reclaimLoss t).conv = s.conv ∧
    (s.reclaimLoss t).journal = s.journal ∧ (s.reclaimLoss t).clock = s.clock ∧
    (s.reclaimLoss t).store = s.store := by
  unfold State.reclaimLoss
  and_intros <;> exact keep_foldl _ _ (fun t x => by simp) _ _

@[simp] theorem removeLine_frame (s : State) (b : Bay) :
    (s.removeLine b).pending = s.pending ∧ (s.removeLine b).timebase = s.timebase ∧
    (s.removeLine b).part = s.part ∧ (s.removeLine b).lines = s.lines ∧ (s.removeLine b).lane = s.lane ∧
    (s.removeLine b).queue = s.queue ∧ (s.removeLine b).nextVisit = s.nextVisit ∧
    (s.removeLine b).register = s.register ∧ (s.removeLine b).hauliers = s.hauliers ∧
    (s.removeLine b).active = s.active ∧ (s.removeLine b).generation = s.generation ∧
    (s.removeLine b).staging = s.staging ∧ (s.removeLine b).bays = s.bays ∧ (s.removeLine b).water = s.water ∧
    (s.removeLine b).tanks = s.tanks ∧ (s.removeLine b).service = s.service ∧ (s.removeLine b).conv = s.conv ∧
    (s.removeLine b).journal = s.journal ∧ (s.removeLine b).clock = s.clock ∧ (s.removeLine b).links = s.links ∧
    (s.removeLine b).store = s.store := by
  unfold State.removeLine
  simp

@[simp] theorem endCall_frame (s : State) (b : Bay) :
    (s.endCall b).pending = s.pending ∧ (s.endCall b).timebase = s.timebase ∧ (s.endCall b).part = s.part ∧
    (s.endCall b).lines = s.lines ∧ (s.endCall b).lane = s.lane ∧ (s.endCall b).queue = s.queue ∧
    (s.endCall b).nextVisit = s.nextVisit ∧ (s.endCall b).register = s.register ∧
    (s.endCall b).hauliers = s.hauliers ∧ (s.endCall b).active = s.active ∧
    (s.endCall b).generation = s.generation ∧ (s.endCall b).staging = s.staging ∧ (s.endCall b).water = s.water ∧
    (s.endCall b).tanks = s.tanks ∧ (s.endCall b).service = s.service ∧ (s.endCall b).conv = s.conv ∧
    (s.endCall b).clock = s.clock ∧ (s.endCall b).store = s.store := by
  unfold State.endCall
  simp

@[simp] theorem beginSign_frame (s : State) :
    (s.beginSign).pending = s.pending ∧ (s.beginSign).timebase = s.timebase ∧ (s.beginSign).part = s.part ∧
    (s.beginSign).lines = s.lines ∧ (s.beginSign).lane = s.lane ∧ (s.beginSign).queue = s.queue ∧
    (s.beginSign).nextVisit = s.nextVisit ∧ (s.beginSign).register = s.register ∧
    (s.beginSign).hauliers = s.hauliers ∧ (s.beginSign).active = s.active ∧
    (s.beginSign).generation = s.generation ∧ (s.beginSign).staging = s.staging ∧ (s.beginSign).bays = s.bays ∧
    (s.beginSign).water = s.water ∧ (s.beginSign).tanks = s.tanks ∧ (s.beginSign).service = s.service ∧
    (s.beginSign).conv = s.conv ∧ (s.beginSign).journal = s.journal ∧ (s.beginSign).clock = s.clock ∧
    (s.beginSign).links = s.links ∧ (s.beginSign).store = s.store := by
  unfold State.beginSign
  simp

@[simp] theorem sendSign_frame (s : State) :
    (s.sendSign).pending = s.pending ∧ (s.sendSign).timebase = s.timebase ∧ (s.sendSign).part = s.part ∧
    (s.sendSign).lines = s.lines ∧ (s.sendSign).lane = s.lane ∧ (s.sendSign).queue = s.queue ∧
    (s.sendSign).nextVisit = s.nextVisit ∧ (s.sendSign).register = s.register ∧
    (s.sendSign).hauliers = s.hauliers ∧ (s.sendSign).active = s.active ∧ (s.sendSign).generation = s.generation ∧
    (s.sendSign).staging = s.staging ∧ (s.sendSign).bays = s.bays ∧ (s.sendSign).water = s.water ∧
    (s.sendSign).tanks = s.tanks ∧ (s.sendSign).service = s.service ∧ (s.sendSign).conv = s.conv ∧
    (s.sendSign).journal = s.journal ∧ (s.sendSign).clock = s.clock ∧ (s.sendSign).links = s.links ∧
    (s.sendSign).store = s.store := by
  unfold State.sendSign
  repeat' split
  all_goals simp

@[simp] theorem recomputeStatus_frame (s : State) :
    (s.recomputeStatus).pending = s.pending ∧ (s.recomputeStatus).timebase = s.timebase ∧
    (s.recomputeStatus).part = s.part ∧ (s.recomputeStatus).lines = s.lines ∧ (s.recomputeStatus).lane = s.lane ∧
    (s.recomputeStatus).queue = s.queue ∧ (s.recomputeStatus).nextVisit = s.nextVisit ∧
    (s.recomputeStatus).register = s.register ∧ (s.recomputeStatus).hauliers = s.hauliers ∧
    (s.recomputeStatus).active = s.active ∧ (s.recomputeStatus).generation = s.generation ∧
    (s.recomputeStatus).staging = s.staging ∧ (s.recomputeStatus).bays = s.bays ∧
    (s.recomputeStatus).water = s.water ∧ (s.recomputeStatus).tanks = s.tanks ∧
    (s.recomputeStatus).service = s.service ∧ (s.recomputeStatus).conv = s.conv ∧
    (s.recomputeStatus).journal = s.journal ∧ (s.recomputeStatus).clock = s.clock ∧
    (s.recomputeStatus).links = s.links ∧ (s.recomputeStatus).store = s.store := by
  unfold State.recomputeStatus
  simp

end Sys2Proof.Machine
end

