-- ==== Sys2Proof/Laws/LaneFrames.lean ====
section
/-! SUPPORT. Frames: for each operation, every field of State it leaves alone (the operations of the Identification Unit and the Lane Unit). -/

namespace Sys2Proof.Machine

@[simp] theorem putVisit_frame (s : State) (v : Visit) :
    (s.putVisit v).pending = s.pending ∧ (s.putVisit v).timebase = s.timebase ∧ (s.putVisit v).part = s.part ∧
    (s.putVisit v).lines = s.lines ∧ (s.putVisit v).lane = s.lane ∧ (s.putVisit v).nextVisit = s.nextVisit ∧
    (s.putVisit v).register = s.register ∧ (s.putVisit v).hauliers = s.hauliers ∧
    (s.putVisit v).active = s.active ∧ (s.putVisit v).generation = s.generation ∧
    (s.putVisit v).staging = s.staging ∧ (s.putVisit v).disp = s.disp ∧ (s.putVisit v).bays = s.bays ∧
    (s.putVisit v).water = s.water ∧ (s.putVisit v).tanks = s.tanks ∧ (s.putVisit v).service = s.service ∧
    (s.putVisit v).conv = s.conv ∧ (s.putVisit v).journal = s.journal ∧ (s.putVisit v).clock = s.clock ∧
    (s.putVisit v).links = s.links ∧ (s.putVisit v).store = s.store := by
  unfold State.putVisit
  simp

@[simp] theorem noteHeld_frame (s : State) (v w : Visit) :
    (s.noteHeld v w).pending = s.pending ∧ (s.noteHeld v w).timebase = s.timebase ∧
    (s.noteHeld v w).part = s.part ∧ (s.noteHeld v w).lines = s.lines ∧ (s.noteHeld v w).lane = s.lane ∧
    (s.noteHeld v w).queue = s.queue ∧ (s.noteHeld v w).nextVisit = s.nextVisit ∧
    (s.noteHeld v w).register = s.register ∧ (s.noteHeld v w).hauliers = s.hauliers ∧
    (s.noteHeld v w).active = s.active ∧ (s.noteHeld v w).generation = s.generation ∧
    (s.noteHeld v w).staging = s.staging ∧ (s.noteHeld v w).disp = s.disp ∧ (s.noteHeld v w).bays = s.bays ∧
    (s.noteHeld v w).water = s.water ∧ (s.noteHeld v w).tanks = s.tanks ∧ (s.noteHeld v w).service = s.service ∧
    (s.noteHeld v w).conv = s.conv ∧ (s.noteHeld v w).journal = s.journal ∧ (s.noteHeld v w).clock = s.clock ∧
    (s.noteHeld v w).store = s.store := by
  unfold State.noteHeld
  repeat' split
  all_goals simp

@[simp] theorem noteChange_frame (s : State) (v w : Visit) :
    (s.noteChange v w).pending = s.pending ∧ (s.noteChange v w).timebase = s.timebase ∧
    (s.noteChange v w).part = s.part ∧ (s.noteChange v w).lines = s.lines ∧ (s.noteChange v w).lane = s.lane ∧
    (s.noteChange v w).queue = s.queue ∧ (s.noteChange v w).nextVisit = s.nextVisit ∧
    (s.noteChange v w).register = s.register ∧ (s.noteChange v w).hauliers = s.hauliers ∧
    (s.noteChange v w).active = s.active ∧ (s.noteChange v w).generation = s.generation ∧
    (s.noteChange v w).staging = s.staging ∧ (s.noteChange v w).bays = s.bays ∧
    (s.noteChange v w).water = s.water ∧ (s.noteChange v w).tanks = s.tanks ∧
    (s.noteChange v w).service = s.service ∧ (s.noteChange v w).conv = s.conv ∧
    (s.noteChange v w).journal = s.journal ∧ (s.noteChange v w).clock = s.clock ∧
    (s.noteChange v w).links = s.links ∧ (s.noteChange v w).store = s.store := by
  unfold State.noteChange
  repeat' split
  all_goals simp

@[simp] theorem changeVisit_frame (s : State) (n : Nat) (f : Visit → Visit) :
    (s.changeVisit n f).pending = s.pending ∧ (s.changeVisit n f).timebase = s.timebase ∧
    (s.changeVisit n f).part = s.part ∧ (s.changeVisit n f).lines = s.lines ∧ (s.changeVisit n f).lane = s.lane ∧
    (s.changeVisit n f).nextVisit = s.nextVisit ∧ (s.changeVisit n f).register = s.register ∧
    (s.changeVisit n f).hauliers = s.hauliers ∧ (s.changeVisit n f).active = s.active ∧
    (s.changeVisit n f).generation = s.generation ∧ (s.changeVisit n f).staging = s.staging ∧
    (s.changeVisit n f).bays = s.bays ∧ (s.changeVisit n f).water = s.water ∧ (s.changeVisit n f).tanks = s.tanks ∧
    (s.changeVisit n f).service = s.service ∧ (s.changeVisit n f).conv = s.conv ∧
    (s.changeVisit n f).journal = s.journal ∧ (s.changeVisit n f).clock = s.clock ∧
    (s.changeVisit n f).store = s.store := by
  unfold State.changeVisit
  repeat' split
  all_goals simp

@[simp] theorem joinQueue_frame (s : State) (v : Visit) :
    (s.joinQueue v).pending = s.pending ∧ (s.joinQueue v).timebase = s.timebase ∧ (s.joinQueue v).part = s.part ∧
    (s.joinQueue v).lines = s.lines ∧ (s.joinQueue v).lane = s.lane ∧ (s.joinQueue v).register = s.register ∧
    (s.joinQueue v).hauliers = s.hauliers ∧ (s.joinQueue v).active = s.active ∧
    (s.joinQueue v).generation = s.generation ∧ (s.joinQueue v).staging = s.staging ∧
    (s.joinQueue v).disp = s.disp ∧ (s.joinQueue v).bays = s.bays ∧ (s.joinQueue v).water = s.water ∧
    (s.joinQueue v).tanks = s.tanks ∧ (s.joinQueue v).service = s.service ∧ (s.joinQueue v).conv = s.conv ∧
    (s.joinQueue v).journal = s.journal ∧ (s.joinQueue v).clock = s.clock ∧ (s.joinQueue v).links = s.links ∧
    (s.joinQueue v).store = s.store := by
  unfold State.joinQueue
  simp

@[simp] theorem dropVisit_frame (s : State) (n : Nat) :
    (s.dropVisit n).pending = s.pending ∧ (s.dropVisit n).timebase = s.timebase ∧ (s.dropVisit n).part = s.part ∧
    (s.dropVisit n).lines = s.lines ∧ (s.dropVisit n).nextVisit = s.nextVisit ∧
    (s.dropVisit n).register = s.register ∧ (s.dropVisit n).hauliers = s.hauliers ∧
    (s.dropVisit n).active = s.active ∧ (s.dropVisit n).generation = s.generation ∧
    (s.dropVisit n).staging = s.staging ∧ (s.dropVisit n).disp = s.disp ∧ (s.dropVisit n).bays = s.bays ∧
    (s.dropVisit n).water = s.water ∧ (s.dropVisit n).tanks = s.tanks ∧ (s.dropVisit n).service = s.service ∧
    (s.dropVisit n).conv = s.conv ∧ (s.dropVisit n).journal = s.journal ∧ (s.dropVisit n).clock = s.clock ∧
    (s.dropVisit n).links = s.links ∧ (s.dropVisit n).store = s.store := by
  unfold State.dropVisit
  simp

@[simp] theorem cancelCall_frame (s : State) (b : Bay) :
    (s.cancelCall b).pending = s.pending ∧ (s.cancelCall b).timebase = s.timebase ∧
    (s.cancelCall b).part = s.part ∧ (s.cancelCall b).lines = s.lines ∧ (s.cancelCall b).lane = s.lane ∧
    (s.cancelCall b).queue = s.queue ∧ (s.cancelCall b).nextVisit = s.nextVisit ∧
    (s.cancelCall b).register = s.register ∧ (s.cancelCall b).hauliers = s.hauliers ∧
    (s.cancelCall b).active = s.active ∧ (s.cancelCall b).generation = s.generation ∧
    (s.cancelCall b).staging = s.staging ∧ (s.cancelCall b).water = s.water ∧ (s.cancelCall b).tanks = s.tanks ∧
    (s.cancelCall b).service = s.service ∧ (s.cancelCall b).conv = s.conv ∧ (s.cancelCall b).clock = s.clock ∧
    (s.cancelCall b).store = s.store := by
  unfold State.cancelCall
  simp

@[simp] theorem removeVisit_frame (s : State) (n : Nat) :
    (s.removeVisit n).pending = s.pending ∧ (s.removeVisit n).timebase = s.timebase ∧
    (s.removeVisit n).part = s.part ∧ (s.removeVisit n).lines = s.lines ∧
    (s.removeVisit n).nextVisit = s.nextVisit ∧ (s.removeVisit n).register = s.register ∧
    (s.removeVisit n).hauliers = s.hauliers ∧ (s.removeVisit n).active = s.active ∧
    (s.removeVisit n).generation = s.generation ∧ (s.removeVisit n).staging = s.staging ∧
    (s.removeVisit n).water = s.water ∧ (s.removeVisit n).tanks = s.tanks ∧ (s.removeVisit n).service = s.service ∧
    (s.removeVisit n).conv = s.conv ∧ (s.removeVisit n).clock = s.clock ∧ (s.removeVisit n).store = s.store := by
  unfold State.removeVisit
  repeat' split
  all_goals simp

@[simp] theorem handOver_frame (s : State) (n : Nat) (x y z : Option Nat) (w : LaneVerdict) :
    (s.handOver n x y z w).pending = s.pending ∧ (s.handOver n x y z w).timebase = s.timebase ∧
    (s.handOver n x y z w).part = s.part ∧ (s.handOver n x y z w).lines = s.lines ∧
    (s.handOver n x y z w).lane = s.lane ∧ (s.handOver n x y z w).nextVisit = s.nextVisit ∧
    (s.handOver n x y z w).register = s.register ∧ (s.handOver n x y z w).hauliers = s.hauliers ∧
    (s.handOver n x y z w).active = s.active ∧ (s.handOver n x y z w).generation = s.generation ∧
    (s.handOver n x y z w).staging = s.staging ∧ (s.handOver n x y z w).bays = s.bays ∧
    (s.handOver n x y z w).water = s.water ∧ (s.handOver n x y z w).tanks = s.tanks ∧
    (s.handOver n x y z w).service = s.service ∧ (s.handOver n x y z w).conv = s.conv ∧
    (s.handOver n x y z w).journal = s.journal ∧ (s.handOver n x y z w).clock = s.clock ∧
    (s.handOver n x y z w).store = s.store := by
  unfold State.handOver
  simp

@[simp] theorem offerQueued_frame (s : State) (v : Visit) (id : TagId) :
    (s.offerQueued v id).pending = s.pending ∧ (s.offerQueued v id).timebase = s.timebase ∧
    (s.offerQueued v id).part = s.part ∧ (s.offerQueued v id).lines = s.lines ∧
    (s.offerQueued v id).lane = s.lane ∧ (s.offerQueued v id).nextVisit = s.nextVisit ∧
    (s.offerQueued v id).register = s.register ∧ (s.offerQueued v id).hauliers = s.hauliers ∧
    (s.offerQueued v id).active = s.active ∧ (s.offerQueued v id).generation = s.generation ∧
    (s.offerQueued v id).staging = s.staging ∧ (s.offerQueued v id).bays = s.bays ∧
    (s.offerQueued v id).water = s.water ∧ (s.offerQueued v id).tanks = s.tanks ∧
    (s.offerQueued v id).service = s.service ∧ (s.offerQueued v id).conv = s.conv ∧
    (s.offerQueued v id).journal = s.journal ∧ (s.offerQueued v id).clock = s.clock ∧
    (s.offerQueued v id).store = s.store := by
  unfold State.offerQueued
  repeat' split
  all_goals simp

@[simp] theorem adoptInBay_frame (s : State) (b : Bay) (id : TagId) :
    (s.adoptInBay b id).pending = s.pending ∧ (s.adoptInBay b id).timebase = s.timebase ∧
    (s.adoptInBay b id).part = s.part ∧ (s.adoptInBay b id).lines = s.lines ∧ (s.adoptInBay b id).lane = s.lane ∧
    (s.adoptInBay b id).queue = s.queue ∧ (s.adoptInBay b id).nextVisit = s.nextVisit ∧
    (s.adoptInBay b id).register = s.register ∧ (s.adoptInBay b id).hauliers = s.hauliers ∧
    (s.adoptInBay b id).active = s.active ∧ (s.adoptInBay b id).generation = s.generation ∧
    (s.adoptInBay b id).staging = s.staging ∧ (s.adoptInBay b id).disp = s.disp ∧
    (s.adoptInBay b id).water = s.water ∧ (s.adoptInBay b id).tanks = s.tanks ∧
    (s.adoptInBay b id).service = s.service ∧ (s.adoptInBay b id).conv = s.conv ∧
    (s.adoptInBay b id).journal = s.journal ∧ (s.adoptInBay b id).clock = s.clock ∧
    (s.adoptInBay b id).links = s.links ∧ (s.adoptInBay b id).store = s.store := by
  unfold State.adoptInBay
  simp

@[simp] theorem offerRead_frame (s : State) (n : Nat) (id : TagId) :
    (s.offerRead n id).pending = s.pending ∧ (s.offerRead n id).timebase = s.timebase ∧
    (s.offerRead n id).part = s.part ∧ (s.offerRead n id).lines = s.lines ∧ (s.offerRead n id).lane = s.lane ∧
    (s.offerRead n id).nextVisit = s.nextVisit ∧ (s.offerRead n id).register = s.register ∧
    (s.offerRead n id).hauliers = s.hauliers ∧ (s.offerRead n id).active = s.active ∧
    (s.offerRead n id).generation = s.generation ∧ (s.offerRead n id).staging = s.staging ∧
    (s.offerRead n id).water = s.water ∧ (s.offerRead n id).tanks = s.tanks ∧
    (s.offerRead n id).service = s.service ∧ (s.offerRead n id).conv = s.conv ∧
    (s.offerRead n id).journal = s.journal ∧ (s.offerRead n id).clock = s.clock ∧
    (s.offerRead n id).store = s.store := by
  unfold State.offerRead State.offerCalled
  repeat' split
  all_goals simp

@[simp] theorem windowClosed_frame (s : State) (n : Nat) :
    (s.windowClosed n).pending = s.pending ∧ (s.windowClosed n).timebase = s.timebase ∧
    (s.windowClosed n).part = s.part ∧ (s.windowClosed n).lines = s.lines ∧ (s.windowClosed n).lane = s.lane ∧
    (s.windowClosed n).nextVisit = s.nextVisit ∧ (s.windowClosed n).register = s.register ∧
    (s.windowClosed n).hauliers = s.hauliers ∧ (s.windowClosed n).active = s.active ∧
    (s.windowClosed n).generation = s.generation ∧ (s.windowClosed n).staging = s.staging ∧
    (s.windowClosed n).bays = s.bays ∧ (s.windowClosed n).water = s.water ∧ (s.windowClosed n).tanks = s.tanks ∧
    (s.windowClosed n).service = s.service ∧ (s.windowClosed n).conv = s.conv ∧
    (s.windowClosed n).journal = s.journal ∧ (s.windowClosed n).clock = s.clock ∧
    (s.windowClosed n).store = s.store := by
  unfold State.windowClosed
  simp

@[simp] theorem identExpired_frame (s : State) (n : Nat) :
    (s.identExpired n).pending = s.pending ∧ (s.identExpired n).timebase = s.timebase ∧
    (s.identExpired n).part = s.part ∧ (s.identExpired n).lines = s.lines ∧ (s.identExpired n).lane = s.lane ∧
    (s.identExpired n).nextVisit = s.nextVisit ∧ (s.identExpired n).register = s.register ∧
    (s.identExpired n).hauliers = s.hauliers ∧ (s.identExpired n).active = s.active ∧
    (s.identExpired n).generation = s.generation ∧ (s.identExpired n).staging = s.staging ∧
    (s.identExpired n).bays = s.bays ∧ (s.identExpired n).water = s.water ∧ (s.identExpired n).tanks = s.tanks ∧
    (s.identExpired n).service = s.service ∧ (s.identExpired n).conv = s.conv ∧
    (s.identExpired n).journal = s.journal ∧ (s.identExpired n).clock = s.clock ∧
    (s.identExpired n).store = s.store := by
  unfold State.identExpired
  simp

@[simp] theorem matchWaiting_frame (s : State) (e : VehicleEntry) :
    (s.matchWaiting e).pending = s.pending ∧ (s.matchWaiting e).timebase = s.timebase ∧
    (s.matchWaiting e).part = s.part ∧ (s.matchWaiting e).lines = s.lines ∧ (s.matchWaiting e).lane = s.lane ∧
    (s.matchWaiting e).nextVisit = s.nextVisit ∧ (s.matchWaiting e).register = s.register ∧
    (s.matchWaiting e).hauliers = s.hauliers ∧ (s.matchWaiting e).active = s.active ∧
    (s.matchWaiting e).generation = s.generation ∧ (s.matchWaiting e).staging = s.staging ∧
    (s.matchWaiting e).bays = s.bays ∧ (s.matchWaiting e).water = s.water ∧ (s.matchWaiting e).tanks = s.tanks ∧
    (s.matchWaiting e).service = s.service ∧ (s.matchWaiting e).conv = s.conv ∧
    (s.matchWaiting e).journal = s.journal ∧ (s.matchWaiting e).clock = s.clock ∧
    (s.matchWaiting e).store = s.store := by
  unfold State.matchWaiting
  and_intros <;> exact keep_foldl _ _ (fun t x => by split <;> simp) _ _

@[simp] theorem giveHeldNotice_frame (s : State) (m : Measurement) (n : Nat) :
    (s.giveHeldNotice m n).pending = s.pending ∧ (s.giveHeldNotice m n).timebase = s.timebase ∧
    (s.giveHeldNotice m n).part = s.part ∧ (s.giveHeldNotice m n).lines = s.lines ∧
    (s.giveHeldNotice m n).lane = s.lane ∧ (s.giveHeldNotice m n).nextVisit = s.nextVisit ∧
    (s.giveHeldNotice m n).register = s.register ∧ (s.giveHeldNotice m n).hauliers = s.hauliers ∧
    (s.giveHeldNotice m n).active = s.active ∧ (s.giveHeldNotice m n).generation = s.generation ∧
    (s.giveHeldNotice m n).staging = s.staging ∧ (s.giveHeldNotice m n).bays = s.bays ∧
    (s.giveHeldNotice m n).water = s.water ∧ (s.giveHeldNotice m n).tanks = s.tanks ∧
    (s.giveHeldNotice m n).service = s.service ∧ (s.giveHeldNotice m n).conv = s.conv ∧
    (s.giveHeldNotice m n).journal = s.journal ∧ (s.giveHeldNotice m n).clock = s.clock ∧
    (s.giveHeldNotice m n).store = s.store := by
  unfold State.giveHeldNotice
  repeat' split
  all_goals simp

@[simp] theorem report_frame (s : State) (m : Measurement) (x : Option Nat) :
    (s.report m x).pending = s.pending ∧ (s.report m x).timebase = s.timebase ∧ (s.report m x).part = s.part ∧
    (s.report m x).lines = s.lines ∧ (s.report m x).lane = s.lane ∧ (s.report m x).nextVisit = s.nextVisit ∧
    (s.report m x).register = s.register ∧ (s.report m x).hauliers = s.hauliers ∧
    (s.report m x).active = s.active ∧ (s.report m x).generation = s.generation ∧
    (s.report m x).staging = s.staging ∧ (s.report m x).bays = s.bays ∧ (s.report m x).water = s.water ∧
    (s.report m x).tanks = s.tanks ∧ (s.report m x).service = s.service ∧ (s.report m x).conv = s.conv ∧
    (s.report m x).journal = s.journal ∧ (s.report m x).clock = s.clock ∧ (s.report m x).store = s.store := by
  unfold State.report
  repeat' split
  all_goals simp

@[simp] theorem rearm_frame (s : State) :
    (s.rearm).pending = s.pending ∧ (s.rearm).timebase = s.timebase ∧ (s.rearm).part = s.part ∧
    (s.rearm).lines = s.lines ∧ (s.rearm).queue = s.queue ∧ (s.rearm).nextVisit = s.nextVisit ∧
    (s.rearm).register = s.register ∧ (s.rearm).hauliers = s.hauliers ∧ (s.rearm).active = s.active ∧
    (s.rearm).generation = s.generation ∧ (s.rearm).staging = s.staging ∧ (s.rearm).disp = s.disp ∧
    (s.rearm).bays = s.bays ∧ (s.rearm).water = s.water ∧ (s.rearm).tanks = s.tanks ∧
    (s.rearm).service = s.service ∧ (s.rearm).conv = s.conv ∧ (s.rearm).journal = s.journal ∧
    (s.rearm).clock = s.clock ∧ (s.rearm).links = s.links ∧ (s.rearm).store = s.store := by
  unfold State.rearm
  simp

@[simp] theorem complete_frame (s : State) (m : Measurement) (x : Option Nat) :
    (s.complete m x).pending = s.pending ∧ (s.complete m x).timebase = s.timebase ∧
    (s.complete m x).part = s.part ∧ (s.complete m x).lines = s.lines ∧ (s.complete m x).nextVisit = s.nextVisit ∧
    (s.complete m x).register = s.register ∧ (s.complete m x).hauliers = s.hauliers ∧
    (s.complete m x).active = s.active ∧ (s.complete m x).generation = s.generation ∧
    (s.complete m x).staging = s.staging ∧ (s.complete m x).bays = s.bays ∧ (s.complete m x).water = s.water ∧
    (s.complete m x).tanks = s.tanks ∧ (s.complete m x).service = s.service ∧ (s.complete m x).conv = s.conv ∧
    (s.complete m x).journal = s.journal ∧ (s.complete m x).clock = s.clock ∧ (s.complete m x).store = s.store := by
  unfold State.complete
  simp

@[simp] theorem stuckEnd_frame (s : State) (m : Measurement) :
    (s.stuckEnd m).pending = s.pending ∧ (s.stuckEnd m).timebase = s.timebase ∧ (s.stuckEnd m).part = s.part ∧
    (s.stuckEnd m).lines = s.lines ∧ (s.stuckEnd m).lane = s.lane ∧ (s.stuckEnd m).nextVisit = s.nextVisit ∧
    (s.stuckEnd m).register = s.register ∧ (s.stuckEnd m).hauliers = s.hauliers ∧
    (s.stuckEnd m).active = s.active ∧ (s.stuckEnd m).generation = s.generation ∧
    (s.stuckEnd m).staging = s.staging ∧ (s.stuckEnd m).bays = s.bays ∧ (s.stuckEnd m).water = s.water ∧
    (s.stuckEnd m).tanks = s.tanks ∧ (s.stuckEnd m).service = s.service ∧ (s.stuckEnd m).conv = s.conv ∧
    (s.stuckEnd m).journal = s.journal ∧ (s.stuckEnd m).clock = s.clock ∧ (s.stuckEnd m).store = s.store := by
  unfold State.stuckEnd
  simp

@[simp] theorem closeNotice_frame (s : State) (w : TagWindow) :
    (s.closeNotice w).pending = s.pending ∧ (s.closeNotice w).timebase = s.timebase ∧
    (s.closeNotice w).part = s.part ∧ (s.closeNotice w).lines = s.lines ∧
    (s.closeNotice w).nextVisit = s.nextVisit ∧ (s.closeNotice w).register = s.register ∧
    (s.closeNotice w).hauliers = s.hauliers ∧ (s.closeNotice w).active = s.active ∧
    (s.closeNotice w).generation = s.generation ∧ (s.closeNotice w).staging = s.staging ∧
    (s.closeNotice w).bays = s.bays ∧ (s.closeNotice w).water = s.water ∧ (s.closeNotice w).tanks = s.tanks ∧
    (s.closeNotice w).service = s.service ∧ (s.closeNotice w).conv = s.conv ∧
    (s.closeNotice w).journal = s.journal ∧ (s.closeNotice w).clock = s.clock ∧
    (s.closeNotice w).store = s.store := by
  unfold State.closeNotice
  repeat' split
  all_goals simp

@[simp] theorem closeWindow_frame (s : State) (k : Nat) :
    (s.closeWindow k).pending = s.pending ∧ (s.closeWindow k).timebase = s.timebase ∧
    (s.closeWindow k).part = s.part ∧ (s.closeWindow k).lines = s.lines ∧
    (s.closeWindow k).nextVisit = s.nextVisit ∧ (s.closeWindow k).register = s.register ∧
    (s.closeWindow k).hauliers = s.hauliers ∧ (s.closeWindow k).active = s.active ∧
    (s.closeWindow k).generation = s.generation ∧ (s.closeWindow k).staging = s.staging ∧
    (s.closeWindow k).bays = s.bays ∧ (s.closeWindow k).water = s.water ∧ (s.closeWindow k).tanks = s.tanks ∧
    (s.closeWindow k).service = s.service ∧ (s.closeWindow k).conv = s.conv ∧
    (s.closeWindow k).journal = s.journal ∧ (s.closeWindow k).clock = s.clock ∧
    (s.closeWindow k).store = s.store := by
  unfold State.closeWindow
  repeat' split
  all_goals simp

@[simp] theorem windowTakes_frame (s : State) (v : Option Nat) (id : TagId) :
    (s.windowTakes v id).pending = s.pending ∧ (s.windowTakes v id).timebase = s.timebase ∧
    (s.windowTakes v id).part = s.part ∧ (s.windowTakes v id).lines = s.lines ∧
    (s.windowTakes v id).lane = s.lane ∧ (s.windowTakes v id).nextVisit = s.nextVisit ∧
    (s.windowTakes v id).register = s.register ∧ (s.windowTakes v id).hauliers = s.hauliers ∧
    (s.windowTakes v id).active = s.active ∧ (s.windowTakes v id).generation = s.generation ∧
    (s.windowTakes v id).staging = s.staging ∧ (s.windowTakes v id).water = s.water ∧
    (s.windowTakes v id).tanks = s.tanks ∧ (s.windowTakes v id).service = s.service ∧
    (s.windowTakes v id).conv = s.conv ∧ (s.windowTakes v id).journal = s.journal ∧
    (s.windowTakes v id).clock = s.clock ∧ (s.windowTakes v id).store = s.store := by
  unfold State.windowTakes
  repeat' split
  all_goals simp

@[simp] theorem openWindow_frame (s : State) (v : Option Nat) :
    (s.openWindow v).pending = s.pending ∧ (s.openWindow v).timebase = s.timebase ∧
    (s.openWindow v).part = s.part ∧ (s.openWindow v).lines = s.lines ∧ (s.openWindow v).nextVisit = s.nextVisit ∧
    (s.openWindow v).register = s.register ∧ (s.openWindow v).hauliers = s.hauliers ∧
    (s.openWindow v).active = s.active ∧ (s.openWindow v).generation = s.generation ∧
    (s.openWindow v).staging = s.staging ∧ (s.openWindow v).water = s.water ∧ (s.openWindow v).tanks = s.tanks ∧
    (s.openWindow v).service = s.service ∧ (s.openWindow v).conv = s.conv ∧ (s.openWindow v).journal = s.journal ∧
    (s.openWindow v).clock = s.clock ∧ (s.openWindow v).store = s.store := by
  unfold State.openWindow
  and_intros <;>
    exact (keep_foldl _ _ (fun t x => by simp) _ _).trans (by split <;> simp)

@[simp] theorem expireAtOff_frame (s : State) :
    (s.expireAtOff).pending = s.pending ∧ (s.expireAtOff).timebase = s.timebase ∧ (s.expireAtOff).part = s.part ∧
    (s.expireAtOff).lines = s.lines ∧ (s.expireAtOff).nextVisit = s.nextVisit ∧
    (s.expireAtOff).register = s.register ∧ (s.expireAtOff).hauliers = s.hauliers ∧
    (s.expireAtOff).active = s.active ∧ (s.expireAtOff).generation = s.generation ∧
    (s.expireAtOff).staging = s.staging ∧ (s.expireAtOff).bays = s.bays ∧ (s.expireAtOff).water = s.water ∧
    (s.expireAtOff).tanks = s.tanks ∧ (s.expireAtOff).service = s.service ∧ (s.expireAtOff).conv = s.conv ∧
    (s.expireAtOff).journal = s.journal ∧ (s.expireAtOff).clock = s.clock ∧ (s.expireAtOff).store = s.store := by
  unfold State.expireAtOff
  repeat' split
  all_goals simp

@[simp] theorem strayRead_frame (s : State) (r : TagRead) :
    (s.strayRead r).pending = s.pending ∧ (s.strayRead r).timebase = s.timebase ∧ (s.strayRead r).part = s.part ∧
    (s.strayRead r).lines = s.lines ∧ (s.strayRead r).lane = s.lane ∧ (s.strayRead r).queue = s.queue ∧
    (s.strayRead r).nextVisit = s.nextVisit ∧ (s.strayRead r).register = s.register ∧
    (s.strayRead r).hauliers = s.hauliers ∧ (s.strayRead r).active = s.active ∧
    (s.strayRead r).generation = s.generation ∧ (s.strayRead r).staging = s.staging ∧
    (s.strayRead r).disp = s.disp ∧ (s.strayRead r).bays = s.bays ∧ (s.strayRead r).water = s.water ∧
    (s.strayRead r).tanks = s.tanks ∧ (s.strayRead r).service = s.service ∧ (s.strayRead r).conv = s.conv ∧
    (s.strayRead r).journal = s.journal ∧ (s.strayRead r).clock = s.clock ∧ (s.strayRead r).store = s.store := by
  unfold State.strayRead
  simp

@[simp] theorem bufferRead_frame (s : State) (id : TagId) :
    (s.bufferRead id).pending = s.pending ∧ (s.bufferRead id).timebase = s.timebase ∧
    (s.bufferRead id).part = s.part ∧ (s.bufferRead id).lines = s.lines ∧ (s.bufferRead id).queue = s.queue ∧
    (s.bufferRead id).nextVisit = s.nextVisit ∧ (s.bufferRead id).register = s.register ∧
    (s.bufferRead id).hauliers = s.hauliers ∧ (s.bufferRead id).active = s.active ∧
    (s.bufferRead id).generation = s.generation ∧ (s.bufferRead id).staging = s.staging ∧
    (s.bufferRead id).disp = s.disp ∧ (s.bufferRead id).bays = s.bays ∧ (s.bufferRead id).water = s.water ∧
    (s.bufferRead id).tanks = s.tanks ∧ (s.bufferRead id).service = s.service ∧ (s.bufferRead id).conv = s.conv ∧
    (s.bufferRead id).journal = s.journal ∧ (s.bufferRead id).clock = s.clock ∧
    (s.bufferRead id).store = s.store := by
  unfold State.bufferRead
  dsimp only
  repeat' split
  all_goals simp

@[simp] theorem takeRead_frame (s : State) (id : TagId) :
    (s.takeRead id).pending = s.pending ∧ (s.takeRead id).timebase = s.timebase ∧ (s.takeRead id).part = s.part ∧
    (s.takeRead id).lines = s.lines ∧ (s.takeRead id).nextVisit = s.nextVisit ∧
    (s.takeRead id).register = s.register ∧ (s.takeRead id).hauliers = s.hauliers ∧
    (s.takeRead id).active = s.active ∧ (s.takeRead id).generation = s.generation ∧
    (s.takeRead id).staging = s.staging ∧ (s.takeRead id).water = s.water ∧ (s.takeRead id).tanks = s.tanks ∧
    (s.takeRead id).service = s.service ∧ (s.takeRead id).conv = s.conv ∧ (s.takeRead id).journal = s.journal ∧
    (s.takeRead id).clock = s.clock ∧ (s.takeRead id).store = s.store := by
  unfold State.takeRead
  repeat' split
  all_goals simp

@[simp] theorem takeTagFrame_frame (s : State) (id : TagId) (c : Byte) :
    (s.takeTagFrame id c).pending = s.pending ∧ (s.takeTagFrame id c).timebase = s.timebase ∧
    (s.takeTagFrame id c).part = s.part ∧ (s.takeTagFrame id c).lines = s.lines ∧
    (s.takeTagFrame id c).nextVisit = s.nextVisit ∧ (s.takeTagFrame id c).register = s.register ∧
    (s.takeTagFrame id c).hauliers = s.hauliers ∧ (s.takeTagFrame id c).active = s.active ∧
    (s.takeTagFrame id c).generation = s.generation ∧ (s.takeTagFrame id c).staging = s.staging ∧
    (s.takeTagFrame id c).water = s.water ∧ (s.takeTagFrame id c).tanks = s.tanks ∧
    (s.takeTagFrame id c).service = s.service ∧ (s.takeTagFrame id c).conv = s.conv ∧
    (s.takeTagFrame id c).journal = s.journal ∧ (s.takeTagFrame id c).clock = s.clock ∧
    (s.takeTagFrame id c).store = s.store := by
  unfold State.takeTagFrame
  repeat' split
  all_goals simp

@[simp] theorem startMeasurement_frame (s : State) :
    (s.startMeasurement).pending = s.pending ∧ (s.startMeasurement).timebase = s.timebase ∧
    (s.startMeasurement).part = s.part ∧ (s.startMeasurement).lines = s.lines ∧
    (s.startMeasurement).register = s.register ∧ (s.startMeasurement).hauliers = s.hauliers ∧
    (s.startMeasurement).active = s.active ∧ (s.startMeasurement).generation = s.generation ∧
    (s.startMeasurement).staging = s.staging ∧ (s.startMeasurement).water = s.water ∧
    (s.startMeasurement).tanks = s.tanks ∧ (s.startMeasurement).service = s.service ∧
    (s.startMeasurement).conv = s.conv ∧ (s.startMeasurement).journal = s.journal ∧
    (s.startMeasurement).clock = s.clock ∧ (s.startMeasurement).store = s.store := by
  unfold State.startMeasurement State.createVisit
  dsimp only
  repeat' split
  all_goals simp_all

@[simp] theorem tailgate_frame (s : State) (m : Measurement) :
    (s.tailgate m).pending = s.pending ∧ (s.tailgate m).timebase = s.timebase ∧ (s.tailgate m).part = s.part ∧
    (s.tailgate m).lines = s.lines ∧ (s.tailgate m).register = s.register ∧ (s.tailgate m).hauliers = s.hauliers ∧
    (s.tailgate m).active = s.active ∧ (s.tailgate m).generation = s.generation ∧
    (s.tailgate m).staging = s.staging ∧ (s.tailgate m).water = s.water ∧ (s.tailgate m).tanks = s.tanks ∧
    (s.tailgate m).service = s.service ∧ (s.tailgate m).conv = s.conv ∧ (s.tailgate m).journal = s.journal ∧
    (s.tailgate m).clock = s.clock ∧ (s.tailgate m).store = s.store := by
  unfold State.tailgate State.createVisit
  dsimp only
  repeat' split
  all_goals simp_all

@[simp] theorem aOn_frame (s : State) :
    (s.aOn).pending = s.pending ∧ (s.aOn).timebase = s.timebase ∧ (s.aOn).part = s.part ∧ (s.aOn).lines = s.lines ∧
    (s.aOn).register = s.register ∧ (s.aOn).hauliers = s.hauliers ∧ (s.aOn).active = s.active ∧
    (s.aOn).generation = s.generation ∧ (s.aOn).staging = s.staging ∧ (s.aOn).water = s.water ∧
    (s.aOn).tanks = s.tanks ∧ (s.aOn).service = s.service ∧ (s.aOn).conv = s.conv ∧ (s.aOn).journal = s.journal ∧
    (s.aOn).clock = s.clock ∧ (s.aOn).store = s.store := by
  unfold State.aOn
  repeat' split
  all_goals simp

@[simp] theorem aOffMeasurement_frame (s : State) :
    (s.aOffMeasurement).pending = s.pending ∧ (s.aOffMeasurement).timebase = s.timebase ∧
    (s.aOffMeasurement).part = s.part ∧ (s.aOffMeasurement).lines = s.lines ∧
    (s.aOffMeasurement).nextVisit = s.nextVisit ∧ (s.aOffMeasurement).register = s.register ∧
    (s.aOffMeasurement).hauliers = s.hauliers ∧ (s.aOffMeasurement).active = s.active ∧
    (s.aOffMeasurement).generation = s.generation ∧ (s.aOffMeasurement).staging = s.staging ∧
    (s.aOffMeasurement).bays = s.bays ∧ (s.aOffMeasurement).water = s.water ∧ (s.aOffMeasurement).tanks = s.tanks ∧
    (s.aOffMeasurement).service = s.service ∧ (s.aOffMeasurement).conv = s.conv ∧
    (s.aOffMeasurement).journal = s.journal ∧ (s.aOffMeasurement).clock = s.clock ∧
    (s.aOffMeasurement).store = s.store := by
  unfold State.aOffMeasurement
  dsimp only
  repeat' split
  all_goals simp

@[simp] theorem aOff_frame (s : State) :
    (s.aOff).pending = s.pending ∧ (s.aOff).timebase = s.timebase ∧ (s.aOff).part = s.part ∧
    (s.aOff).lines = s.lines ∧ (s.aOff).nextVisit = s.nextVisit ∧ (s.aOff).register = s.register ∧
    (s.aOff).hauliers = s.hauliers ∧ (s.aOff).active = s.active ∧ (s.aOff).generation = s.generation ∧
    (s.aOff).staging = s.staging ∧ (s.aOff).bays = s.bays ∧ (s.aOff).water = s.water ∧ (s.aOff).tanks = s.tanks ∧
    (s.aOff).service = s.service ∧ (s.aOff).conv = s.conv ∧ (s.aOff).journal = s.journal ∧
    (s.aOff).clock = s.clock ∧ (s.aOff).store = s.store := by
  unfold State.aOff
  repeat' split
  all_goals simp

@[simp] theorem bOn_frame (s : State) :
    (s.bOn).pending = s.pending ∧ (s.bOn).timebase = s.timebase ∧ (s.bOn).part = s.part ∧ (s.bOn).lines = s.lines ∧
    (s.bOn).nextVisit = s.nextVisit ∧ (s.bOn).register = s.register ∧ (s.bOn).hauliers = s.hauliers ∧
    (s.bOn).active = s.active ∧ (s.bOn).generation = s.generation ∧ (s.bOn).staging = s.staging ∧
    (s.bOn).bays = s.bays ∧ (s.bOn).water = s.water ∧ (s.bOn).tanks = s.tanks ∧ (s.bOn).service = s.service ∧
    (s.bOn).conv = s.conv ∧ (s.bOn).journal = s.journal ∧ (s.bOn).clock = s.clock ∧ (s.bOn).store = s.store := by
  unfold State.bOn
  dsimp only
  repeat' split
  all_goals simp

@[simp] theorem backout_frame (s : State) (m : Measurement) :
    (s.backout m).pending = s.pending ∧ (s.backout m).timebase = s.timebase ∧ (s.backout m).part = s.part ∧
    (s.backout m).lines = s.lines ∧ (s.backout m).nextVisit = s.nextVisit ∧ (s.backout m).register = s.register ∧
    (s.backout m).hauliers = s.hauliers ∧ (s.backout m).active = s.active ∧
    (s.backout m).generation = s.generation ∧ (s.backout m).staging = s.staging ∧ (s.backout m).water = s.water ∧
    (s.backout m).tanks = s.tanks ∧ (s.backout m).service = s.service ∧ (s.backout m).conv = s.conv ∧
    (s.backout m).clock = s.clock ∧ (s.backout m).store = s.store := by
  unfold State.backout
  repeat' split
  all_goals simp

@[simp] theorem transitExpired_frame (s : State) :
    (s.transitExpired).pending = s.pending ∧ (s.transitExpired).timebase = s.timebase ∧
    (s.transitExpired).part = s.part ∧ (s.transitExpired).lines = s.lines ∧
    (s.transitExpired).nextVisit = s.nextVisit ∧ (s.transitExpired).register = s.register ∧
    (s.transitExpired).hauliers = s.hauliers ∧ (s.transitExpired).active = s.active ∧
    (s.transitExpired).generation = s.generation ∧ (s.transitExpired).staging = s.staging ∧
    (s.transitExpired).water = s.water ∧ (s.transitExpired).tanks = s.tanks ∧
    (s.transitExpired).service = s.service ∧ (s.transitExpired).conv = s.conv ∧
    (s.transitExpired).clock = s.clock ∧ (s.transitExpired).store = s.store := by
  unfold State.transitExpired
  repeat' split
  all_goals simp

@[simp] theorem stuckExpired_frame (s : State) :
    (s.stuckExpired).pending = s.pending ∧ (s.stuckExpired).timebase = s.timebase ∧
    (s.stuckExpired).part = s.part ∧ (s.stuckExpired).lines = s.lines ∧ (s.stuckExpired).nextVisit = s.nextVisit ∧
    (s.stuckExpired).register = s.register ∧ (s.stuckExpired).hauliers = s.hauliers ∧
    (s.stuckExpired).active = s.active ∧ (s.stuckExpired).generation = s.generation ∧
    (s.stuckExpired).staging = s.staging ∧ (s.stuckExpired).bays = s.bays ∧ (s.stuckExpired).water = s.water ∧
    (s.stuckExpired).tanks = s.tanks ∧ (s.stuckExpired).service = s.service ∧ (s.stuckExpired).conv = s.conv ∧
    (s.stuckExpired).journal = s.journal ∧ (s.stuckExpired).clock = s.clock ∧ (s.stuckExpired).store = s.store := by
  unfold State.stuckExpired
  repeat' split
  all_goals simp

@[simp] theorem chancePassed_frame (s : State) (k : Nat) :
    (s.chancePassed k).pending = s.pending ∧ (s.chancePassed k).timebase = s.timebase ∧
    (s.chancePassed k).part = s.part ∧ (s.chancePassed k).lines = s.lines ∧ (s.chancePassed k).queue = s.queue ∧
    (s.chancePassed k).nextVisit = s.nextVisit ∧ (s.chancePassed k).register = s.register ∧
    (s.chancePassed k).hauliers = s.hauliers ∧ (s.chancePassed k).active = s.active ∧
    (s.chancePassed k).generation = s.generation ∧ (s.chancePassed k).staging = s.staging ∧
    (s.chancePassed k).disp = s.disp ∧ (s.chancePassed k).bays = s.bays ∧ (s.chancePassed k).water = s.water ∧
    (s.chancePassed k).tanks = s.tanks ∧ (s.chancePassed k).service = s.service ∧
    (s.chancePassed k).conv = s.conv ∧ (s.chancePassed k).journal = s.journal ∧
    (s.chancePassed k).clock = s.clock ∧ (s.chancePassed k).store = s.store := by
  unfold State.chancePassed
  repeat' split
  all_goals simp

@[simp] theorem windowExpired_frame (s : State) (k : Nat) :
    (s.windowExpired k).pending = s.pending ∧ (s.windowExpired k).timebase = s.timebase ∧
    (s.windowExpired k).part = s.part ∧ (s.windowExpired k).lines = s.lines ∧
    (s.windowExpired k).nextVisit = s.nextVisit ∧ (s.windowExpired k).register = s.register ∧
    (s.windowExpired k).hauliers = s.hauliers ∧ (s.windowExpired k).active = s.active ∧
    (s.windowExpired k).generation = s.generation ∧ (s.windowExpired k).staging = s.staging ∧
    (s.windowExpired k).bays = s.bays ∧ (s.windowExpired k).water = s.water ∧ (s.windowExpired k).tanks = s.tanks ∧
    (s.windowExpired k).service = s.service ∧ (s.windowExpired k).conv = s.conv ∧
    (s.windowExpired k).journal = s.journal ∧ (s.windowExpired k).clock = s.clock ∧
    (s.windowExpired k).store = s.store := by
  unfold State.windowExpired
  repeat' split
  all_goals simp

@[simp] theorem tagByte_frame (s : State) (b : Byte) :
    (s.tagByte b).pending = s.pending ∧ (s.tagByte b).timebase = s.timebase ∧ (s.tagByte b).part = s.part ∧
    (s.tagByte b).lines = s.lines ∧ (s.tagByte b).nextVisit = s.nextVisit ∧ (s.tagByte b).register = s.register ∧
    (s.tagByte b).hauliers = s.hauliers ∧ (s.tagByte b).active = s.active ∧
    (s.tagByte b).generation = s.generation ∧ (s.tagByte b).staging = s.staging ∧ (s.tagByte b).water = s.water ∧
    (s.tagByte b).tanks = s.tanks ∧ (s.tagByte b).service = s.service ∧ (s.tagByte b).conv = s.conv ∧
    (s.tagByte b).journal = s.journal ∧ (s.tagByte b).clock = s.clock ∧ (s.tagByte b).store = s.store := by
  unfold State.tagByte
  dsimp only
  repeat' split
  all_goals simp

end Sys2Proof.Machine
end

