-- ==== Sys2Proof/Laws/BlockFrames.lean ====
section
/-! SUPPORT. Frames: for each operation, every field of State it leaves alone (the tanks, the bays, the Dispatcher and the clock). -/

namespace Sys2Proof.Machine

@[simp] theorem request_frame (s : State) (p : Probe) (f : ConvRequest → ConvRequest) :
    (s.request p f).pending = s.pending ∧ (s.request p f).timebase = s.timebase ∧ (s.request p f).part = s.part ∧
    (s.request p f).lines = s.lines ∧ (s.request p f).lane = s.lane ∧ (s.request p f).queue = s.queue ∧
    (s.request p f).nextVisit = s.nextVisit ∧ (s.request p f).register = s.register ∧
    (s.request p f).hauliers = s.hauliers ∧ (s.request p f).active = s.active ∧
    (s.request p f).generation = s.generation ∧ (s.request p f).staging = s.staging ∧
    (s.request p f).disp = s.disp ∧ (s.request p f).bays = s.bays ∧ (s.request p f).water = s.water ∧
    (s.request p f).tanks = s.tanks ∧ (s.request p f).service = s.service ∧ (s.request p f).journal = s.journal ∧
    (s.request p f).clock = s.clock ∧ (s.request p f).links = s.links ∧ (s.request p f).store = s.store := by
  unfold State.request
  simp

@[simp] theorem requestBoth_frame (s : State) (t : Tank) :
    (s.requestBoth t).pending = s.pending ∧ (s.requestBoth t).timebase = s.timebase ∧
    (s.requestBoth t).part = s.part ∧ (s.requestBoth t).lines = s.lines ∧ (s.requestBoth t).lane = s.lane ∧
    (s.requestBoth t).queue = s.queue ∧ (s.requestBoth t).nextVisit = s.nextVisit ∧
    (s.requestBoth t).register = s.register ∧ (s.requestBoth t).hauliers = s.hauliers ∧
    (s.requestBoth t).active = s.active ∧ (s.requestBoth t).generation = s.generation ∧
    (s.requestBoth t).staging = s.staging ∧ (s.requestBoth t).disp = s.disp ∧ (s.requestBoth t).bays = s.bays ∧
    (s.requestBoth t).water = s.water ∧ (s.requestBoth t).tanks = s.tanks ∧ (s.requestBoth t).service = s.service ∧
    (s.requestBoth t).journal = s.journal ∧ (s.requestBoth t).clock = s.clock ∧ (s.requestBoth t).links = s.links ∧
    (s.requestBoth t).store = s.store := by
  unfold State.requestBoth
  simp

@[simp] theorem abandon_frame (s : State) (t : Tank) :
    (s.abandon t).pending = s.pending ∧ (s.abandon t).timebase = s.timebase ∧ (s.abandon t).part = s.part ∧
    (s.abandon t).lines = s.lines ∧ (s.abandon t).lane = s.lane ∧ (s.abandon t).queue = s.queue ∧
    (s.abandon t).nextVisit = s.nextVisit ∧ (s.abandon t).register = s.register ∧
    (s.abandon t).hauliers = s.hauliers ∧ (s.abandon t).active = s.active ∧
    (s.abandon t).generation = s.generation ∧ (s.abandon t).staging = s.staging ∧ (s.abandon t).disp = s.disp ∧
    (s.abandon t).bays = s.bays ∧ (s.abandon t).water = s.water ∧ (s.abandon t).service = s.service ∧
    (s.abandon t).journal = s.journal ∧ (s.abandon t).clock = s.clock ∧ (s.abandon t).links = s.links ∧
    (s.abandon t).store = s.store := by
  unfold State.abandon
  repeat' split
  all_goals simp

@[simp] theorem beginSampling_frame (s : State) (t : Tank) :
    (s.beginSampling t).pending = s.pending ∧ (s.beginSampling t).timebase = s.timebase ∧
    (s.beginSampling t).part = s.part ∧ (s.beginSampling t).lines = s.lines ∧ (s.beginSampling t).lane = s.lane ∧
    (s.beginSampling t).queue = s.queue ∧ (s.beginSampling t).nextVisit = s.nextVisit ∧
    (s.beginSampling t).register = s.register ∧ (s.beginSampling t).hauliers = s.hauliers ∧
    (s.beginSampling t).active = s.active ∧ (s.beginSampling t).generation = s.generation ∧
    (s.beginSampling t).staging = s.staging ∧ (s.beginSampling t).disp = s.disp ∧
    (s.beginSampling t).bays = s.bays ∧ (s.beginSampling t).water = s.water ∧
    (s.beginSampling t).service = s.service ∧ (s.beginSampling t).journal = s.journal ∧
    (s.beginSampling t).clock = s.clock ∧ (s.beginSampling t).links = s.links ∧
    (s.beginSampling t).store = s.store := by
  unfold State.beginSampling
  simp

@[simp] theorem startState_frame (s : State) (t : Tank) :
    (s.startState t).pending = s.pending ∧ (s.startState t).timebase = s.timebase ∧
    (s.startState t).part = s.part ∧ (s.startState t).lines = s.lines ∧ (s.startState t).lane = s.lane ∧
    (s.startState t).queue = s.queue ∧ (s.startState t).nextVisit = s.nextVisit ∧
    (s.startState t).register = s.register ∧ (s.startState t).hauliers = s.hauliers ∧
    (s.startState t).active = s.active ∧ (s.startState t).generation = s.generation ∧
    (s.startState t).staging = s.staging ∧ (s.startState t).disp = s.disp ∧ (s.startState t).bays = s.bays ∧
    (s.startState t).water = s.water ∧ (s.startState t).service = s.service ∧
    (s.startState t).journal = s.journal ∧ (s.startState t).clock = s.clock ∧ (s.startState t).links = s.links ∧
    (s.startState t).store = s.store := by
  unfold State.startState
  repeat' split
  all_goals simp

@[simp] theorem setTank_frame (s : State) (t : Tank) (st : TankState) :
    (s.setTank t st).pending = s.pending ∧ (s.setTank t st).timebase = s.timebase ∧
    (s.setTank t st).part = s.part ∧ (s.setTank t st).lines = s.lines ∧ (s.setTank t st).lane = s.lane ∧
    (s.setTank t st).queue = s.queue ∧ (s.setTank t st).nextVisit = s.nextVisit ∧
    (s.setTank t st).register = s.register ∧ (s.setTank t st).hauliers = s.hauliers ∧
    (s.setTank t st).active = s.active ∧ (s.setTank t st).generation = s.generation ∧
    (s.setTank t st).staging = s.staging ∧ (s.setTank t st).disp = s.disp ∧ (s.setTank t st).bays = s.bays ∧
    (s.setTank t st).water = s.water ∧ (s.setTank t st).service = s.service ∧
    (s.setTank t st).journal = s.journal ∧ (s.setTank t st).clock = s.clock ∧ (s.setTank t st).links = s.links ∧
    (s.setTank t st).store = s.store := by
  unfold State.setTank
  simp

@[simp] theorem noteService_frame (s : State) (b : Option Tank) (c : TankCause) :
    (s.noteService b c).pending = s.pending ∧ (s.noteService b c).timebase = s.timebase ∧
    (s.noteService b c).part = s.part ∧ (s.noteService b c).lines = s.lines ∧ (s.noteService b c).lane = s.lane ∧
    (s.noteService b c).queue = s.queue ∧ (s.noteService b c).nextVisit = s.nextVisit ∧
    (s.noteService b c).register = s.register ∧ (s.noteService b c).hauliers = s.hauliers ∧
    (s.noteService b c).active = s.active ∧ (s.noteService b c).generation = s.generation ∧
    (s.noteService b c).staging = s.staging ∧ (s.noteService b c).disp = s.disp ∧
    (s.noteService b c).bays = s.bays ∧ (s.noteService b c).water = s.water ∧ (s.noteService b c).tanks = s.tanks ∧
    (s.noteService b c).service = s.service ∧ (s.noteService b c).conv = s.conv ∧
    (s.noteService b c).journal = s.journal ∧ (s.noteService b c).clock = s.clock ∧
    (s.noteService b c).store = s.store := by
  unfold State.noteService
  repeat' split
  all_goals simp

@[simp] theorem takeService_frame (s : State) (t : Tank) :
    (s.takeService t).pending = s.pending ∧ (s.takeService t).timebase = s.timebase ∧
    (s.takeService t).part = s.part ∧ (s.takeService t).lines = s.lines ∧ (s.takeService t).lane = s.lane ∧
    (s.takeService t).queue = s.queue ∧ (s.takeService t).nextVisit = s.nextVisit ∧
    (s.takeService t).register = s.register ∧ (s.takeService t).hauliers = s.hauliers ∧
    (s.takeService t).active = s.active ∧ (s.takeService t).generation = s.generation ∧
    (s.takeService t).staging = s.staging ∧ (s.takeService t).disp = s.disp ∧ (s.takeService t).bays = s.bays ∧
    (s.takeService t).water = s.water ∧ (s.takeService t).journal = s.journal ∧ (s.takeService t).clock = s.clock ∧
    (s.takeService t).links = s.links ∧ (s.takeService t).store = s.store := by
  unfold State.takeService
  repeat' split
  all_goals simp

@[simp] theorem promote_frame (s : State) (t : Tank) :
    (s.promote t).pending = s.pending ∧ (s.promote t).timebase = s.timebase ∧ (s.promote t).part = s.part ∧
    (s.promote t).lines = s.lines ∧ (s.promote t).lane = s.lane ∧ (s.promote t).queue = s.queue ∧
    (s.promote t).nextVisit = s.nextVisit ∧ (s.promote t).register = s.register ∧
    (s.promote t).hauliers = s.hauliers ∧ (s.promote t).active = s.active ∧
    (s.promote t).generation = s.generation ∧ (s.promote t).staging = s.staging ∧ (s.promote t).disp = s.disp ∧
    (s.promote t).bays = s.bays ∧ (s.promote t).water = s.water ∧ (s.promote t).journal = s.journal ∧
    (s.promote t).clock = s.clock ∧ (s.promote t).links = s.links ∧ (s.promote t).store = s.store := by
  unfold State.promote
  repeat' split
  all_goals simp

@[simp] theorem moveTank_frame (s : State) (t : Tank) (st : TankState) (c : TankCause) :
    (s.moveTank t st c).pending = s.pending ∧ (s.moveTank t st c).timebase = s.timebase ∧
    (s.moveTank t st c).part = s.part ∧ (s.moveTank t st c).lines = s.lines ∧ (s.moveTank t st c).lane = s.lane ∧
    (s.moveTank t st c).queue = s.queue ∧ (s.moveTank t st c).nextVisit = s.nextVisit ∧
    (s.moveTank t st c).register = s.register ∧ (s.moveTank t st c).hauliers = s.hauliers ∧
    (s.moveTank t st c).active = s.active ∧ (s.moveTank t st c).generation = s.generation ∧
    (s.moveTank t st c).staging = s.staging ∧ (s.moveTank t st c).disp = s.disp ∧
    (s.moveTank t st c).water = s.water ∧ (s.moveTank t st c).journal = s.journal ∧
    (s.moveTank t st c).clock = s.clock ∧ (s.moveTank t st c).store = s.store := by
  unfold State.moveTank
  repeat' split
  all_goals simp

@[simp] theorem passTank_frame (s : State) (t : Tank) (n : Nat) :
    (s.passTank t n).pending = s.pending ∧ (s.passTank t n).timebase = s.timebase ∧
    (s.passTank t n).part = s.part ∧ (s.passTank t n).lines = s.lines ∧ (s.passTank t n).lane = s.lane ∧
    (s.passTank t n).queue = s.queue ∧ (s.passTank t n).nextVisit = s.nextVisit ∧
    (s.passTank t n).register = s.register ∧ (s.passTank t n).hauliers = s.hauliers ∧
    (s.passTank t n).active = s.active ∧ (s.passTank t n).generation = s.generation ∧
    (s.passTank t n).staging = s.staging ∧ (s.passTank t n).disp = s.disp ∧ (s.passTank t n).bays = s.bays ∧
    (s.passTank t n).water = s.water ∧ (s.passTank t n).journal = s.journal ∧ (s.passTank t n).clock = s.clock ∧
    (s.passTank t n).store = s.store := by
  unfold State.passTank
  repeat' split
  all_goals simp

@[simp] theorem failTank_frame (s : State) (t : Tank) :
    (s.failTank t).pending = s.pending ∧ (s.failTank t).timebase = s.timebase ∧ (s.failTank t).part = s.part ∧
    (s.failTank t).lines = s.lines ∧ (s.failTank t).lane = s.lane ∧ (s.failTank t).queue = s.queue ∧
    (s.failTank t).nextVisit = s.nextVisit ∧ (s.failTank t).register = s.register ∧
    (s.failTank t).hauliers = s.hauliers ∧ (s.failTank t).active = s.active ∧
    (s.failTank t).generation = s.generation ∧ (s.failTank t).staging = s.staging ∧ (s.failTank t).disp = s.disp ∧
    (s.failTank t).water = s.water ∧ (s.failTank t).journal = s.journal ∧ (s.failTank t).clock = s.clock ∧
    (s.failTank t).store = s.store := by
  unfold State.failTank
  simp

@[simp] theorem judge_frame (s : State) (t : Tank) (x y : Reading) :
    (s.judge t x y).pending = s.pending ∧ (s.judge t x y).timebase = s.timebase ∧ (s.judge t x y).part = s.part ∧
    (s.judge t x y).lines = s.lines ∧ (s.judge t x y).lane = s.lane ∧ (s.judge t x y).queue = s.queue ∧
    (s.judge t x y).nextVisit = s.nextVisit ∧ (s.judge t x y).register = s.register ∧
    (s.judge t x y).hauliers = s.hauliers ∧ (s.judge t x y).active = s.active ∧
    (s.judge t x y).generation = s.generation ∧ (s.judge t x y).staging = s.staging ∧
    (s.judge t x y).disp = s.disp ∧ (s.judge t x y).water = s.water ∧ (s.judge t x y).journal = s.journal ∧
    (s.judge t x y).clock = s.clock ∧ (s.judge t x y).store = s.store := by
  unfold State.judge
  repeat' split
  all_goals simp

@[simp] theorem judgeIfBoth_frame (s : State) (t : Tank) :
    (s.judgeIfBoth t).pending = s.pending ∧ (s.judgeIfBoth t).timebase = s.timebase ∧
    (s.judgeIfBoth t).part = s.part ∧ (s.judgeIfBoth t).lines = s.lines ∧ (s.judgeIfBoth t).lane = s.lane ∧
    (s.judgeIfBoth t).queue = s.queue ∧ (s.judgeIfBoth t).nextVisit = s.nextVisit ∧
    (s.judgeIfBoth t).register = s.register ∧ (s.judgeIfBoth t).hauliers = s.hauliers ∧
    (s.judgeIfBoth t).active = s.active ∧ (s.judgeIfBoth t).generation = s.generation ∧
    (s.judgeIfBoth t).staging = s.staging ∧ (s.judgeIfBoth t).disp = s.disp ∧ (s.judgeIfBoth t).water = s.water ∧
    (s.judgeIfBoth t).journal = s.journal ∧ (s.judgeIfBoth t).clock = s.clock ∧
    (s.judgeIfBoth t).store = s.store := by
  unfold State.judgeIfBoth
  repeat' split
  all_goals simp

@[simp] theorem faultTank_frame (s : State) (t : Tank) (f : ProbeFault) :
    (s.faultTank t f).pending = s.pending ∧ (s.faultTank t f).timebase = s.timebase ∧
    (s.faultTank t f).part = s.part ∧ (s.faultTank t f).lines = s.lines ∧ (s.faultTank t f).lane = s.lane ∧
    (s.faultTank t f).queue = s.queue ∧ (s.faultTank t f).nextVisit = s.nextVisit ∧
    (s.faultTank t f).register = s.register ∧ (s.faultTank t f).hauliers = s.hauliers ∧
    (s.faultTank t f).active = s.active ∧ (s.faultTank t f).generation = s.generation ∧
    (s.faultTank t f).staging = s.staging ∧ (s.faultTank t f).disp = s.disp ∧ (s.faultTank t f).water = s.water ∧
    (s.faultTank t f).journal = s.journal ∧ (s.faultTank t f).clock = s.clock ∧
    (s.faultTank t f).store = s.store := by
  unfold State.faultTank
  repeat' split
  all_goals simp

@[simp] theorem deliver_frame (s : State) (p : Probe) (o : OutcomeKind) (r : Option Reading) :
    (s.deliver p o r).pending = s.pending ∧ (s.deliver p o r).timebase = s.timebase ∧
    (s.deliver p o r).part = s.part ∧ (s.deliver p o r).lines = s.lines ∧ (s.deliver p o r).lane = s.lane ∧
    (s.deliver p o r).queue = s.queue ∧ (s.deliver p o r).nextVisit = s.nextVisit ∧
    (s.deliver p o r).register = s.register ∧ (s.deliver p o r).hauliers = s.hauliers ∧
    (s.deliver p o r).active = s.active ∧ (s.deliver p o r).generation = s.generation ∧
    (s.deliver p o r).staging = s.staging ∧ (s.deliver p o r).disp = s.disp ∧ (s.deliver p o r).water = s.water ∧
    (s.deliver p o r).journal = s.journal ∧ (s.deliver p o r).clock = s.clock ∧
    (s.deliver p o r).store = s.store := by
  unfold State.deliver
  dsimp only
  repeat' split
  all_goals simp

@[simp] theorem spotResult_frame (s : State) (e : ConvRequest) (o : OutcomeKind) (p : Option Nat) (r : Option Reading) :
    (s.spotResult e o p r).pending = s.pending ∧ (s.spotResult e o p r).timebase = s.timebase ∧
    (s.spotResult e o p r).part = s.part ∧ (s.spotResult e o p r).lines = s.lines ∧
    (s.spotResult e o p r).lane = s.lane ∧ (s.spotResult e o p r).queue = s.queue ∧
    (s.spotResult e o p r).nextVisit = s.nextVisit ∧ (s.spotResult e o p r).register = s.register ∧
    (s.spotResult e o p r).hauliers = s.hauliers ∧ (s.spotResult e o p r).active = s.active ∧
    (s.spotResult e o p r).generation = s.generation ∧ (s.spotResult e o p r).staging = s.staging ∧
    (s.spotResult e o p r).disp = s.disp ∧ (s.spotResult e o p r).bays = s.bays ∧
    (s.spotResult e o p r).water = s.water ∧ (s.spotResult e o p r).tanks = s.tanks ∧
    (s.spotResult e o p r).service = s.service ∧ (s.spotResult e o p r).conv = s.conv ∧
    (s.spotResult e o p r).journal = s.journal ∧ (s.spotResult e o p r).clock = s.clock ∧
    (s.spotResult e o p r).store = s.store := by
  unfold State.spotResult
  repeat' split
  all_goals simp

@[simp] theorem giveResult_frame (s : State) (e : ConvRequest) (o : OutcomeKind) (p : Option Nat) (r : Option Reading) :
    (s.giveResult e o p r).pending = s.pending ∧ (s.giveResult e o p r).timebase = s.timebase ∧
    (s.giveResult e o p r).part = s.part ∧ (s.giveResult e o p r).lines = s.lines ∧
    (s.giveResult e o p r).lane = s.lane ∧ (s.giveResult e o p r).queue = s.queue ∧
    (s.giveResult e o p r).nextVisit = s.nextVisit ∧ (s.giveResult e o p r).register = s.register ∧
    (s.giveResult e o p r).hauliers = s.hauliers ∧ (s.giveResult e o p r).active = s.active ∧
    (s.giveResult e o p r).generation = s.generation ∧ (s.giveResult e o p r).staging = s.staging ∧
    (s.giveResult e o p r).disp = s.disp ∧ (s.giveResult e o p r).water = s.water ∧
    (s.giveResult e o p r).journal = s.journal ∧ (s.giveResult e o p r).clock = s.clock ∧
    (s.giveResult e o p r).store = s.store := by
  unfold State.giveResult
  repeat' split
  all_goals simp

@[simp] theorem endConversion_frame (s : State) (o : OutcomeKind) (p : Option Nat) (r : Option Reading) :
    (s.endConversion o p r).pending = s.pending ∧ (s.endConversion o p r).timebase = s.timebase ∧
    (s.endConversion o p r).part = s.part ∧ (s.endConversion o p r).lines = s.lines ∧
    (s.endConversion o p r).lane = s.lane ∧ (s.endConversion o p r).queue = s.queue ∧
    (s.endConversion o p r).nextVisit = s.nextVisit ∧ (s.endConversion o p r).register = s.register ∧
    (s.endConversion o p r).hauliers = s.hauliers ∧ (s.endConversion o p r).active = s.active ∧
    (s.endConversion o p r).generation = s.generation ∧ (s.endConversion o p r).staging = s.staging ∧
    (s.endConversion o p r).disp = s.disp ∧ (s.endConversion o p r).water = s.water ∧
    (s.endConversion o p r).journal = s.journal ∧ (s.endConversion o p r).clock = s.clock ∧
    (s.endConversion o p r).store = s.store := by
  unfold State.endConversion
  repeat' split
  all_goals simp

@[simp] theorem conversionEnd_frame (s : State) (n : Nat) :
    (s.conversionEnd n).pending = s.pending ∧ (s.conversionEnd n).timebase = s.timebase ∧
    (s.conversionEnd n).part = s.part ∧ (s.conversionEnd n).lines = s.lines ∧ (s.conversionEnd n).lane = s.lane ∧
    (s.conversionEnd n).queue = s.queue ∧ (s.conversionEnd n).nextVisit = s.nextVisit ∧
    (s.conversionEnd n).register = s.register ∧ (s.conversionEnd n).hauliers = s.hauliers ∧
    (s.conversionEnd n).active = s.active ∧ (s.conversionEnd n).generation = s.generation ∧
    (s.conversionEnd n).staging = s.staging ∧ (s.conversionEnd n).disp = s.disp ∧ (s.conversionEnd n).water = s.water ∧
    (s.conversionEnd n).journal = s.journal ∧ (s.conversionEnd n).clock = s.clock ∧
    (s.conversionEnd n).store = s.store := by
  unfold State.conversionEnd
  repeat' split
  all_goals simp

@[simp] theorem spanEnd_frame (s : State) :
    (s.spanEnd).pending = s.pending ∧ (s.spanEnd).timebase = s.timebase ∧ (s.spanEnd).part = s.part ∧
    (s.spanEnd).lines = s.lines ∧ (s.spanEnd).lane = s.lane ∧ (s.spanEnd).queue = s.queue ∧
    (s.spanEnd).nextVisit = s.nextVisit ∧ (s.spanEnd).register = s.register ∧ (s.spanEnd).hauliers = s.hauliers ∧
    (s.spanEnd).active = s.active ∧ (s.spanEnd).generation = s.generation ∧ (s.spanEnd).staging = s.staging ∧
    (s.spanEnd).disp = s.disp ∧ (s.spanEnd).water = s.water ∧ (s.spanEnd).journal = s.journal ∧
    (s.spanEnd).clock = s.clock ∧ (s.spanEnd).store = s.store := by
  unfold State.spanEnd
  repeat' split
  all_goals simp

@[simp] theorem lowAsserted_frame (s : State) (t : Tank) :
    (s.lowAsserted t).pending = s.pending ∧ (s.lowAsserted t).timebase = s.timebase ∧
    (s.lowAsserted t).part = s.part ∧ (s.lowAsserted t).lines = s.lines ∧ (s.lowAsserted t).lane = s.lane ∧
    (s.lowAsserted t).queue = s.queue ∧ (s.lowAsserted t).nextVisit = s.nextVisit ∧
    (s.lowAsserted t).register = s.register ∧ (s.lowAsserted t).hauliers = s.hauliers ∧
    (s.lowAsserted t).active = s.active ∧ (s.lowAsserted t).generation = s.generation ∧
    (s.lowAsserted t).staging = s.staging ∧ (s.lowAsserted t).disp = s.disp ∧ (s.lowAsserted t).water = s.water ∧
    (s.lowAsserted t).journal = s.journal ∧ (s.lowAsserted t).clock = s.clock ∧
    (s.lowAsserted t).store = s.store := by
  unfold State.lowAsserted
  repeat' split
  all_goals simp

@[simp] theorem highAsserted_frame (s : State) (t : Tank) :
    (s.highAsserted t).pending = s.pending ∧ (s.highAsserted t).timebase = s.timebase ∧
    (s.highAsserted t).part = s.part ∧ (s.highAsserted t).lines = s.lines ∧ (s.highAsserted t).lane = s.lane ∧
    (s.highAsserted t).queue = s.queue ∧ (s.highAsserted t).nextVisit = s.nextVisit ∧
    (s.highAsserted t).register = s.register ∧ (s.highAsserted t).hauliers = s.hauliers ∧
    (s.highAsserted t).active = s.active ∧ (s.highAsserted t).generation = s.generation ∧
    (s.highAsserted t).staging = s.staging ∧ (s.highAsserted t).disp = s.disp ∧ (s.highAsserted t).bays = s.bays ∧
    (s.highAsserted t).water = s.water ∧ (s.highAsserted t).service = s.service ∧
    (s.highAsserted t).journal = s.journal ∧ (s.highAsserted t).clock = s.clock ∧
    (s.highAsserted t).links = s.links ∧ (s.highAsserted t).store = s.store := by
  unfold State.highAsserted
  repeat' split
  all_goals simp

@[simp] theorem tankSettled_frame (s : State) (t : Tank) :
    (s.tankSettled t).pending = s.pending ∧ (s.tankSettled t).timebase = s.timebase ∧
    (s.tankSettled t).part = s.part ∧ (s.tankSettled t).lines = s.lines ∧ (s.tankSettled t).lane = s.lane ∧
    (s.tankSettled t).queue = s.queue ∧ (s.tankSettled t).nextVisit = s.nextVisit ∧
    (s.tankSettled t).register = s.register ∧ (s.tankSettled t).hauliers = s.hauliers ∧
    (s.tankSettled t).active = s.active ∧ (s.tankSettled t).generation = s.generation ∧
    (s.tankSettled t).staging = s.staging ∧ (s.tankSettled t).disp = s.disp ∧ (s.tankSettled t).bays = s.bays ∧
    (s.tankSettled t).water = s.water ∧ (s.tankSettled t).service = s.service ∧
    (s.tankSettled t).journal = s.journal ∧ (s.tankSettled t).clock = s.clock ∧ (s.tankSettled t).links = s.links ∧
    (s.tankSettled t).store = s.store := by
  unfold State.tankSettled
  dsimp only
  repeat' split
  all_goals simp

@[simp] theorem resampleDue_frame (s : State) (t : Tank) :
    (s.resampleDue t).pending = s.pending ∧ (s.resampleDue t).timebase = s.timebase ∧
    (s.resampleDue t).part = s.part ∧ (s.resampleDue t).lines = s.lines ∧ (s.resampleDue t).lane = s.lane ∧
    (s.resampleDue t).queue = s.queue ∧ (s.resampleDue t).nextVisit = s.nextVisit ∧
    (s.resampleDue t).register = s.register ∧ (s.resampleDue t).hauliers = s.hauliers ∧
    (s.resampleDue t).active = s.active ∧ (s.resampleDue t).generation = s.generation ∧
    (s.resampleDue t).staging = s.staging ∧ (s.resampleDue t).disp = s.disp ∧ (s.resampleDue t).bays = s.bays ∧
    (s.resampleDue t).water = s.water ∧ (s.resampleDue t).service = s.service ∧
    (s.resampleDue t).journal = s.journal ∧ (s.resampleDue t).clock = s.clock ∧ (s.resampleDue t).links = s.links ∧
    (s.resampleDue t).store = s.store := by
  unfold State.resampleDue
  dsimp only
  repeat' split
  all_goals simp

@[simp] theorem setOwner_frame (s : State) (o : Option Port) :
    (s.setOwner o).pending = s.pending ∧ (s.setOwner o).timebase = s.timebase ∧ (s.setOwner o).part = s.part ∧
    (s.setOwner o).lines = s.lines ∧ (s.setOwner o).lane = s.lane ∧ (s.setOwner o).queue = s.queue ∧
    (s.setOwner o).nextVisit = s.nextVisit ∧ (s.setOwner o).register = s.register ∧
    (s.setOwner o).hauliers = s.hauliers ∧ (s.setOwner o).active = s.active ∧
    (s.setOwner o).generation = s.generation ∧ (s.setOwner o).disp = s.disp ∧ (s.setOwner o).bays = s.bays ∧
    (s.setOwner o).tanks = s.tanks ∧ (s.setOwner o).service = s.service ∧ (s.setOwner o).conv = s.conv ∧
    (s.setOwner o).clock = s.clock ∧ (s.setOwner o).links = s.links ∧ (s.setOwner o).store = s.store := by
  unfold State.setOwner
  repeat' split
  all_goals simp

@[simp] theorem setFresh_frame (s : State) (n : Nat) :
    (s.setFresh n).pending = s.pending ∧ (s.setFresh n).timebase = s.timebase ∧ (s.setFresh n).part = s.part ∧
    (s.setFresh n).lines = s.lines ∧ (s.setFresh n).lane = s.lane ∧ (s.setFresh n).queue = s.queue ∧
    (s.setFresh n).nextVisit = s.nextVisit ∧ (s.setFresh n).register = s.register ∧
    (s.setFresh n).hauliers = s.hauliers ∧ (s.setFresh n).active = s.active ∧
    (s.setFresh n).generation = s.generation ∧ (s.setFresh n).staging = s.staging ∧ (s.setFresh n).disp = s.disp ∧
    (s.setFresh n).tanks = s.tanks ∧ (s.setFresh n).service = s.service ∧ (s.setFresh n).conv = s.conv ∧
    (s.setFresh n).journal = s.journal ∧ (s.setFresh n).clock = s.clock ∧ (s.setFresh n).links = s.links ∧
    (s.setFresh n).store = s.store := by
  unfold State.setFresh
  repeat' split
  all_goals simp

@[simp] theorem setResource_frame (s : State) (r : Resource) (n : Nat) :
    (s.setResource r n).pending = s.pending ∧ (s.setResource r n).timebase = s.timebase ∧
    (s.setResource r n).part = s.part ∧ (s.setResource r n).lines = s.lines ∧ (s.setResource r n).lane = s.lane ∧
    (s.setResource r n).queue = s.queue ∧ (s.setResource r n).nextVisit = s.nextVisit ∧
    (s.setResource r n).register = s.register ∧ (s.setResource r n).hauliers = s.hauliers ∧
    (s.setResource r n).active = s.active ∧ (s.setResource r n).generation = s.generation ∧
    (s.setResource r n).tanks = s.tanks ∧ (s.setResource r n).service = s.service ∧
    (s.setResource r n).conv = s.conv ∧ (s.setResource r n).clock = s.clock ∧
    (s.setResource r n).store = s.store := by
  cases r <;> simp [State.setResource]

@[simp] theorem presenceAsserted_frame (s : State) (b : Bay) :
    (s.presenceAsserted b).pending = s.pending ∧ (s.presenceAsserted b).timebase = s.timebase ∧
    (s.presenceAsserted b).part = s.part ∧ (s.presenceAsserted b).lines = s.lines ∧
    (s.presenceAsserted b).lane = s.lane ∧ (s.presenceAsserted b).queue = s.queue ∧
    (s.presenceAsserted b).nextVisit = s.nextVisit ∧ (s.presenceAsserted b).register = s.register ∧
    (s.presenceAsserted b).hauliers = s.hauliers ∧ (s.presenceAsserted b).active = s.active ∧
    (s.presenceAsserted b).generation = s.generation ∧ (s.presenceAsserted b).staging = s.staging ∧
    (s.presenceAsserted b).disp = s.disp ∧ (s.presenceAsserted b).water = s.water ∧
    (s.presenceAsserted b).tanks = s.tanks ∧ (s.presenceAsserted b).service = s.service ∧
    (s.presenceAsserted b).conv = s.conv ∧ (s.presenceAsserted b).journal = s.journal ∧
    (s.presenceAsserted b).clock = s.clock ∧ (s.presenceAsserted b).store = s.store := by
  unfold State.presenceAsserted
  repeat' split
  all_goals simp

@[simp] theorem presenceCleared_frame (s : State) (b : Bay) :
    (s.presenceCleared b).pending = s.pending ∧ (s.presenceCleared b).timebase = s.timebase ∧
    (s.presenceCleared b).part = s.part ∧ (s.presenceCleared b).lines = s.lines ∧
    (s.presenceCleared b).lane = s.lane ∧ (s.presenceCleared b).queue = s.queue ∧
    (s.presenceCleared b).nextVisit = s.nextVisit ∧ (s.presenceCleared b).register = s.register ∧
    (s.presenceCleared b).hauliers = s.hauliers ∧ (s.presenceCleared b).active = s.active ∧
    (s.presenceCleared b).generation = s.generation ∧ (s.presenceCleared b).staging = s.staging ∧
    (s.presenceCleared b).tanks = s.tanks ∧ (s.presenceCleared b).service = s.service ∧
    (s.presenceCleared b).conv = s.conv ∧ (s.presenceCleared b).store = s.store := by
  unfold State.presenceCleared
  repeat' split
  all_goals simp

@[simp] theorem enterBay_frame (s : State) (b : Bay) (v : Visit) :
    (s.enterBay b v).pending = s.pending ∧ (s.enterBay b v).timebase = s.timebase ∧
    (s.enterBay b v).part = s.part ∧ (s.enterBay b v).lines = s.lines ∧ (s.enterBay b v).lane = s.lane ∧
    (s.enterBay b v).nextVisit = s.nextVisit ∧ (s.enterBay b v).register = s.register ∧
    (s.enterBay b v).hauliers = s.hauliers ∧ (s.enterBay b v).active = s.active ∧
    (s.enterBay b v).generation = s.generation ∧ (s.enterBay b v).staging = s.staging ∧
    (s.enterBay b v).water = s.water ∧ (s.enterBay b v).tanks = s.tanks ∧ (s.enterBay b v).service = s.service ∧
    (s.enterBay b v).conv = s.conv ∧ (s.enterBay b v).journal = s.journal ∧ (s.enterBay b v).clock = s.clock ∧
    (s.enterBay b v).links = s.links ∧ (s.enterBay b v).store = s.store := by
  unfold State.enterBay
  simp

@[simp] theorem settleExpired_frame (s : State) (b : Bay) :
    (s.settleExpired b).pending = s.pending ∧ (s.settleExpired b).timebase = s.timebase ∧
    (s.settleExpired b).part = s.part ∧ (s.settleExpired b).lines = s.lines ∧ (s.settleExpired b).lane = s.lane ∧
    (s.settleExpired b).nextVisit = s.nextVisit ∧ (s.settleExpired b).register = s.register ∧
    (s.settleExpired b).hauliers = s.hauliers ∧ (s.settleExpired b).active = s.active ∧
    (s.settleExpired b).generation = s.generation ∧ (s.settleExpired b).staging = s.staging ∧
    (s.settleExpired b).water = s.water ∧ (s.settleExpired b).tanks = s.tanks ∧
    (s.settleExpired b).service = s.service ∧ (s.settleExpired b).conv = s.conv ∧
    (s.settleExpired b).journal = s.journal ∧ (s.settleExpired b).clock = s.clock ∧
    (s.settleExpired b).links = s.links ∧ (s.settleExpired b).store = s.store := by
  unfold State.settleExpired
  dsimp only
  repeat' split
  all_goals simp

@[simp] theorem noShow_frame (s : State) (b : Bay) (v : Visit) :
    (s.noShow b v).pending = s.pending ∧ (s.noShow b v).timebase = s.timebase ∧ (s.noShow b v).part = s.part ∧
    (s.noShow b v).lines = s.lines ∧ (s.noShow b v).nextVisit = s.nextVisit ∧
    (s.noShow b v).register = s.register ∧ (s.noShow b v).hauliers = s.hauliers ∧
    (s.noShow b v).active = s.active ∧ (s.noShow b v).generation = s.generation ∧
    (s.noShow b v).staging = s.staging ∧ (s.noShow b v).disp = s.disp ∧ (s.noShow b v).bays = s.bays ∧
    (s.noShow b v).water = s.water ∧ (s.noShow b v).tanks = s.tanks ∧ (s.noShow b v).service = s.service ∧
    (s.noShow b v).conv = s.conv ∧ (s.noShow b v).journal = s.journal ∧ (s.noShow b v).clock = s.clock ∧
    (s.noShow b v).store = s.store := by
  unfold State.noShow
  repeat' split
  all_goals simp

@[simp] theorem callExpired_frame (s : State) (b : Bay) :
    (s.callExpired b).pending = s.pending ∧ (s.callExpired b).timebase = s.timebase ∧
    (s.callExpired b).part = s.part ∧ (s.callExpired b).lines = s.lines ∧
    (s.callExpired b).nextVisit = s.nextVisit ∧ (s.callExpired b).register = s.register ∧
    (s.callExpired b).hauliers = s.hauliers ∧ (s.callExpired b).active = s.active ∧
    (s.callExpired b).generation = s.generation ∧ (s.callExpired b).staging = s.staging ∧
    (s.callExpired b).water = s.water ∧ (s.callExpired b).tanks = s.tanks ∧ (s.callExpired b).service = s.service ∧
    (s.callExpired b).conv = s.conv ∧ (s.callExpired b).clock = s.clock ∧ (s.callExpired b).store = s.store := by
  unfold State.callExpired
  dsimp only
  repeat' split
  all_goals simp

@[simp] theorem clearCall_frame (s : State) (v : Visit) :
    (s.clearCall v).pending = s.pending ∧ (s.clearCall v).timebase = s.timebase ∧ (s.clearCall v).part = s.part ∧
    (s.clearCall v).lines = s.lines ∧ (s.clearCall v).lane = s.lane ∧ (s.clearCall v).nextVisit = s.nextVisit ∧
    (s.clearCall v).register = s.register ∧ (s.clearCall v).hauliers = s.hauliers ∧
    (s.clearCall v).active = s.active ∧ (s.clearCall v).generation = s.generation ∧
    (s.clearCall v).staging = s.staging ∧ (s.clearCall v).disp = s.disp ∧ (s.clearCall v).bays = s.bays ∧
    (s.clearCall v).water = s.water ∧ (s.clearCall v).tanks = s.tanks ∧ (s.clearCall v).service = s.service ∧
    (s.clearCall v).conv = s.conv ∧ (s.clearCall v).journal = s.journal ∧ (s.clearCall v).clock = s.clock ∧
    (s.clearCall v).links = s.links ∧ (s.clearCall v).store = s.store := by
  unfold State.clearCall
  simp

@[simp] theorem eStopAsserted_frame (s : State) (b : Bay) :
    (s.eStopAsserted b).pending = s.pending ∧ (s.eStopAsserted b).timebase = s.timebase ∧
    (s.eStopAsserted b).part = s.part ∧ (s.eStopAsserted b).lines = s.lines ∧ (s.eStopAsserted b).lane = s.lane ∧
    (s.eStopAsserted b).nextVisit = s.nextVisit ∧ (s.eStopAsserted b).register = s.register ∧
    (s.eStopAsserted b).hauliers = s.hauliers ∧ (s.eStopAsserted b).active = s.active ∧
    (s.eStopAsserted b).generation = s.generation ∧ (s.eStopAsserted b).staging = s.staging ∧
    (s.eStopAsserted b).tanks = s.tanks ∧ (s.eStopAsserted b).service = s.service ∧
    (s.eStopAsserted b).conv = s.conv ∧ (s.eStopAsserted b).store = s.store := by
  unfold State.eStopAsserted
  repeat' split
  all_goals simp

@[simp] theorem flowPulse_frame (s : State) (b : Bay) :
    (s.flowPulse b).pending = s.pending ∧ (s.flowPulse b).timebase = s.timebase ∧ (s.flowPulse b).part = s.part ∧
    (s.flowPulse b).lines = s.lines ∧ (s.flowPulse b).lane = s.lane ∧ (s.flowPulse b).queue = s.queue ∧
    (s.flowPulse b).nextVisit = s.nextVisit ∧ (s.flowPulse b).register = s.register ∧
    (s.flowPulse b).hauliers = s.hauliers ∧ (s.flowPulse b).active = s.active ∧
    (s.flowPulse b).generation = s.generation ∧ (s.flowPulse b).staging = s.staging ∧
    (s.flowPulse b).disp = s.disp ∧ (s.flowPulse b).water = s.water ∧ (s.flowPulse b).tanks = s.tanks ∧
    (s.flowPulse b).service = s.service ∧ (s.flowPulse b).conv = s.conv ∧ (s.flowPulse b).journal = s.journal ∧
    (s.flowPulse b).clock = s.clock ∧ (s.flowPulse b).store = s.store := by
  unfold State.flowPulse
  repeat' split
  all_goals simp

@[simp] theorem limitExpired_frame (s : State) (b : Bay) :
    (s.limitExpired b).pending = s.pending ∧ (s.limitExpired b).timebase = s.timebase ∧
    (s.limitExpired b).part = s.part ∧ (s.limitExpired b).lines = s.lines ∧ (s.limitExpired b).lane = s.lane ∧
    (s.limitExpired b).queue = s.queue ∧ (s.limitExpired b).nextVisit = s.nextVisit ∧
    (s.limitExpired b).register = s.register ∧ (s.limitExpired b).hauliers = s.hauliers ∧
    (s.limitExpired b).active = s.active ∧ (s.limitExpired b).generation = s.generation ∧
    (s.limitExpired b).staging = s.staging ∧ (s.limitExpired b).disp = s.disp ∧
    (s.limitExpired b).water = s.water ∧ (s.limitExpired b).tanks = s.tanks ∧
    (s.limitExpired b).service = s.service ∧ (s.limitExpired b).conv = s.conv ∧
    (s.limitExpired b).journal = s.journal ∧ (s.limitExpired b).clock = s.clock ∧
    (s.limitExpired b).links = s.links ∧ (s.limitExpired b).store = s.store := by
  unfold State.limitExpired
  repeat' split
  all_goals simp

@[simp] theorem waitExpired_frame (s : State) (b : Bay) :
    (s.waitExpired b).pending = s.pending ∧ (s.waitExpired b).timebase = s.timebase ∧
    (s.waitExpired b).part = s.part ∧ (s.waitExpired b).lines = s.lines ∧ (s.waitExpired b).lane = s.lane ∧
    (s.waitExpired b).queue = s.queue ∧ (s.waitExpired b).nextVisit = s.nextVisit ∧
    (s.waitExpired b).register = s.register ∧ (s.waitExpired b).hauliers = s.hauliers ∧
    (s.waitExpired b).active = s.active ∧ (s.waitExpired b).generation = s.generation ∧
    (s.waitExpired b).staging = s.staging ∧ (s.waitExpired b).tanks = s.tanks ∧
    (s.waitExpired b).service = s.service ∧ (s.waitExpired b).conv = s.conv ∧
    (s.waitExpired b).store = s.store := by
  unfold State.waitExpired
  repeat' split
  all_goals simp

@[simp] theorem runOnExpired_frame (s : State) (b : Bay) :
    (s.runOnExpired b).pending = s.pending ∧ (s.runOnExpired b).timebase = s.timebase ∧
    (s.runOnExpired b).part = s.part ∧ (s.runOnExpired b).lines = s.lines ∧ (s.runOnExpired b).lane = s.lane ∧
    (s.runOnExpired b).queue = s.queue ∧ (s.runOnExpired b).nextVisit = s.nextVisit ∧
    (s.runOnExpired b).register = s.register ∧ (s.runOnExpired b).hauliers = s.hauliers ∧
    (s.runOnExpired b).active = s.active ∧ (s.runOnExpired b).generation = s.generation ∧
    (s.runOnExpired b).staging = s.staging ∧ (s.runOnExpired b).tanks = s.tanks ∧
    (s.runOnExpired b).service = s.service ∧ (s.runOnExpired b).conv = s.conv ∧
    (s.runOnExpired b).store = s.store := by
  unfold State.runOnExpired
  repeat' split
  all_goals simp

@[simp] theorem exitExpired_frame (s : State) (b : Bay) :
    (s.exitExpired b).pending = s.pending ∧ (s.exitExpired b).timebase = s.timebase ∧
    (s.exitExpired b).part = s.part ∧ (s.exitExpired b).lines = s.lines ∧ (s.exitExpired b).lane = s.lane ∧
    (s.exitExpired b).queue = s.queue ∧ (s.exitExpired b).nextVisit = s.nextVisit ∧
    (s.exitExpired b).register = s.register ∧ (s.exitExpired b).hauliers = s.hauliers ∧
    (s.exitExpired b).active = s.active ∧ (s.exitExpired b).generation = s.generation ∧
    (s.exitExpired b).staging = s.staging ∧ (s.exitExpired b).disp = s.disp ∧ (s.exitExpired b).water = s.water ∧
    (s.exitExpired b).tanks = s.tanks ∧ (s.exitExpired b).service = s.service ∧ (s.exitExpired b).conv = s.conv ∧
    (s.exitExpired b).journal = s.journal ∧ (s.exitExpired b).clock = s.clock ∧
    (s.exitExpired b).store = s.store := by
  unfold State.exitExpired
  dsimp only
  repeat' split
  all_goals simp

@[simp] theorem pumpCycle_frame (s : State) (b : Bay) :
    (s.pumpCycle b).pending = s.pending ∧ (s.pumpCycle b).timebase = s.timebase ∧ (s.pumpCycle b).part = s.part ∧
    (s.pumpCycle b).lines = s.lines ∧ (s.pumpCycle b).lane = s.lane ∧ (s.pumpCycle b).queue = s.queue ∧
    (s.pumpCycle b).nextVisit = s.nextVisit ∧ (s.pumpCycle b).register = s.register ∧
    (s.pumpCycle b).hauliers = s.hauliers ∧ (s.pumpCycle b).active = s.active ∧
    (s.pumpCycle b).generation = s.generation ∧ (s.pumpCycle b).staging = s.staging ∧
    (s.pumpCycle b).disp = s.disp ∧ (s.pumpCycle b).water = s.water ∧ (s.pumpCycle b).tanks = s.tanks ∧
    (s.pumpCycle b).service = s.service ∧ (s.pumpCycle b).conv = s.conv ∧ (s.pumpCycle b).journal = s.journal ∧
    (s.pumpCycle b).clock = s.clock ∧ (s.pumpCycle b).links = s.links ∧ (s.pumpCycle b).store = s.store := by
  unfold State.pumpCycle
  repeat' split
  all_goals simp

@[simp] theorem claimAnswer_frame (s : State) (b : Bay) :
    (s.claimAnswer b).pending = s.pending ∧ (s.claimAnswer b).timebase = s.timebase ∧
    (s.claimAnswer b).part = s.part ∧ (s.claimAnswer b).lines = s.lines ∧ (s.claimAnswer b).lane = s.lane ∧
    (s.claimAnswer b).queue = s.queue ∧ (s.claimAnswer b).nextVisit = s.nextVisit ∧
    (s.claimAnswer b).register = s.register ∧ (s.claimAnswer b).hauliers = s.hauliers ∧
    (s.claimAnswer b).active = s.active ∧ (s.claimAnswer b).generation = s.generation ∧
    (s.claimAnswer b).staging = s.staging ∧ (s.claimAnswer b).tanks = s.tanks ∧
    (s.claimAnswer b).service = s.service ∧ (s.claimAnswer b).conv = s.conv ∧
    (s.claimAnswer b).store = s.store := by
  unfold State.claimAnswer
  repeat' split
  all_goals simp

@[simp] theorem writeHold_frame (s : State) (v : Visit) (h : HoldReason) :
    (s.writeHold v h).pending = s.pending ∧ (s.writeHold v h).timebase = s.timebase ∧
    (s.writeHold v h).part = s.part ∧ (s.writeHold v h).lines = s.lines ∧ (s.writeHold v h).lane = s.lane ∧
    (s.writeHold v h).nextVisit = s.nextVisit ∧ (s.writeHold v h).register = s.register ∧
    (s.writeHold v h).hauliers = s.hauliers ∧ (s.writeHold v h).active = s.active ∧
    (s.writeHold v h).generation = s.generation ∧ (s.writeHold v h).staging = s.staging ∧
    (s.writeHold v h).disp = s.disp ∧ (s.writeHold v h).bays = s.bays ∧ (s.writeHold v h).water = s.water ∧
    (s.writeHold v h).tanks = s.tanks ∧ (s.writeHold v h).service = s.service ∧ (s.writeHold v h).conv = s.conv ∧
    (s.writeHold v h).journal = s.journal ∧ (s.writeHold v h).clock = s.clock ∧
    (s.writeHold v h).store = s.store := by
  unfold State.writeHold
  simp

@[simp] theorem evaluateHolds_frame (s : State) :
    (s.evaluateHolds).pending = s.pending ∧ (s.evaluateHolds).timebase = s.timebase ∧
    (s.evaluateHolds).part = s.part ∧ (s.evaluateHolds).lines = s.lines ∧ (s.evaluateHolds).lane = s.lane ∧
    (s.evaluateHolds).nextVisit = s.nextVisit ∧ (s.evaluateHolds).register = s.register ∧
    (s.evaluateHolds).hauliers = s.hauliers ∧ (s.evaluateHolds).active = s.active ∧
    (s.evaluateHolds).generation = s.generation ∧ (s.evaluateHolds).staging = s.staging ∧
    (s.evaluateHolds).disp = s.disp ∧ (s.evaluateHolds).bays = s.bays ∧ (s.evaluateHolds).water = s.water ∧
    (s.evaluateHolds).tanks = s.tanks ∧ (s.evaluateHolds).service = s.service ∧ (s.evaluateHolds).conv = s.conv ∧
    (s.evaluateHolds).journal = s.journal ∧ (s.evaluateHolds).clock = s.clock ∧
    (s.evaluateHolds).store = s.store := by
  unfold State.evaluateHolds
  and_intros <;> exact keep_foldl _ _ (fun t x => by split <;> simp) _ _

@[simp] theorem callVisit_frame (s : State) (b : Bay) (v : Visit) (t : VisitTerms) :
    (s.callVisit b v t).pending = s.pending ∧ (s.callVisit b v t).timebase = s.timebase ∧
    (s.callVisit b v t).part = s.part ∧ (s.callVisit b v t).lines = s.lines ∧ (s.callVisit b v t).lane = s.lane ∧
    (s.callVisit b v t).nextVisit = s.nextVisit ∧ (s.callVisit b v t).register = s.register ∧
    (s.callVisit b v t).hauliers = s.hauliers ∧ (s.callVisit b v t).active = s.active ∧
    (s.callVisit b v t).generation = s.generation ∧ (s.callVisit b v t).staging = s.staging ∧
    (s.callVisit b v t).water = s.water ∧ (s.callVisit b v t).tanks = s.tanks ∧
    (s.callVisit b v t).service = s.service ∧ (s.callVisit b v t).conv = s.conv ∧
    (s.callVisit b v t).clock = s.clock ∧ (s.callVisit b v t).store = s.store := by
  unfold State.callVisit
  simp

@[simp] theorem signSent_frame (s : State) :
    (s.signSent).pending = s.pending ∧ (s.signSent).timebase = s.timebase ∧ (s.signSent).part = s.part ∧
    (s.signSent).lines = s.lines ∧ (s.signSent).lane = s.lane ∧ (s.signSent).queue = s.queue ∧
    (s.signSent).nextVisit = s.nextVisit ∧ (s.signSent).register = s.register ∧
    (s.signSent).hauliers = s.hauliers ∧ (s.signSent).active = s.active ∧ (s.signSent).generation = s.generation ∧
    (s.signSent).staging = s.staging ∧ (s.signSent).bays = s.bays ∧ (s.signSent).water = s.water ∧
    (s.signSent).tanks = s.tanks ∧ (s.signSent).service = s.service ∧ (s.signSent).conv = s.conv ∧
    (s.signSent).journal = s.journal ∧ (s.signSent).clock = s.clock ∧ (s.signSent).links = s.links ∧
    (s.signSent).store = s.store := by
  unfold State.signSent
  repeat' split
  all_goals simp

@[simp] theorem stepWalk_frame (s : State) :
    (s.stepWalk).pending = s.pending ∧ (s.stepWalk).timebase = s.timebase ∧ (s.stepWalk).part = s.part ∧
    (s.stepWalk).lines = s.lines ∧ (s.stepWalk).lane = s.lane ∧ (s.stepWalk).queue = s.queue ∧
    (s.stepWalk).nextVisit = s.nextVisit ∧ (s.stepWalk).register = s.register ∧
    (s.stepWalk).hauliers = s.hauliers ∧ (s.stepWalk).active = s.active ∧ (s.stepWalk).generation = s.generation ∧
    (s.stepWalk).staging = s.staging ∧ (s.stepWalk).bays = s.bays ∧ (s.stepWalk).water = s.water ∧
    (s.stepWalk).tanks = s.tanks ∧ (s.stepWalk).service = s.service ∧ (s.stepWalk).conv = s.conv ∧
    (s.stepWalk).clock = s.clock ∧ (s.stepWalk).store = s.store := by
  unfold State.stepWalk
  repeat' split
  all_goals simp

@[simp] theorem waterRollover_frame (s : State) :
    (s.waterRollover).pending = s.pending ∧ (s.waterRollover).timebase = s.timebase ∧
    (s.waterRollover).part = s.part ∧ (s.waterRollover).lines = s.lines ∧ (s.waterRollover).lane = s.lane ∧
    (s.waterRollover).queue = s.queue ∧ (s.waterRollover).nextVisit = s.nextVisit ∧
    (s.waterRollover).register = s.register ∧ (s.waterRollover).hauliers = s.hauliers ∧
    (s.waterRollover).active = s.active ∧ (s.waterRollover).generation = s.generation ∧
    (s.waterRollover).staging = s.staging ∧ (s.waterRollover).disp = s.disp ∧ (s.waterRollover).tanks = s.tanks ∧
    (s.waterRollover).service = s.service ∧ (s.waterRollover).conv = s.conv ∧
    (s.waterRollover).journal = s.journal ∧ (s.waterRollover).clock = s.clock ∧ (s.waterRollover).links = s.links ∧
    (s.waterRollover).store = s.store := by
  unfold State.waterRollover
  simp

@[simp] theorem closeDay_frame (s : State) :
    (s.closeDay).pending = s.pending ∧ (s.closeDay).timebase = s.timebase ∧ (s.closeDay).part = s.part ∧
    (s.closeDay).lines = s.lines ∧ (s.closeDay).lane = s.lane ∧ (s.closeDay).queue = s.queue ∧
    (s.closeDay).nextVisit = s.nextVisit ∧ (s.closeDay).register = s.register ∧
    (s.closeDay).hauliers = s.hauliers ∧ (s.closeDay).active = s.active ∧ (s.closeDay).generation = s.generation ∧
    (s.closeDay).staging = s.staging ∧ (s.closeDay).disp = s.disp ∧ (s.closeDay).bays = s.bays ∧
    (s.closeDay).water = s.water ∧ (s.closeDay).tanks = s.tanks ∧ (s.closeDay).service = s.service ∧
    (s.closeDay).conv = s.conv ∧ (s.closeDay).store = s.store := by
  unfold State.closeDay
  dsimp only
  repeat' split
  all_goals simp

@[simp] theorem rollover_frame (s : State) :
    (s.rollover).pending = s.pending ∧ (s.rollover).timebase = s.timebase ∧ (s.rollover).part = s.part ∧
    (s.rollover).lines = s.lines ∧ (s.rollover).lane = s.lane ∧ (s.rollover).queue = s.queue ∧
    (s.rollover).nextVisit = s.nextVisit ∧ (s.rollover).register = s.register ∧
    (s.rollover).hauliers = s.hauliers ∧ (s.rollover).active = s.active ∧ (s.rollover).generation = s.generation ∧
    (s.rollover).staging = s.staging ∧ (s.rollover).tanks = s.tanks ∧ (s.rollover).service = s.service ∧
    (s.rollover).conv = s.conv ∧ (s.rollover).store = s.store := by
  unfold State.rollover
  simp

@[simp] theorem passMidnight_frame (s : State) :
    (s.passMidnight).pending = s.pending ∧ (s.passMidnight).timebase = s.timebase ∧
    (s.passMidnight).part = s.part ∧ (s.passMidnight).lines = s.lines ∧ (s.passMidnight).lane = s.lane ∧
    (s.passMidnight).queue = s.queue ∧ (s.passMidnight).nextVisit = s.nextVisit ∧
    (s.passMidnight).register = s.register ∧ (s.passMidnight).hauliers = s.hauliers ∧
    (s.passMidnight).active = s.active ∧ (s.passMidnight).generation = s.generation ∧
    (s.passMidnight).staging = s.staging ∧ (s.passMidnight).tanks = s.tanks ∧
    (s.passMidnight).service = s.service ∧ (s.passMidnight).conv = s.conv ∧ (s.passMidnight).store = s.store := by
  unfold State.passMidnight
  dsimp only
  repeat' split
  all_goals simp

@[simp] theorem adopt_frame (s : State) (t : DepotTime) :
    (s.adopt t).pending = s.pending ∧ (s.adopt t).timebase = s.timebase ∧ (s.adopt t).part = s.part ∧
    (s.adopt t).lines = s.lines ∧ (s.adopt t).lane = s.lane ∧ (s.adopt t).queue = s.queue ∧
    (s.adopt t).nextVisit = s.nextVisit ∧ (s.adopt t).register = s.register ∧ (s.adopt t).hauliers = s.hauliers ∧
    (s.adopt t).active = s.active ∧ (s.adopt t).generation = s.generation ∧ (s.adopt t).staging = s.staging ∧
    (s.adopt t).disp = s.disp ∧ (s.adopt t).bays = s.bays ∧ (s.adopt t).water = s.water ∧
    (s.adopt t).tanks = s.tanks ∧ (s.adopt t).service = s.service ∧ (s.adopt t).conv = s.conv ∧
    (s.adopt t).journal = s.journal ∧ (s.adopt t).links = s.links ∧ (s.adopt t).store = s.store := by
  unfold State.adopt
  simp

@[simp] theorem noteStep_frame (s : State) (p : Port) (a b : DepotTime) :
    (s.noteStep p a b).pending = s.pending ∧ (s.noteStep p a b).timebase = s.timebase ∧
    (s.noteStep p a b).part = s.part ∧ (s.noteStep p a b).lines = s.lines ∧ (s.noteStep p a b).lane = s.lane ∧
    (s.noteStep p a b).queue = s.queue ∧ (s.noteStep p a b).nextVisit = s.nextVisit ∧
    (s.noteStep p a b).register = s.register ∧ (s.noteStep p a b).hauliers = s.hauliers ∧
    (s.noteStep p a b).active = s.active ∧ (s.noteStep p a b).generation = s.generation ∧
    (s.noteStep p a b).staging = s.staging ∧ (s.noteStep p a b).disp = s.disp ∧ (s.noteStep p a b).bays = s.bays ∧
    (s.noteStep p a b).water = s.water ∧ (s.noteStep p a b).tanks = s.tanks ∧
    (s.noteStep p a b).service = s.service ∧ (s.noteStep p a b).conv = s.conv ∧
    (s.noteStep p a b).journal = s.journal ∧ (s.noteStep p a b).clock = s.clock ∧
    (s.noteStep p a b).store = s.store := by
  unfold State.noteStep
  dsimp only
  repeat' split
  all_goals simp

@[simp] theorem afterSet_frame (s : State) :
    (s.afterSet).pending = s.pending ∧ (s.afterSet).timebase = s.timebase ∧ (s.afterSet).part = s.part ∧
    (s.afterSet).lines = s.lines ∧ (s.afterSet).lane = s.lane ∧ (s.afterSet).queue = s.queue ∧
    (s.afterSet).nextVisit = s.nextVisit ∧ (s.afterSet).register = s.register ∧
    (s.afterSet).hauliers = s.hauliers ∧ (s.afterSet).active = s.active ∧ (s.afterSet).generation = s.generation ∧
    (s.afterSet).staging = s.staging ∧ (s.afterSet).tanks = s.tanks ∧ (s.afterSet).service = s.service ∧
    (s.afterSet).conv = s.conv ∧ (s.afterSet).store = s.store := by
  unfold State.afterSet
  repeat' split
  all_goals simp

end Sys2Proof.Machine
end

