-- ==== Sys2Proof/Laws/Commands.lean ====
section
/-! SUPPORT. How a command runs, once and for all: what `State.event`, `State.portCommand` and `State.settleSign` answer,
and when the sign has nothing to do. -/

namespace Sys2Proof.Machine

variable {s t : State} {f : State → State}

/-- The running test is the phase. -/
theorem running_iff : s.running = true ↔ s.part.phase = .running := by
  simp [State.running]

/-- The sign status depends on BAY_OPEN, the length of the queue and whether the journal takes a call (R73). -/
theorem signStatus_congr (hw : t.water.bayOpen = s.water.bayOpen) (hq : t.queue.length = s.queue.length)
    (hj : t.journal.takesCall = s.journal.takesCall) : t.signStatus = s.signStatus := by
  simp [State.signStatus, hw, hq, hj]

/-- A status line that shows its inputs stays as it is. -/
theorem recomputeStatus_current (h : t.disp.status = t.signStatus) : t.recomputeStatus = t := by
  simp [State.recomputeStatus, State.modDisp, ← h]

/-- The sign is left alone when a step changes neither its call lines nor its status. -/
theorem settleSign_same (hl : t.disp.lines = s.disp.lines) (hs : t.disp.status = s.disp.status)
    (hc : t.disp.status = t.signStatus) : s.settleSign t = t := by
  unfold State.settleSign
  split
  · simp [recomputeStatus_current hc, hl, hs]
  · rfl

/-- What an event of the running part answers. -/
theorem event_running (h : s.part.phase = .running) : s.event f = .next (s.settleSign (f s)) := by
  simp [State.event, running_iff.2 h]

/-- An event whose rule leaves the sign memory and its inputs alone. -/
theorem event_same (h : s.Running) (hd : (f s).disp = s.disp) (hc : (f s).signStatus = s.signStatus) :
    s.event f = .next (f s) := by
  rw [event_running h.1, settleSign_same (by rw [hd]) (by rw [hd]) (by rw [hd, hc, h.2])]

/-- An event while the part does not run. -/
theorem event_idle (h : s.part.phase ≠ .running) : s.event f = .next s := by
  simp [State.event, State.running, h]

/-- What a command of a port answers while main power is present. -/
theorem portCommand_powered (h : s.part.phase ≠ .off) : s.portCommand f = .next (s.settleSign (f s)) := by
  simp [State.portCommand, h]

/-! ### The tick -/

@[simp] theorem tickBay_frame (s : State) (b : Bay) :
    (s.tickBay b).pending = s.pending ∧
    (s.tickBay b).timebase = s.timebase ∧
    (s.tickBay b).part = s.part ∧
    (s.tickBay b).lines = s.lines ∧
    (s.tickBay b).lane = s.lane ∧
    (s.tickBay b).queue = s.queue ∧
    (s.tickBay b).nextVisit = s.nextVisit ∧
    (s.tickBay b).register = s.register ∧
    (s.tickBay b).hauliers = s.hauliers ∧
    (s.tickBay b).active = s.active ∧
    (s.tickBay b).generation = s.generation ∧
    (s.tickBay b).staging = s.staging ∧
    (s.tickBay b).disp = s.disp ∧
    (s.tickBay b).water = s.water ∧
    (s.tickBay b).tanks = s.tanks ∧
    (s.tickBay b).service = s.service ∧
    (s.tickBay b).conv = s.conv ∧
    (s.tickBay b).journal = s.journal ∧
    (s.tickBay b).clock = s.clock ∧
    (s.tickBay b).links = s.links ∧
    (s.tickBay b).store = s.store := by
  unfold State.tickBay
  split <;> simp

@[simp] theorem tick_frame (s : State) :
    (s.tick).pending = s.pending ∧
    (s.tick).part = s.part ∧
    (s.tick).lines = s.lines ∧
    (s.tick).lane = s.lane ∧
    (s.tick).queue = s.queue ∧
    (s.tick).nextVisit = s.nextVisit ∧
    (s.tick).register = s.register ∧
    (s.tick).hauliers = s.hauliers ∧
    (s.tick).active = s.active ∧
    (s.tick).generation = s.generation ∧
    (s.tick).staging = s.staging ∧
    (s.tick).disp = s.disp ∧
    (s.tick).water = s.water ∧
    (s.tick).tanks = s.tanks ∧
    (s.tick).service = s.service ∧
    (s.tick).journal = s.journal ∧
    (s.tick).links = s.links ∧
    (s.tick).store = s.store := by
  unfold State.tick
  dsimp only
  split
  · simp only [State.tickConv, State.modConv]
    and_intros <;> exact keep_foldl _ _ (fun t x => by simp) _ _
  · simp

/-- A tick moves the timebase on by one. -/
theorem tick_timebase (s : State) : s.tick.timebase = s.timebase + 1 := by
  unfold State.tick
  dsimp only
  split
  · simp only [State.tickConv, State.modConv]
    exact keep_foldl State.timebase (fun s b => State.tickBay s b) (fun t x => (tickBay_frame t x).2.1) _ _
  · rfl

/-! ### Latched events -/

/-- The code of a kind is its own. -/
theorem code_injective {k l : EventKind} (h : k.code = l.code) : k = l := by
  cases k <;> cases l <;> first | rfl | exact absurd h (by decide)

/-- What a latched kind holds afterwards (R180). -/
theorem latched_latch (e : Event) (p : Port) :
    ((s.latch e).links.get p).latched e.kind =
      some (latchAgain ((s.links.get p).latched e.kind) s.clock.time e) := by
  cases p <;> simp [State.latch, PerPort.map, PerPort.get, Link.latchEvent, Link.follow, Link.latched, putAt]

/-- A latched kind holds the occurrence just latched, on both ports (R180). -/
theorem latched_latch_self (e : Event) (p : Port) :
    ∃ x, ((s.latch e).links.get p).latched e.kind = some x ∧ x.event = e ∧ x.time = s.clock.time :=
  ⟨_, latched_latch e p, by unfold latchAgain; split <;> rfl, by unfold latchAgain; split <;> rfl⟩

/-- Latching an occurrence leaves the other kinds as they are (R180). -/
theorem latched_latch_other (e : Event) (p : Port) {k : EventKind} (h : k ≠ e.kind) :
    ((s.latch e).links.get p).latched k = (s.links.get p).latched k := by
  have hc : e.kind.code.val ≠ k.code.val := fun hk => h (code_injective (Fin.ext hk)).symm
  cases p <;>
    simp [State.latch, PerPort.map, PerPort.get, Link.latchEvent, Link.follow, Link.latched, putAt,
      Vector.getElem_set_ne _ _ hc]

end Sys2Proof.Machine
end

