-- ==== Sys2Proof/Laws/Exec.lean ====
section
/-! SUPPORT. What `exec` is, command by command: the meaning of each command of the lines and of the part itself as one
equation, and of all the request rows as one. -/

namespace Sys2Proof.Machine

/-- A request row is the arrival of its frame. -/
theorem exec_request (c : Instr) (s : State) (p : Port) (r : Request) (h : c.request = some (p, r)) :
    exec c s = s.hostRequest p r := by
  cases c <;> simp only [Instr.request, reduceCtorEq, Option.some.injEq, Prod.mk.injEq] at h <;>
    (obtain ⟨rfl, rfl⟩ := h; rfl)

theorem exec_aOn (s : State) : exec .aOn s = s.event State.aOn := rfl
theorem exec_aOff (s : State) : exec .aOff s = s.event State.aOff := rfl
theorem exec_bOn (s : State) : exec .bOn s = s.event State.bOn := rfl
theorem exec_bOff (s : State) : exec .bOff s = .next s := rfl
theorem exec_treadleEdge (s : State) :
    exec .treadleEdge s = s.event fun s => s.modMeas fun m => m.edge s.laneTime := rfl
theorem exec_tagFrame (id : TagId) (check : Byte) (s : State) :
    exec (.tagFrame id check) s =
      s.event fun s => (s.modLane fun l => { l with frame := none }).takeTagFrame id check := rfl
theorem exec_tagFrameGap (s : State) :
    exec .tagFrameGap s = s.event fun s => s.modLane fun l => { l with frame := none } := rfl
theorem exec_tagReadChancePassed (place : Nat) (s : State) :
    exec (.tagReadChancePassed place) s = s.event fun s => s.chancePassed place := rfl
theorem exec_transitTimeout (s : State) : exec .transitTimeout s = s.event State.transitExpired := rfl
theorem exec_stuckTimeout (s : State) : exec .stuckTimeout s = s.event State.stuckExpired := rfl
theorem exec_tagWindowExpiry (place : Nat) (s : State) :
    exec (.tagWindowExpiry place) s = s.event fun s => s.windowExpired place := rfl
theorem exec_identTimerExpiry (visit : Nat) (s : State) :
    exec (.identTimerExpiry visit) s = s.event fun s => s.identExpired visit := rfl
theorem exec_dispatchPass (s : State) : exec .dispatchPass s = s.event State.dispatchPass := rfl
theorem exec_signMessageSent (s : State) : exec .signMessageSent s = .next s.signSent := rfl
theorem exec_presenceAssert (bay : Bay) (s : State) :
    exec (.presenceAssert bay) s =
      (s.modLines fun l => { l with presence := l.presence.set bay true }).event fun s => s.presenceAsserted bay := rfl
theorem exec_presenceClear (bay : Bay) (s : State) :
    exec (.presenceClear bay) s =
      (s.modLines fun l => { l with presence := l.presence.set bay false }).event fun s => s.presenceCleared bay := rfl
theorem exec_entrySettleExpiry (bay : Bay) (s : State) :
    exec (.entrySettleExpiry bay) s = s.event fun s => s.settleExpired bay := rfl
theorem exec_callTimerExpiry (bay : Bay) (s : State) :
    exec (.callTimerExpiry bay) s = s.event fun s => s.callExpired bay := rfl
theorem exec_eStopAssert (bay : Bay) (s : State) :
    exec (.eStopAssert bay) s =
      (s.modLines fun l => { l with estop := l.estop.set bay true }).event fun s => s.eStopAsserted bay := rfl
theorem exec_eStopClear (bay : Bay) (s : State) :
    exec (.eStopClear bay) s = .next (s.modLines fun l => { l with estop := l.estop.set bay false }) := rfl
theorem exec_flowPulse (bay : Bay) (s : State) : exec (.flowPulse bay) s = s.event fun s => s.flowPulse bay := rfl
theorem exec_timeLimitExpiry (bay : Bay) (s : State) :
    exec (.timeLimitExpiry bay) s = s.event fun s => s.limitExpired bay := rfl
theorem exec_waterWaitExpiry (bay : Bay) (s : State) :
    exec (.waterWaitExpiry bay) s = s.event fun s => s.waitExpired bay := rfl
theorem exec_runOnExpiry (bay : Bay) (s : State) :
    exec (.runOnExpiry bay) s = s.event fun s => s.runOnExpired bay := rfl
theorem exec_exitTimerExpiry (bay : Bay) (s : State) :
    exec (.exitTimerExpiry bay) s = s.event fun s => s.exitExpired bay := rfl
theorem exec_supplyLowAssert (s : State) :
    exec .supplyLowAssert s =
      (s.modLines fun l => { l with supplyLow := true }).event fun s => s.latch (.loadShed s.baysInRun) := rfl
theorem exec_supplyLowClear (s : State) :
    exec .supplyLowClear s = .next (s.modLines fun l => { l with supplyLow := false }) := rfl
theorem exec_pumpCycleEnd (bay : Bay) (s : State) :
    exec (.pumpCycleEnd bay) s = s.event fun s => s.pumpCycle bay := rfl
theorem exec_lowSwitchAssert (tank : Tank) (s : State) :
    exec (.lowSwitchAssert tank) s =
      (s.modLines fun l => { l with low := l.low.set tank true }).event fun s => s.lowAsserted tank := rfl
theorem exec_lowSwitchClear (tank : Tank) (s : State) :
    exec (.lowSwitchClear tank) s = .next (s.modLines fun l => { l with low := l.low.set tank false }) := rfl
theorem exec_highSwitchAssert (tank : Tank) (s : State) :
    exec (.highSwitchAssert tank) s =
      (s.modLines fun l => { l with high := l.high.set tank true }).event fun s => s.highAsserted tank := rfl
theorem exec_highSwitchClear (tank : Tank) (s : State) :
    exec (.highSwitchClear tank) s = .next (s.modLines fun l => { l with high := l.high.set tank false }) := rfl
theorem exec_tankSettleExpiry (tank : Tank) (s : State) :
    exec (.tankSettleExpiry tank) s = s.event fun s => s.tankSettled tank := rfl
theorem exec_resampleExpiry (tank : Tank) (s : State) :
    exec (.resampleExpiry tank) s = s.event fun s => s.resampleDue tank := rfl
theorem exec_referenceCountDone (s : State) :
    exec .referenceCountDone s = s.event fun s => s.modConv Converter.referenceDone := rfl
theorem exec_conversionEnd (periods : Nat) (s : State) :
    exec (.conversionEnd periods) s = s.event fun s => s.conversionEnd periods := rfl
theorem exec_span (s : State) : exec .span s = s.event State.spanEnd := rfl
theorem exec_releaseWalkStep (s : State) : exec .releaseWalkStep s = s.event State.stepWalk := rfl
theorem exec_midnightPassage (s : State) :
    exec .midnightPassage s = .next (if s.clock.atMidnight then s.settleSign s.passMidnight else s) := rfl
theorem exec_unknownKind (port : Port) (kind : Byte) (s : State) :
    exec (.unknownKind port kind) s = s.portCommand fun s => s.frameArrives port (rightFrame kind []) := rfl
theorem exec_frameGap (port : Port) (s : State) :
    exec (.frameGap port) s = s.portCommand fun s => s.abandonFrame port := rfl
theorem exec_replySent (port : Port) (s : State) :
    exec (.replySent port) s = s.portCommand fun s => s.replyEnds port := rfl
theorem exec_powerOn (kept : StoreChecks) (s : State) :
    exec (.powerOn kept) s = .next ({ s with store := checksBoth s.store kept }.takeReset .powerOn) := rfl
theorem exec_resetLine (s : State) :
    exec .resetLine s = .next (if s.part.phase = .off then s else s.takeReset .resetLine) := rfl
theorem exec_storeCheck (s : State) :
    exec .storeCheck s = .next (if s.part.phase = .checking then s.checkStore else s) := rfl
theorem exec_startUpEnd (s : State) :
    exec .startUpEnd s = .next (if s.part.phase = .starting then s.endStartUp else s) := rfl
theorem exec_claimAnswer (bay : Bay) (s : State) :
    exec (.claimAnswer bay) s = s.event fun s => s.claimAnswer bay := rfl
theorem exec_powerLoss (s : State) : exec .powerLoss s = .next (if s.part.phase = .off then s else s.loseMain) := rfl
theorem exec_frameByte (port : Port) (byte : Byte) (s : State) :
    exec (.frameByte port byte) s = s.portCommand fun s => s.frameByte port byte := rfl
theorem exec_missingStopBit (port : Port) (s : State) :
    exec (.missingStopBit port) s = s.portCommand fun s => s.abandonFrame port := rfl
theorem exec_tagByte (byte : Byte) (s : State) : exec (.tagByte byte) s = s.event fun s => s.tagByte byte := rfl

end Sys2Proof.Machine
end

