-- ==== Sys2Proof/Laws/PerInstr.lean ====
section
/-! SUPPORT. Laws made for each command on its own: the payload of the request frame that a row stands for has the length
that its kind has (R186), one lemma for each constructor. -/

namespace Sys2Proof.Laws.RequestLength

open Sys2Proof.Machine

/-- What the payload of a command's request frame, if it has one, must be as long as (R186). -/
def Statement (i : Instr) : Prop :=
  match i.request with
  | some x => requestLength x.2.kind = some x.2.payload.length
  | none => True

/-- `be` writes the number of bytes it is asked for. -/
theorem be_length (k n : Nat) : (be k n).length = k := by
  induction k generalizing n with
  | zero => rfl
  | succ k ih => simp [be, ih]

/-- The payload of every request is as long as its kind has it. -/
theorem payload_length (r : Request) : requestLength r.kind = some r.payload.length := by
  cases r <;> simp [Request.kind, Request.payload, requestLength, be_length]

theorem aOn : Statement .aOn := trivial

theorem aOff : Statement .aOff := trivial

theorem bOn : Statement .bOn := trivial

theorem bOff : Statement .bOff := trivial

theorem treadleEdge : Statement .treadleEdge := trivial

theorem tagFrame (id : TagId) (check : Byte) : Statement (.tagFrame id check) := trivial

theorem tagFrameGap : Statement .tagFrameGap := trivial

theorem tagReadChancePassed (place : Nat) : Statement (.tagReadChancePassed place) := trivial

theorem transitTimeout : Statement .transitTimeout := trivial

theorem stuckTimeout : Statement .stuckTimeout := trivial

theorem tagWindowExpiry (place : Nat) : Statement (.tagWindowExpiry place) := trivial

theorem identTimerExpiry (visit : Nat) : Statement (.identTimerExpiry visit) := trivial

theorem plate (port : Port) (visit : BitVec 16) (plate : PlateField) : Statement (.plate port visit plate) :=
  payload_length (.plate visit plate)

theorem identify (port : Port) (visit : BitVec 16) (haulier : Byte) (programme : Byte) (cls : Byte) :
    Statement (.identify port visit haulier programme cls) :=
  payload_length (.identify visit haulier programme cls)

theorem enqueue (port : Port) (haulier : Byte) (programme : Byte) (cls : Byte) (tag : TagId) (plate : PlateField) :
    Statement (.enqueue port haulier programme cls tag plate) :=
  payload_length (.enqueue haulier programme cls tag plate)

theorem removeVisit (port : Port) (visit : BitVec 16) : Statement (.removeVisit port visit) :=
  payload_length (.removeVisit visit)

theorem queueList (port : Port) : Statement (.queueList port) :=
  payload_length .queueList

theorem visitRead (port : Port) (visit : BitVec 16) : Statement (.visitRead port visit) :=
  payload_length (.visitRead visit)

theorem vehiclePut (port : Port) (tag : TagId) (haulier : Byte) (programme : Byte) (plate : PlateField) (blocked : Byte) :
    Statement (.vehiclePut port tag haulier programme plate blocked) :=
  payload_length (.vehiclePut tag haulier programme plate blocked)

theorem vehicleDrop (port : Port) (tag : TagId) : Statement (.vehicleDrop port tag) :=
  payload_length (.vehicleDrop tag)

theorem vehicleGet (port : Port) (tag : TagId) : Statement (.vehicleGet port tag) :=
  payload_length (.vehicleGet tag)

theorem haulierPut (port : Port) (haulier : Byte) (state : Byte) (discount : BitVec 16) (limit : BitVec 32) (quota : Byte) :
    Statement (.haulierPut port haulier state discount limit quota) :=
  payload_length (.haulierPut haulier state discount limit quota)

theorem haulierDrop (port : Port) (haulier : Byte) : Statement (.haulierDrop port haulier) :=
  payload_length (.haulierDrop haulier)

theorem haulierGet (port : Port) (haulier : Byte) : Statement (.haulierGet port haulier) :=
  payload_length (.haulierGet haulier)

theorem termsBegin (port : Port) : Statement (.termsBegin port) :=
  payload_length .termsBegin

theorem termsBlock (port : Port) (code : Byte) (index : Byte) (content : BlockContent) (digest : BitVec 16) :
    Statement (.termsBlock port code index content digest) :=
  payload_length (.termsBlock code index content digest)

theorem termsCount (port : Port) : Statement (.termsCount port) :=
  payload_length .termsCount

theorem termsCommit (port : Port) : Statement (.termsCommit port) :=
  payload_length .termsCommit

theorem termsAbandon (port : Port) : Statement (.termsAbandon port) :=
  payload_length .termsAbandon

theorem termsRead (port : Port) (code : Byte) (index : Byte) : Statement (.termsRead port code index) :=
  payload_length (.termsRead code index)

theorem dispatchPass : Statement .dispatchPass := trivial

theorem signMessageSent : Statement .signMessageSent := trivial

theorem presenceAssert (bay : Bay) : Statement (.presenceAssert bay) := trivial

theorem presenceClear (bay : Bay) : Statement (.presenceClear bay) := trivial

theorem entrySettleExpiry (bay : Bay) : Statement (.entrySettleExpiry bay) := trivial

theorem callTimerExpiry (bay : Bay) : Statement (.callTimerExpiry bay) := trivial

theorem eStopAssert (bay : Bay) : Statement (.eStopAssert bay) := trivial

theorem eStopClear (bay : Bay) : Statement (.eStopClear bay) := trivial

theorem flowPulse (bay : Bay) : Statement (.flowPulse bay) := trivial

theorem timeLimitExpiry (bay : Bay) : Statement (.timeLimitExpiry bay) := trivial

theorem waterWaitExpiry (bay : Bay) : Statement (.waterWaitExpiry bay) := trivial

theorem runOnExpiry (bay : Bay) : Statement (.runOnExpiry bay) := trivial

theorem exitTimerExpiry (bay : Bay) : Statement (.exitTimerExpiry bay) := trivial

theorem supplyLowAssert : Statement .supplyLowAssert := trivial

theorem supplyLowClear : Statement .supplyLowClear := trivial

theorem pumpCycleEnd (bay : Bay) : Statement (.pumpCycleEnd bay) := trivial

theorem bayStatus (port : Port) (bay : Byte) : Statement (.bayStatus port bay) :=
  payload_length (.bayStatus bay)

theorem bayAbort (port : Port) (bay : Byte) : Statement (.bayAbort port bay) :=
  payload_length (.bayAbort bay)

theorem bayRelease (port : Port) (bay : Byte) : Statement (.bayRelease port bay) :=
  payload_length (.bayRelease bay)

theorem swap (port : Port) (resource : Byte) (expected : BitVec 24) (new : BitVec 24) :
    Statement (.swap port resource expected new) :=
  payload_length (.swap resource expected new)

theorem waterStatus (port : Port) : Statement (.waterStatus port) :=
  payload_length .waterStatus

theorem allowanceSet (port : Port) (litres : BitVec 24) : Statement (.allowanceSet port litres) :=
  payload_length (.allowanceSet litres)

theorem lowSwitchAssert (tank : Tank) : Statement (.lowSwitchAssert tank) := trivial

theorem lowSwitchClear (tank : Tank) : Statement (.lowSwitchClear tank) := trivial

theorem highSwitchAssert (tank : Tank) : Statement (.highSwitchAssert tank) := trivial

theorem highSwitchClear (tank : Tank) : Statement (.highSwitchClear tank) := trivial

theorem tankSettleExpiry (tank : Tank) : Statement (.tankSettleExpiry tank) := trivial

theorem resampleExpiry (tank : Tank) : Statement (.resampleExpiry tank) := trivial

theorem referenceCountDone : Statement .referenceCountDone := trivial

theorem conversionEnd (periods : Nat) : Statement (.conversionEnd periods) := trivial

theorem span : Statement .span := trivial

theorem tankDump (port : Port) (tank : Byte) : Statement (.tankDump port tank) :=
  payload_length (.tankDump tank)

theorem tankHold (port : Port) (tank : Byte) : Statement (.tankHold port tank) :=
  payload_length (.tankHold tank)

theorem tankResume (port : Port) (tank : Byte) : Statement (.tankResume port tank) :=
  payload_length (.tankResume tank)

theorem tankServe (port : Port) (tank : Byte) : Statement (.tankServe port tank) :=
  payload_length (.tankServe tank)

theorem tankStatus (port : Port) : Statement (.tankStatus port) :=
  payload_length .tankStatus

theorem spotSample (port : Port) (probe : Byte) : Statement (.spotSample port probe) :=
  payload_length (.spotSample probe)

theorem exportOpen (port : Port) (page : Byte) : Statement (.exportOpen port page) :=
  payload_length (.exportOpen page)

theorem exportNext (port : Port) : Statement (.exportNext port) :=
  payload_length .exportNext

theorem exportStop (port : Port) : Statement (.exportStop port) :=
  payload_length .exportStop

theorem holdSet (port : Port) (page : Byte) : Statement (.holdSet port page) :=
  payload_length (.holdSet page)

theorem holdClear (port : Port) (page : Byte) : Statement (.holdClear port page) :=
  payload_length (.holdClear page)

theorem releaseFirst (port : Port) (page : Byte) : Statement (.releaseFirst port page) :=
  payload_length (.releaseFirst page)

theorem releaseLast (port : Port) (page : Byte) : Statement (.releaseLast port page) :=
  payload_length (.releaseLast page)

theorem releaseGo (port : Port) : Statement (.releaseGo port) :=
  payload_length .releaseGo

theorem journalStatus (port : Port) : Statement (.journalStatus port) :=
  payload_length .journalStatus

theorem releaseWalkStep : Statement .releaseWalkStep := trivial

theorem midnightPassage : Statement .midnightPassage := trivial

theorem timeSet (port : Port) (day : BitVec 16) (seconds : BitVec 24) : Statement (.timeSet port day seconds) :=
  payload_length (.timeSet day seconds)

theorem timeRead (port : Port) : Statement (.timeRead port) :=
  payload_length .timeRead

theorem status (port : Port) : Statement (.status port) :=
  payload_length .status

theorem identity (port : Port) : Statement (.identity port) :=
  payload_length .identity

theorem checkMode (port : Port) (mode : Byte) : Statement (.checkMode port mode) :=
  payload_length (.checkMode mode)

theorem attentionSet (port : Port) (mask : BitVec 32) : Statement (.attentionSet port mask) :=
  payload_length (.attentionSet mask)

theorem attentionClear (port : Port) (mask : BitVec 32) : Statement (.attentionClear port mask) :=
  payload_length (.attentionClear mask)

theorem reset (port : Port) : Statement (.reset port) :=
  payload_length .reset

theorem clearStore (port : Port) : Statement (.clearStore port) :=
  payload_length .clearStore

theorem unknownKind (port : Port) (kind : Byte) : Statement (.unknownKind port kind) := trivial

theorem frameGap (port : Port) : Statement (.frameGap port) := trivial

theorem replySent (port : Port) : Statement (.replySent port) := trivial

theorem powerOn (kept : StoreChecks) : Statement (.powerOn kept) := trivial

theorem resetLine : Statement .resetLine := trivial

theorem storeCheck : Statement .storeCheck := trivial

theorem startUpEnd : Statement .startUpEnd := trivial

theorem claimAnswer (bay : Bay) : Statement (.claimAnswer bay) := trivial

theorem powerLoss : Statement .powerLoss := trivial

theorem frameByte (port : Port) (byte : Byte) : Statement (.frameByte port byte) := trivial

theorem missingStopBit (port : Port) : Statement (.missingStopBit port) := trivial

theorem tagByte (byte : Byte) : Statement (.tagByte byte) := trivial

end Sys2Proof.Laws.RequestLength
end

