-- ==== Sys2Proof/WellFormed.lean ====
section
/-! DEFINITION. Which commands are well formed: the checks on operands that their types do not make already. An
ill-formed command is still taken by `exec` (it finds nothing to act on, or is answered as the frame it is). -/

namespace Sys2Proof

/-- A place in the tag read buffer, a place in the window list, a visit number and an unassigned kind are in range. -/
def Instr.wellFormed : Instr → Bool
  | .tagReadChancePassed place => place < Config.readCapacity
  | .tagWindowExpiry place => place < Config.windowCapacity
  | .identTimerExpiry visit => 1 ≤ visit && visit ≤ 65535
  | .unknownKind _ kind => (requestLength kind).isNone
  | _ => true

end Sys2Proof
end

