-- ==== Sys2Proof/Tests/Slice0.lean ====
section
/-! SUPPORT. The model's own tests: the well-formedness smoke, the manual's worked values, one small step for each command,
and for every obligation with hypotheses a witness that meets them. Expected values come from the manual's tables and worked
sequences, or from its rules by hand. -/

open Sys2Proof Sys2Proof.Machine

set_option maxRecDepth 100000

namespace Sys2Proof.Tests

/-! ### States to test on -/

/-- A running part in its factory state, at lane time 10,000 of day 5, with nothing in sending. -/
def live : State :=
  { State.reset with
    timebase := 1000000
    part := { phase := .running, startKind := .warm, cause := .powerOn, recovered := 0, walkFinished := false }
    clock := { time := ⟨5, 100, 0⟩, sub := 0, billingDay := 5, lastClosed := 4, acc := zeroTotals }
    disp := { dispatcherReset 0 with sending := none }
    store := allChecks }

/-- The same with every bay open and idle, 10,000 litres, and port 1 the owner. -/
def depot : State :=
  { live with
    water := { waterFactory with bayOpen := 63, fresh := 10000, owner := some .one }
    disp := { live.disp with status := .opened }
    bays := .all { bayClosed with state := .idle } }

/-- The state a command leads to. -/
def ran (o : Host.Outcome State Fault Refusal) : State :=
  match o with
  | .next t => t
  | .fault _ => State.reset
  | .refused _ => State.reset

/-- The reply code and first payload bytes of the reply in sending on a port. -/
def replyOn (s : State) (p : Port) : List Byte :=
  match (s.links.get p).reply with
  | some x => x.bytes.drop 3
  | none => []

/-- The newest occurrence of a kind latched on port 1. -/
def latchedOn (s : State) (k : EventKind) : Option Event :=
  ((s.links.get .one).latched k).map (·.event)

/-- A queued visit: PENDING, with nothing read. -/
def queued (n : Nat) : Visit :=
  { newVisit n ⟨5, 90, 0⟩ with ident := .pending }

/-- A MATCHED visit of haulier 12, programme 3, class 4. -/
def matchedVisit (n : Nat) : Visit :=
  { queued n with ident := .matched, haulier := some 12, programme := some 3, cls := some 4 }

/-- So many visits waiting. -/
def waiting (k : Nat) : List Visit :=
  (List.range k).map fun i => queued (i + 1)

/-- A measurement of a bound visit, begun at a lane time. -/
def measurement (t0 : Nat) : Measurement :=
  { binding := .bound 1, t0 := t0, arrival := ⟨5, 90, 0⟩, tab := none, ta := none, axles := 0, lastEdge := none,
    frozen := false, stuck := false, transit := none, stuckTimer := some (t0 + 65535), heldNotice := false }

/-- The running part measuring visit 1, loop A occupied. -/
def measuring (m : Measurement) : State :=
  { live with
    lane := { laneReset with meas := some m, occupied := true }
    queue := [newVisit 1 ⟨5, 90, 0⟩], nextVisit := 2 }

/-- Phase 1 of programme 3 (08 section 6). -/
def soak : PhaseTerms :=
  { kind := .preSoak, source := .reclaimPreferred, dose := 300, limit := 600, duty := 255, weight := 150 }

/-- Phase 2 of programme 3. -/
def pressure : PhaseTerms :=
  { kind := .highPressure, source := .reclaimPreferred, dose := 900, limit := 600, duty := 200, weight := 450 }

/-- Phase 3 of programme 3. -/
def under : PhaseTerms :=
  { kind := .underbody, source := .reclaimPreferred, dose := 400, limit := 600, duty := 200, weight := 200 }

/-- Phase 4 of programme 3. -/
def final : PhaseTerms :=
  { kind := .finalRinse, source := .freshOnly, dose := 250, limit := 600, duty := 200, weight := 200 }

/-- The snapshot of 08 section 6. -/
def terms3 : Snapshot :=
  { programme := 3, phases := [soak, pressure, under, final], basePrice := 8450, freshRate := 180, reclaimRate := 40,
    discount := 75, generation := 5 }

/-- An entry with its litres. -/
def entryOf (st : PhaseStatus) (r lb lf fk : Nat) (lost : Bool) : PhaseEntry :=
  { status := st, rPhase := r, lb := lb, lf := lf, fk := fk, degraded := false, lost := lost }

/-- A work record of visit 401 in a phase and sub-state. -/
def record (phase : Nat) (sub : SubState) : WorkRecord :=
  { newRecord ⟨5, 80, 0⟩ terms3 with
    visit := some (matchedVisit 401), startTime := some ⟨5, 85, 0⟩, phase := phase, sub := sub }

/-- Bay 1 in a state with a record, the other bays idle. -/
def bayIn (st : BayState) (r : Option WorkRecord) : State :=
  { depot with bays := depot.bays.set .b1 { bayClosed with state := st, record := r } }

/-- Bay 1 called for visit 401, its timers running. -/
def calledBay : State :=
  { bayIn .called (some (newRecord ⟨5, 80, 0⟩ terms3)) with
    queue := [{ matchedVisit 401 with call := some .b1 }]
    disp := { depot.disp with lines := [⟨.b1, 401⟩] }
    journal := { journalFactory with reserved := 1 }
    bays := depot.bays.set .b1
      { bayClosed with
        state := .called, record := some (newRecord ⟨5, 80, 0⟩ terms3), settle := some 10000, call := some 10000 } }

/-- Bay 1 in WASHING, with every one of its wash timers running. -/
def washing (r : WorkRecord) : State :=
  { depot with
    journal := { journalFactory with reserved := 1 }
    bays := depot.bays.set .b1
      { bayClosed with
        state := .washing, record := some r, dose := 65535, limit := some 10000, wait := some 10000
        runOnTimer := some 10000 } }

/-- A request's port is ready. -/
theorem ready_of {s : State} {p : Port}
    (h : s.part.phase = .running ∧ (s.links.get p).reply = none ∧ (s.links.get p).held = none ∧
      s.disp.status = s.signStatus) : s.Ready p := h

/-- The part runs. -/
theorem running_of {s : State} (h : s.part.phase = .running ∧ s.disp.status = s.signStatus) : s.Running := h

/-! ### Well-formedness: each check refuses its ill-formed term -/

theorem test_wf_read_place : (Instr.tagReadChancePassed 8).wellFormed = false := by decide
theorem test_wf_window_place : (Instr.tagWindowExpiry 4).wellFormed = false := by decide
theorem test_wf_visit_zero : (Instr.identTimerExpiry 0).wellFormed = false := by decide
theorem test_wf_visit_high : (Instr.identTimerExpiry 65536).wellFormed = false := by decide
theorem test_wf_known_kind : (Instr.unknownKind .one 0x10).wellFormed = false := by decide
theorem test_wf_accepts : (Instr.unknownKind .one 0x01).wellFormed = true ∧ (Instr.tagWindowExpiry 3).wellFormed = true ∧
    (Instr.identTimerExpiry 65535).wellFormed = true := by decide

/-! ### Worked values of the manual -/

/-- Catalogue check value of the generator of R53 with initial value FFFFh and no final inversion. -/
theorem test_check_word : crc [0x31, 0x32, 0x33, 0x34, 0x35, 0x36, 0x37, 0x38, 0x39] = 0x29B1#16 := by decide
/-- 06 Table 4-1. -/
theorem test_estimates : [estimate 300 192, estimate 900 192, estimate 400 185, estimate 250 0, estimate 400 256] =
    [75, 225, 111, 250, 0] := by decide
/-- 08 Table 2-1. -/
theorem test_fresh_litres : [freshLitres 192 303 0, freshLitres 192 700 204, freshLitres 256 322 0, freshLitres 0 251 0,
    freshLitres 129 202 0] = [76, 379, 0, 251, 101] := by decide
/-- 08 Table 4-1. -/
theorem test_base_part : [basePart 8450 961, basePart 2900 845, basePart 3900 700, basePart 99999 1000, basePart 8450 0] =
    [8120, 2451, 2730, 99999, 0] := by decide
/-- 07 Table 6-1. -/
theorem test_shares : [shareFor 550 600 1400, shareFor 800 600 1400, shareFor 819 600 1400, shareFor 996 600 1400,
    shareFor 1399 600 1400, shareFor 1800 600 1400] = [256, 192, 185, 129, 0, 0] := by decide
/-- 07 R127 and Table 7-1. -/
theorem test_scaled : [scaled 3276 4096, scaled 65535 4096, scaled 65535 256] = [819, 16383, 65535] := by decide

/-- The work record of 08 Table 6-1. -/
def worked3 : WorkRecord :=
  { record 4 .runOn with
    entries := [entryOf .done 192 303 0 76 false, entryOf .done 192 700 204 379 true, entryOf .short 256 322 0 0 false,
      entryOf .done 0 251 0 251 false] }

/-- 08 Table 6-2. -/
theorem test_priced_visit : [worked3.litres, worked3.fresh, worked3.weight, worked3.base, worked3.water, worked3.discount,
    worked3.amount] = [1780, 706, 961, 8120, 1701, 736, 9085] := by decide
theorem test_priced_flags : worked3.flags false =
    { aborted := false, short := true, skipped := false, degraded := false, lost := true, recovered := false } := by decide

/-- The kind and first field of a request, from Table 7-1 and R186 written out: VISIT READ of visit 258. -/
theorem test_decode_request : requestOf 0x15 [0x01, 0x02] = some (.visitRead 258) := by decide
theorem test_decode_swap : requestOf 0x38 [0x01, 0x00, 0x01, 0x00, 0x00, 0x00, 0x05] = some (.swap 1 256 5) := by decide
theorem test_no_word_decodes : decodeTableWord 8 0 = none := by decide

/-! ### One small step for each command -/

/-- 01 Table 6-1: the A-on creates the visit. -/
theorem test_a_on : (ran (exec .aOn live)).queue.map (·.ident) = [.measuring] := by decide
/-- 01 Table 6-1: t_a 6,400 and t_ab 1,600 make 1,600 cm, class 4 with 5 axles. -/
theorem test_a_off_long_vehicle :
    (ran (exec .aOff (measuring { measurement 3600 with tab := some 1600, axles := 5 }))).queue.map
      (fun v => (v.length, v.cls)) = [(some 1600, some 4)] := by decide
/-- 01 Table 6-2: t_a 1,800 and t_ab 2,400 make 300 cm, class 1 with 2 axles. -/
theorem test_b_on_short_vehicle :
    (ran (exec .bOn { measuring { measurement 7600 with ta := some 1800, axles := 2 } with
      lane := { laneReset with meas := some { measurement 7600 with ta := some 1800, axles := 2 } } })).queue.map
      (fun v => (v.length, v.cls)) = [(some 300, some 1)] := by decide
theorem test_b_off : ran (exec .bOff live) = live := by rfl
/-- 01 Table 6-1: an edge 40 ms after the last counted one is ignored. -/
theorem test_treadle_chatter :
    (ran (exec .treadleEdge (measuring { measurement 9660 with axles := 1, lastEdge := some 9960 }))).lane.meas.map
      (·.axles) = some 1 := by decide
theorem test_treadle_counts :
    (ran (exec .treadleEdge (measuring { measurement 9660 with axles := 1, lastEdge := some 9920 }))).lane.meas.map
      (fun m => (m.axles, m.lastEdge)) = some (2, some 10000) := by decide
theorem test_tag_frame_buffered :
    (ran (exec (.tagFrame 0x0000000102 0x03) live)).lane.reads.map (·.id) = [0x0000000102] := by decide
theorem test_tag_frame_wrong_check : (ran (exec (.tagFrame 0x0000000102 0x02) live)).lane.reads = [] := by decide
theorem test_tag_gap :
    (ran (exec .tagFrameGap { live with lane := { laneReset with frame := some [1, 2] } })).lane.frame = none := by decide
theorem test_read_chance_passed :
    latchedOn (ran (exec (.tagReadChancePassed 0)
      { live with lane := { laneReset with reads := [⟨7, 8000, ⟨5, 98, 0⟩, 2⟩] } })) .tagStray =
        some (.tagStray 7 ⟨5, 98, 0⟩) := by decide
theorem test_backout :
    latchedOn (ran (exec .transitTimeout (measuring { measurement 3600 with transit := some 10000, axles := 2 })))
      .backout = some (.backout (some 1) ⟨5, 90, 0⟩ 2) := by decide
theorem test_loop_stuck :
    ((ran (exec .stuckTimeout (measuring (measurement 3600)))).queue.map fun v => (v.ident, v.hold)) =
      [(.pending, .measure)] := by decide
theorem test_window_expiry :
    (ran (exec (.tagWindowExpiry 0) { live with
      queue := [queued 1], lane := { laneReset with windows := [⟨some 1, 3600, some 8000, 2⟩] } })).queue.map
        (·.identTimer) = [some 30000] := by decide
theorem test_ident_timer :
    (ran (exec (.identTimerExpiry 1) { live with queue := [{ queued 1 with identTimer := some 10000 }] })).queue.map
      (·.ident) = [.unknown] := by decide

/-- The plate HB-7. -/
def plateHB7 : PlateField := bytesAt 10 [0x48, 0x42, 0x2D, 0x37] 0

/-- An entry of the Vehicle Register. -/
def entryHB7 : VehicleEntry :=
  { tag := 7, haulier := 12, programme := some 3, plate := some [0x48, 0x42, 0x2D, 0x37], blocked := false }

theorem test_plate :
    (ran (exec (.plate .one 1 plateHB7) { live with queue := [queued 1], register := [entryHB7] })).queue.map
      (fun v => (v.ident, v.haulier)) = [(.matched, some 12)] := by decide
theorem test_identify :
    (ran (exec (.identify .one 1 12 3 4) { live with queue := [queued 1] })).queue.map
      (fun v => (v.ident, v.programme, v.cls)) = [(.matched, some 3, some 4)] := by decide
theorem test_enqueue : replyOn (ran (exec (.enqueue .one 12 3 4 0 plateHB7) live)) .one =
    [0x00, 0x00, 0x01] ++ be 2 (frameCheck 0x92 [0x00, 0x00, 0x01]).toNat := by decide
theorem test_remove_visit : (ran (exec (.removeVisit .one 1) { live with queue := waiting 2 })).queue.map (·.number) =
    [2] := by decide
theorem test_queue_list : (replyOn (ran (exec (.queueList .two) { live with queue := waiting 2 })) .two).take 9 =
    [0x00, 0x02, 0x00, 0x01, 0x01, 0x00, 0xFF, 0x00, 0x00] := by decide
theorem test_visit_read : (replyOn (ran (exec (.visitRead .one 9) live)) .one).take 1 = [0x04] := by decide
theorem test_vehicle_put :
    (ran (exec (.vehiclePut .one 7 12 3 plateHB7 0) live)).register = [entryHB7] := by decide
theorem test_vehicle_drop :
    (ran (exec (.vehicleDrop .one 7) { live with register := [entryHB7] })).register = [] := by decide
theorem test_vehicle_get : (replyOn (ran (exec (.vehicleGet .one 7) live)) .one).take 1 = [0x04] := by decide
theorem test_haulier_put :
    ((ran (exec (.haulierPut .one 12 1 75 1000 2) depot)).hauliers[12]) =
      { state := .onStop, discount := 75, limit := 1000, quota := 2 } := by decide
theorem test_haulier_put_not_owner : (replyOn (ran (exec (.haulierPut .two 12 1 75 1000 2) depot)) .two).take 1 =
    [0x05] := by decide
theorem test_haulier_drop : (replyOn (ran (exec (.haulierDrop .one 12) depot)) .one).take 1 = [0x03] := by decide
theorem test_haulier_get : (replyOn (ran (exec (.haulierGet .two 0) depot)) .two).take 9 =
    [0, 0, 0, 0, 0, 0, 0, 0, 0] := by decide
theorem test_terms_begin :
    (ran (exec (.termsBegin .one) depot)).staging.map (fun g => (g.port, g.count)) = some (.one, 0) := by decide

/-- The part with port 1's load open. -/
def loading : State :=
  { depot with staging := some { port := .one, bank := defaultBank, count := 0 } }

theorem test_terms_block_wrong_digest :
    (replyOn (ran (exec (.termsBlock .one 3 0 zeroBlock 0) loading)) .one).take 1 = [0x12] := by decide
theorem test_terms_block :
    (replyOn (ran (exec (.termsBlock .one 3 0 zeroBlock (blockDigest 3 0 zeroBlock)) loading)) .one).take 3 =
      [0x00, 0x00, 0x01] := by decide
theorem test_terms_count : (replyOn (ran (exec (.termsCount .one) loading)) .one).take 4 = [0, 0, 0, 0] := by decide
/-- The default bank defines no programme and offers no price, so its checks pass (R55). -/
theorem test_terms_commit : (ran (exec (.termsCommit .one) loading)).generation = 1 := by decide
theorem test_terms_abandon : (ran (exec (.termsAbandon .one) loading)).staging = none := by decide
/-- Setting block: D is 400 (03 Table 2-4), so its content begins 01h 90h. -/
theorem test_terms_read : (replyOn (ran (exec (.termsRead .two 4 0) depot)) .two).take 6 = [0, 0, 4, 0, 0x01, 0x90] := by
  decide

/-- The depot with a tariff of 8,450 for programme 1, class 1, haulier 12 OPEN without limit, and visit 401 matched. -/
def dispatching : State :=
  { depot with
    active := { defaultBank with tariff := putAt defaultBank.tariff 0 (blockFrom (be 3 8450)) }
    hauliers := putAt hauliersFactory 12 { state := .opened, discount := 75, limit := 0, quota := 0 }
    queue := [{ matchedVisit 401 with programme := some 1, cls := some 1, tags := [0x1775] }]
    disp := { depot.disp with mark := true } }

theorem test_dispatch_pass :
    (ran (exec .dispatchPass dispatching)).disp.lines = [⟨.b1, 401⟩] := by decide
/-- R75: 5Ah, O, the line of bay 1 with the last four digits of tag 1775h = 6005, spaces, and the exclusive-or. -/
theorem test_sign_message :
    (ran (exec .dispatchPass dispatching)).disp.sending.map (fun m => m.bytes.take 8) =
      some [0x5A, 0x4F, 0x31, 0x36, 0x30, 0x30, 0x35, 0x20] := by decide
theorem test_sign_sent :
    (ran (exec .signMessageSent { live with disp := dispatcherReset 0 })).disp.sending = none := by decide
theorem test_presence_assert :
    ((ran (exec (.presenceAssert .b1) (bayIn .called none))).bays.get .b1).settle = some 15000 := by decide
theorem test_presence_intrusion :
    latchedOn (ran (exec (.presenceAssert .b2) depot)) .intrusion = some (.intrusion .b2 ⟨5, 100, 0⟩) := by decide
theorem test_presence_clear :
    ((ran (exec (.presenceClear .b1) (bayIn .exit (some (record 4 .outside))))).bays.get .b1).state = .idle := by decide
theorem test_entry_settle :
    (ran (exec (.entrySettleExpiry .b1) calledBay)).subState .b1 = .claim := by decide
theorem test_call_timer :
    (ran (exec (.callTimerExpiry .b1) calledBay)).queue.map (fun v => (v.call, v.noShow)) = [(none, 1)] := by decide
theorem test_e_stop :
    ((ran (exec (.eStopAssert .b3) depot)).bays.get .b3).state = .fault ∧
      (ran (exec (.eStopAssert .b3) depot)).water.bayOpen = 0b111011 := by decide
theorem test_e_stop_clear :
    (ran (exec (.eStopClear .b3) (ran (exec (.eStopAssert .b3) depot)))).lines.estop.get .b3 = false := by decide
/-- R84: the pulse that carries the dose counter from 65,535 to 0 ends RUN. -/
theorem test_flow_pulse : (ran (exec (.flowPulse .b1) (washing (record 1 .run)))).subState .b1 = .runOn := by decide
theorem test_time_limit :
    ((ran (exec (.timeLimitExpiry .b1) (washing (record 1 .run)))).record .b1).bind (·.entry) =
      some (entryOf .short 0 0 0 0 false) := by decide
theorem test_water_wait :
    ((ran (exec (.waterWaitExpiry .b1) (washing (record 1 .waterWait)))).record .b1).map
      (fun r => (r.phase, r.sub)) = some (2, .claim) := by decide
/-- R87: the last phase of 08 Table 6-1 ends; the charge of 08 Table 6-2 raises haulier 12's balance. -/
theorem test_run_on : (ran (exec (.runOnExpiry .b1) (washing { worked3 with claim := 251 }))).journal.balances[12] = 9085 := by
  decide
theorem test_exit_timer :
    latchedOn (ran (exec (.exitTimerExpiry .b1) { bayIn .exit none with
      bays := depot.bays.set .b1
        { bayClosed with state := .exit, record := some (record 4 .outside), exit := some 10000 } })) .exitOverstay =
        some (.exitOverstay .b1 401) := by decide
theorem test_supply_low :
    latchedOn (ran (exec .supplyLowAssert (washing (record 1 .run)))) .loadShed = some (.loadShed 1) := by decide
theorem test_supply_clear :
    (ran (exec .supplyLowClear { live with lines := { live.lines with supplyLow := true } })).lines.supplyLow = false := by
  decide
theorem test_pump_cycle :
    ((ran (exec (.pumpCycleEnd .b1) (washing (record 1 .run)))).bays.get .b1).pumpDuty = 255 := by decide
theorem test_bay_status : (replyOn (ran (exec (.bayStatus .one 1) depot)) .one).take 2 = [0x00, 0x01] := by decide
theorem test_bay_abort :
    ((ran (exec (.bayAbort .one 1) (washing (record 1 .run)))).record .b1).map (·.abort) = some .host := by decide
theorem test_bay_release :
    ((ran (exec (.bayRelease .one 1) (bayIn .fault none))).bays.get .b1).state = .idle := by decide
theorem test_swap : (ran (exec (.swap .two 1 10000 12000) depot)).water.fresh = 12000 := by decide
theorem test_swap_mismatch : (replyOn (ran (exec (.swap .two 1 9999 12000) depot)) .two).take 4 = [0x01, 0x00, 0x27, 0x10] := by
  decide
theorem test_water_status : (replyOn (ran (exec (.waterStatus .two) depot)) .two).take 4 = [0x00, 0x00, 0x27, 0x10] := by
  decide
theorem test_allowance : (ran (exec (.allowanceSet .one 12000) depot)).water.fresh = 12000 := by decide
theorem test_allowance_deferred : (ran (exec (.allowanceSet .one 12000) (washing (record 1 .run)))).water.fresh = 10000 := by
  decide

/-- Tank A in a state. -/
def tankIn (u : TankUnit) : State :=
  { depot with tanks := ⟨u, tankFactory⟩ }

theorem test_low_switch :
    ((ran (exec (.lowSwitchAssert .a) (tankIn { tankFactory with state := .dumping }))).tanks.get .a).state = .filling := by
  decide
theorem test_low_clear :
    (ran (exec (.lowSwitchClear .a) { live with lines := { live.lines with low := ⟨true, true⟩ } })).lines.low =
      ⟨false, true⟩ := by decide
theorem test_high_switch :
    ((ran (exec (.highSwitchAssert .a) (tankIn tankFactory))).tanks.get .a).settleTimer = some 2710000 := by decide
theorem test_high_clear :
    (ran (exec (.highSwitchClear .b) { live with lines := { live.lines with high := ⟨true, true⟩ } })).lines.high =
      ⟨true, false⟩ := by decide
theorem test_tank_settled :
    (ran (exec (.tankSettleExpiry .a) (tankIn { tankFactory with state := .settling, settleTimer := some 10000 }))).conv.up =
      61440 := by decide
theorem test_resample :
    ((ran (exec (.resampleExpiry .a) { tankIn { tankFactory with state := .service, resampleTimer := some 10000 } with
      service := some .a })).tanks.get .a).salt = .awaited := by decide
theorem test_reference_done :
    (ran (exec .referenceCountDone { depot with conv := { converterReset with phase := .reference } })).conv.phase = .probe := by
  decide

/-- Tank A sampling: SALT in conversion, the turbidity read. -/
def sampling : State :=
  { tankIn { tankFactory with state := .sampling, salt := .awaited, turb := .received ⟨400, false⟩ } with
    conv := { converterReset with phase := .probe, requests := [⟨.aSalt, true, false, false⟩], nRef := 4096, up := 3276 } }

/-- 07 Table 7-1 and Table 6-1: P 3,276 gives Q 819 and R 185. -/
theorem test_conversion : ((ran (exec (.conversionEnd 3276) sampling)).tanks.get .a).share = some 185 := by decide
theorem test_span :
    ((ran (exec .span { sampling with conv := { sampling.conv with phase := .reference, time := 65535 } })).tanks.get .a).fault =
      some ⟨.aSalt, .span⟩ := by decide
theorem test_tank_dump :
    ((ran (exec (.tankDump .one 0) depot)).tanks.get .a).state = .dumping := by decide
theorem test_tank_hold : (replyOn (ran (exec (.tankHold .two 1) depot)) .two).take 2 = [0x00, 0x00] := by decide
theorem test_tank_resume : (replyOn (ran (exec (.tankResume .two 1) depot)) .two).take 1 = [0x03] := by decide
theorem test_tank_serve :
    (ran (exec (.tankServe .one 0) (tankIn { tankFactory with state := .ready, share := some 185 }))).service = some .a := by
  decide
theorem test_tank_status : (replyOn (ran (exec (.tankStatus .one) depot)) .one).take 2 = [0x00, 0xFF] := by decide
theorem test_spot_sample : (replyOn (ran (exec (.spotSample .one 3) depot)) .one).take 2 = [0x00, 0x01] := by decide

/-- A record of a page. -/
def closing (q : BitVec 24) : Record :=
  .dayClose q { first := 1, last := 1, totals := zeroTotals }

/-- Page 0 full and CLOSED, page 1 OPEN and empty, port 1's cursor at a place. -/
def twoPages (c : CursorPlace) : State :=
  { depot with
    journal := { journalFactory with
      pages := putAt (putAt journalFactory.pages 0
        { state := .closed, hold := false, records := (List.range 16).map fun i => closing (BitVec.ofNat 24 i) }) 1
          { state := .opened, hold := false, records := [] }
      newest := 1, nextSeq := 16, cursors := ⟨⟨c, false⟩, cursorAbsent⟩ } }

theorem test_export_open :
    ((ran (exec (.exportOpen .one 0) (twoPages .absent))).journal.cursors.get .one).place = .slot 0 0 := by decide
/-- R154: a read of slot 15 leaves a CLOSED page READ. -/
theorem test_export_next :
    ((ran (exec (.exportNext .one) (twoPages (.slot 0 15)))).journal.pages[0]).state = .read ∧
      ((ran (exec (.exportNext .one) (twoPages (.slot 0 15)))).journal.cursors.get .one).place = .slot 1 0 := by decide
theorem test_export_stop :
    ((ran (exec (.exportStop .one) (twoPages (.slot 0 3)))).journal.cursors.get .one).place = .absent := by decide
theorem test_hold_set :
    ((ran (exec (.holdSet .one 0) (twoPages .absent))).journal.pages[0]).hold = true := by decide
theorem test_hold_clear : (replyOn (ran (exec (.holdClear .two 0) (twoPages .absent))) .two).take 1 = [0x05] := by decide
theorem test_release_first :
    (ran (exec (.releaseFirst .one 0) (twoPages .absent))).journal.tagging = .firstTagged 0 := by decide
theorem test_release_last : (replyOn (ran (exec (.releaseLast .one 0) (twoPages .absent))) .one).take 1 = [0x09] := by
  decide

/-- The same with a tagging. -/
def tagged (t : Tagging) : State :=
  { twoPages .absent with journal := { (twoPages .absent).journal with tagging := t } }

theorem test_release_go : (ran (exec (.releaseGo .one) (tagged (.bothTagged 0 0)))).journal.walk.isSome = true := by decide
theorem test_release_go_open_page :
    (replyOn (ran (exec (.releaseGo .one) (tagged (.bothTagged 0 1)))) .one).take 1 = [0x0B] := by decide
/-- R158: a JOURNAL STATUS of the owner carries RELEASE-RESET. -/
theorem test_journal_status :
    (replyOn (ran (exec (.journalStatus .one) (tagged (.firstTagged 0)))) .one).take 1 = [0x80] := by decide

/-- A walk over page 0, which is READ. -/
def walking : State :=
  { twoPages .absent with
    journal := { (twoPages .absent).journal with
      pages := putAt (twoPages .absent).journal.pages 0
        { (twoPages .absent).journal.pages[0] with state := .read }
      walk := some (newWalk 0 0) } }

/-- R160, R162: page 0 is released and freed; 63 FREE pages and an empty OPEN page make 1,024 available. -/
theorem test_walk_step :
    latchedOn (ran (exec .releaseWalkStep walking)) .releaseDone = some (.releaseDone 0 0 1 0 0 1 1024) := by decide

/-- The end of day 5. -/
def midnight : State :=
  { live with clock := { live.clock with time := ⟨5, 86399, 99⟩, sub := 1000 } }

/-- R170: the billing day 5 lies beyond LastClosedDay 4, so a close of day 5 falls due. -/
theorem test_midnight : (ran (exec .midnightPassage midnight)).clock =
    { time := ⟨6, 0, 0⟩, sub := 0, billingDay := 6, lastClosed := 5, acc := zeroTotals } := by decide
/-- R167: a TIME SET taken first, and the passage does not occur. -/
theorem test_no_midnight :
    (ran (exec .midnightPassage (ran (exec (.timeSet .one 5 50000) midnight)))).clock.time = ⟨5, 50000, 0⟩ := by decide
theorem test_time_set : latchedOn (ran (exec (.timeSet .two 5 106) live)) .clockStep =
    some (.clockStep .two ⟨5, 100, 0⟩ ⟨5, 106, 0⟩ 6) := by decide
theorem test_time_set_within_tolerance : latchedOn (ran (exec (.timeSet .two 5 105) live)) .clockStep = none := by decide
theorem test_time_read : (replyOn (ran (exec (.timeRead .one) live)) .one).take 6 = [0, 0, 5, 0, 0x27, 0x10] := by decide

/-- STARTED latched on both ports. -/
def startedNow : State :=
  { live with links := ((live.latch (.started .warm .powerOn 0 false false false)).links) }

theorem test_status : (replyOn (ran (exec (.status .one) startedNow)) .one).take 5 = [0, 0, 1, 28, 1] ∧
    ((ran (exec (.status .one) startedNow)).links.get .one).attention = false := by decide
theorem test_identity : (replyOn (ran (exec (.identity .one) live)) .one).take 8 =
    [0, 0x43, 0x52, 0x45, 0x53, 0x50, 0x4F, 0x4C] := by decide
theorem test_check_mode : ((ran (exec (.checkMode .one 0) live)).links.get .one).checkOn = false := by decide
theorem test_attention_set : ((ran (exec (.attentionSet .one 1) live)).links.get .one).mask = 0x10000001#29 := by decide
theorem test_attention_clear : ((ran (exec (.attentionClear .one 0x10000000) startedNow)).links.get .one).attention = false := by
  decide
theorem test_reset_follows_reply :
    (ran (exec (.replySent .one) (ran (exec (.reset .one) depot)))).part.cause = .resetRequest := by decide
theorem test_clear_store_clears :
    (ran (exec (.replySent .one) (ran (exec (.clearStore .one) depot)))).store = noChecks := by decide
theorem test_unknown_kind : (replyOn (ran (exec (.unknownKind .one 1) live)) .one).take 1 = [0x0D] := by decide
theorem test_frame_gap :
    ((ran (exec (.frameGap .one) (live.modLink .one fun l => { l with rx := .kind }))).links.get .one).rx = .hunt := by decide
theorem test_reply_sent : ((ran (exec (.replySent .one) (ran (exec (.status .one) live)))).links.get .one).reply = none := by
  decide
theorem test_power_on : (ran (exec (.powerOn noChecks) live)).store = noChecks := by decide
theorem test_reset_line : (ran (exec .resetLine depot)).water.fresh = 10000 ∧
    (ran (exec .resetLine depot)).water.owner = none := by decide
theorem test_store_check_cold : (ran (exec .storeCheck State.reset)).part.startKind = .cold := by decide
theorem test_store_check_warm :
    (ran (exec .storeCheck { State.reset with store := allChecks })).part.startKind = .warm := by decide
theorem test_start_up_end :
    latchedOn (ran (exec .startUpEnd { live with part := { live.part with phase := .starting } })) .started =
      some (.started .warm .powerOn 0 false false false) := by decide
/-- 06 Table 4-1: dose 300 at share 192 claims 75 litres. -/
theorem test_claim_answer :
    (ran (exec (.claimAnswer .b1) (washing { record 1 .claim with entries := [entryOf .notReached 192 0 0 0 false] }))).water.fresh
      = 9925 := by decide
theorem test_power_loss : (ran (exec .powerLoss depot)).part.phase = .off := by decide
theorem test_frame_byte : ((ran (exec (.frameByte .two 0xA6) live)).links.get .two).rx = .kind := by decide
theorem test_missing_stop_bit :
    ((ran (exec (.missingStopBit .one) (live.modLink .one fun l => { l with rx := .kind }))).links.get .one).rx = .hunt := by
  decide
/-- R175: 20.01 ms after the last byte the port stands in HUNT, at 20 ms not yet. -/
theorem test_frame_byte_after_gap : [997999, 998000].map (fun n =>
    ((ran (exec (.frameByte .two 0x15) (live.modLink .two fun l => { l with rx := .kind, rxAt := n }))).links.get .two).rx) =
    [.hunt, .length 0x15] := by decide
/-- R15: 50.01 ms after the last byte the frame is gone, at 50 ms not yet. -/
theorem test_tag_byte_after_gap : [994999, 995000].map (fun n =>
    (ran (exec (.tagByte 3) { live with lane := { laneReset with frame := some [1, 2], frameAt := n } })).lane.frame) =
    [none, some [1, 2, 3]] := by decide
theorem test_tag_byte : (ran (exec (.tagByte 0x7E) live)).lane.frame = some [] := by decide

/-! ### Witnesses: for each obligation with hypotheses, states and operands that meet them, clause by clause -/

theorem live_running : live.Running := by unfold State.Running; decide
theorem depot_running : depot.Running := by unfold State.Running; decide
theorem live_ready (p : Port) : live.Ready p := by cases p <;> exact ready_of (by decide)
theorem depot_ready (p : Port) : depot.Ready p := by cases p <;> exact ready_of (by decide)

theorem witness_StepRunsFrontCommand :
    ({ live with pending := [.aOn, .bOn] } : State).pending = .aOn :: [.bOn] := rfl

/-- Nothing is due, with the clock and the converter standing somewhere and bay 1 in RUN. -/
def ticking (t : DepotTime) (sub : Nat) (ph : ConverterPhase) : State :=
  { depot with
    clock := { live.clock with time := t, sub := sub }
    conv := { converterReset with phase := ph, requests := [⟨.aSalt, true, false, false⟩], nRef := 4096, up := 61440, time := 9 }
    bays := depot.bays.set .b1 { bayClosed with state := .washing, record := some (record 1 .run) } }

theorem witness_IdleStepTakesDueOrTicks :
    (State.reset.pending = [] ∧ State.reset.due ≠ []) ∧
    (∀ x ∈ [(⟨5, 100, 0⟩, 998), (⟨5, 100, 98⟩, 999), (⟨5, 86398, 99⟩, 999), ((⟨5, 86399, 99⟩ : DepotTime), 999)],
      ∀ ph ∈ [ConverterPhase.idle, .reference, .probe],
        (ticking x.1 x.2 ph).pending = [] ∧ (ticking x.1 x.2 ph).due = [] ∧ (ticking x.1 x.2 ph).part.phase = .running ∧
          (ticking x.1 x.2 ph).subState .b1 = .run ∧ (ticking x.1 x.2 ph).conv.phase = ph) ∧
    (ran (exec .powerLoss live)).pending = [] ∧ (ran (exec .powerLoss live)).due = [] := by decide
theorem witness_BoundsAndCapacitiesKept :
    (∃ s t : State, s.WaterBounded ∧ step s = .next t) ∧ ∃ s t : State, s.WithinCapacity ∧ step s = .next t :=
  ⟨⟨{ depot with water := { depot.water with fresh := 262143 } }, _, by unfold State.WaterBounded; decide, rfl⟩,
    ⟨{ live with queue := waiting 16 }, _, by unfold State.WithinCapacity; decide, rfl⟩⟩
theorem witness_SignStatusKept : ∃ s t : State, s.SignCurrent ∧ step s = .next t :=
  ⟨depot, _, by unfold State.SignCurrent; decide, rfl⟩
theorem witness_AttentionLinesKept : ∃ s t : State, s.AttentionFollows ∧ step s = .next t :=
  ⟨startedNow, _, by intro p; cases p <;> decide, rfl⟩

/-- Lane and edge at the debounce's boundary, with the other readings of an edge. -/
theorem witness_TreadleEdgeCountsAxle :
    live.Running ∧ (measuring { measurement 9660 with lastEdge := some 9920 }).Running ∧
      (measuring { measurement 9660 with lastEdge := some 9921 }).Running := by unfold State.Running; decide

/-- Fifteen wait and four windows are open; sixteen wait and none is. -/
theorem witness_AOnStartsMeasurement :
    ((measuring (measurement 9000)).Running ∧ (measuring (measurement 9000)).lane.occupied = true) ∧
    (∃ s : State, s.Running ∧ s.lane.occupied = false ∧ s.lane.meas = none ∧ s.lane.windows.length = 4 ∧
      s.queue.length = 15) ∧
    ∃ s : State, s.Running ∧ s.lane.occupied = false ∧ s.lane.meas = none ∧ s.lane.windows.length = 0 ∧
      s.queue.length = 16 ∧ ∀ r ∈ s.lane.reads, r.lane + 1000 * s.active.tagWidth < s.laneTime := by
  unfold State.Running
  exact ⟨by decide,
    ⟨{ live with queue := waiting 15, lane := { laneReset with windows := List.replicate 4 ⟨some 1, 1, none, 2⟩ } },
      by decide⟩,
    ⟨{ depot with queue := waiting 16, disp := { depot.disp with status := .full } }, by decide⟩⟩
theorem witness_NextNumberIsFree :
    (∃ s : State, s.queue.length < 16 ∧ s.heldVisits ≠ []) ∧
    ∃ s t : State, s.VisitsDistinct ∧ step s = .next t ∧ s.heldVisits.length = 15 :=
  ⟨⟨{ live with queue := waiting 15 }, by decide⟩,
    ⟨{ live with queue := waiting 15 }, _, by unfold State.VisitsDistinct; decide, rfl, by decide⟩⟩
theorem witness_AOnTailgate :
    (∃ (s : State) (m : Measurement), s.Running ∧ s.lane.occupied = false ∧ s.lane.meas = some m ∧
      s.lane.windows.length < 4 ∧ s.lane.reads = [] ∧ (∀ v ∈ s.queue, v.number ≠ s.nextNumber) ∧ s.queue.length < 16) ∧
    ∃ (s : State) (m : Measurement), s.Running ∧ s.lane.occupied = false ∧ s.lane.meas = some m ∧
      s.lane.windows.length < 4 ∧ s.lane.reads = [] ∧ (∀ v ∈ s.queue, v.number ≠ s.nextNumber) ∧ 16 ≤ s.queue.length := by
  unfold State.Running
  exact ⟨⟨{ live with queue := waiting 15, lane := { laneReset with meas := some (measurement 9000) } }, _, by decide, by decide,
      rfl, by decide⟩,
    ⟨{ live with queue := waiting 16, nextVisit := 17, lane := { laneReset with meas := some (measurement 9000) } }, _, by decide,
      by decide, rfl, by decide⟩⟩

/-- A running state in the middle of a measurement whose loop A has cleared. -/
def cleared (m : Measurement) : State :=
  { measuring m with lane := { laneReset with meas := some m } }

theorem witness_BOnTimes :
    (live.Running ∧ live.lane.meas = none) ∧
    ((cleared (measurement 9000)).Running ∧ (measurement 9000).stuck = false ∧ (measurement 9000).tab = none ∧
      (measurement 9000).ta = none ∧ elapsed (cleared (measurement 9000)).laneTime 9000 ≠ 65535) ∧
    (∃ (s : State) (m : Measurement) (v : Visit), s.Running ∧ s.lane.meas = some m ∧ m.stuck = false ∧ m.tab = none ∧
      m.ta.isSome = true ∧ m.binding = .bound 1 ∧ s.visitOf 1 = some v) ∧
    (∃ (s : State) (m : Measurement), s.Running ∧ s.lane.meas = some m ∧ m.stuck = false ∧ m.tab = none ∧
      elapsed s.laneTime m.t0 = 65535 ∧ m.binding = .refused) ∧
    ∃ (s : State) (m : Measurement), s.Running ∧ s.lane.meas = some m ∧ m.stuck = false ∧ m.tab = none ∧
      m.ta.isSome = true ∧ m.binding = .lost := by
  unfold State.Running
  exact ⟨by decide, by decide,
    ⟨cleared { measurement 7600 with ta := some 1800 }, _, _, by decide, rfl, by decide, by decide, by decide, by decide, rfl⟩,
    ⟨{ cleared { measurement 0 with binding := .refused } with timebase := 6553500 }, _, by decide, rfl, by decide⟩,
    ⟨cleared { measurement 7600 with ta := some 1800, binding := .lost }, _, by decide, rfl, by decide⟩⟩
theorem witness_AOffTimes :
    (live.Running ∧ live.lane.occupied = false) ∧
    (∃ s : State, s.Running ∧ s.lane.occupied = true ∧ s.lane.meas = none) ∧
    (∀ m ∈ [{ measurement 9000 with stuck := true }, { measurement 9000 with ta := some 100 }, measurement 9000,
        { measurement 9000 with tab := some 500 }],
      (measuring m).Running ∧ (measuring m).lane.occupied = true ∧ elapsed (measuring m).laneTime m.t0 ≠ 65535) ∧
    ∃ (s : State) (m : Measurement), s.Running ∧ s.lane.occupied = true ∧ s.lane.meas = some m ∧ m.stuck = false ∧
      m.ta = none ∧ elapsed s.laneTime m.t0 = 65535 := by
  unfold State.Running
  exact ⟨by decide, ⟨{ live with lane := { laneReset with occupied := true } }, by decide⟩, by decide,
    ⟨{ measuring (measurement 0) with timebase := 6553500 }, _, by decide, by decide, rfl, by decide⟩⟩
theorem witness_LaneTimersExpire :
    (live.Running ∧ live.lane.meas = none) ∧
    ∃ (s : State) (m : Measurement) (d e : Nat) (v : Visit), s.Running ∧ s.lane.meas = some m ∧ m.transit = some d ∧
      m.stuckTimer = some e ∧ m.binding = .bound 1 ∧ s.visitOf 1 = some v ∧ v.call = none := by
  unfold State.Running
  exact ⟨by decide, ⟨cleared { measurement 3600 with transit := some 10000 }, _, _, _, _, by decide, rfl, rfl, rfl, by decide, rfl,
    by decide⟩⟩

/-- A window for visit 1, or DISCARD, with visit 1 waiting. -/
def windowOpen (v : Option Nat) (aOff : Option Nat) : State :=
  { live with queue := [queued 1], lane := { laneReset with windows := [⟨v, 3600, aOff, 2⟩] } }

/-- A window for visit 1, with visits waiting. -/
def offering (l : List Visit) : State :=
  { windowOpen (some 1) none with queue := l }

/-- A window for visit 401, which bay 1 holds. -/
def offeringInBay : State :=
  { washing (record 1 .run) with lane := { laneReset with windows := [⟨some 401, 3600, none, 2⟩] } }

/-- Visits the newest window reads for: carrying the ID, none, another, with another visit that carries it, and called. -/
theorem witness_TagFrameIsRead_offers :
    (∀ l ∈ [[{ queued 1 with tags := [2] }], [queued 1], [{ queued 1 with tags := [3] }],
        [queued 1, { queued 2 with tags := [2] }], [{ queued 1 with call := some .b1, tags := [3] }]],
      (offering l).Running ∧ (∃ w ∈ (offering l).lane.windows.getLast?, w.visit = some 1) ∧
        (offering l).visitOf 1 = l.head?) ∧
    ((offering [queued 1, { queued 2 with tags := [2] }]).heldVisits.find? fun x =>
      decide (x.number ≠ 1) && x.tags.contains 2) = some { queued 2 with tags := [2] } ∧
    ((offering [queued 1]).heldVisits.find? fun x => decide (x.number ≠ 1) && x.tags.contains 2) = none ∧
    offeringInBay.Running ∧ (∃ w ∈ offeringInBay.lane.windows.getLast?, w.visit = some 401) ∧
    offeringInBay.visitOf 401 = none ∧ offeringInBay.bayHolding 401 = some .b1 ∧
    offeringInBay.record .b1 = some (record 1 .run) ∧ (record 1 .run).visit = some (matchedVisit 401) ∧
    (offering []).Running ∧ (offering []).visitOf 1 = none ∧ (offering []).bayHolding 1 = none := by
  unfold State.Running; decide
theorem witness_TagFrameIsRead :
    (live.Running ∧ (3 : Byte) ≠ xorAll (be 5 (2 : TagId).toNat)) ∧
    (2 : Byte) = xorAll (be 5 (2 : TagId).toNat) ∧ (2 : TagId) ≠ 0 ∧
    ((windowOpen none none).Running ∧ ∃ w, (windowOpen none none).lane.windows.getLast? = some w ∧ w.visit = none) ∧
    ((windowOpen (some 1) none).Running ∧ ∃ w v, (windowOpen (some 1) none).lane.windows.getLast? = some w ∧
      w.visit = some 1 ∧ (windowOpen (some 1) none).visitOf 1 = some v ∧ v.call = none ∧ v.tags = [] ∧
      ∀ x ∈ (windowOpen (some 1) none).heldVisits, x.number ≠ 1 → (2 : TagId) ∉ x.tags) ∧
    (∃ s : State, s.Running ∧ s.lane.windows = [] ∧ s.active.tagWidth = 0) ∧
    (∃ s : State, s.Running ∧ s.lane.windows = [] ∧ s.active.tagWidth ≠ 0 ∧ s.lane.reads.length = 7) ∧
    ∃ s : State, s.Running ∧ s.lane.windows = [] ∧ s.active.tagWidth ≠ 0 ∧ s.lane.reads.length = 8 := by
  unfold State.Running
  exact ⟨by decide, by decide, by decide, ⟨by decide, _, rfl, by decide⟩, ⟨by decide, _, _, rfl, by decide, rfl, by decide⟩,
    ⟨{ live with active := { defaultBank with settings := zeroBlock } }, by decide⟩,
    ⟨{ live with lane := { laneReset with reads := List.replicate 7 ⟨7, 9000, ⟨5, 99, 0⟩, 2⟩ } }, by decide⟩,
    ⟨{ live with lane := { laneReset with reads := List.replicate 8 ⟨7, 9000, ⟨5, 99, 0⟩, 2⟩ } }, by decide⟩⟩
/-- A partial frame whose last byte came just now, and one whose gap has grown too long. -/
theorem witness_TagLineBytes :
    (live.Running ∧ live.lane.frame = none ∧ (0x7D : Byte) ≠ 0x7E) ∧
    (∀ l ∈ [[], [0, 0, 0, 0], be 5 (7 : TagId).toNat], ∀ x ∈ [(995000, some l), (994999, none)],
      ({ live with lane := { laneReset with frame := some l, frameAt := x.1 } } : State).Running ∧
      x.2 = (if x.1 + 5000 < live.timebase then none else some l)) ∧
    ∃ s : State, s.Running ∧ (∃ r, s.lane.reads[0]? = some r) ∧ s.lane.reads.length ≤ 1 := by
  unfold State.Running
  exact ⟨by decide, by decide,
    ⟨{ live with lane := { laneReset with reads := [⟨7, 8000, ⟨5, 98, 0⟩, 2⟩] } }, by decide, ⟨_, rfl⟩, by decide⟩⟩
theorem witness_TagWindowExpires :
    ((windowOpen none (some 8000)).Running ∧ ∃ w, (windowOpen none (some 8000)).lane.windows[0]? = some w ∧
      w.aOff.isSome = true ∧ w.visit = none) ∧
    (∃ (s : State) (w : TagWindow) (m : Measurement), s.Running ∧ s.lane.windows[0]? = some w ∧ w.aOff.isSome = true ∧
      w.visit = some 1 ∧ s.lane.meas = some m ∧ m.binding = .bound 1 ∧ m.stuck = false) ∧
    ∃ (s : State) (w : TagWindow) (v : Visit), s.Running ∧ s.lane.windows[0]? = some w ∧ w.aOff.isSome = true ∧
      w.visit = some 1 ∧ s.lane.meas = none ∧ s.visitOf 1 = some v ∧ v.ident = .pending := by
  unfold State.Running
  exact ⟨⟨by decide, _, rfl, by decide⟩,
    ⟨{ cleared (measurement 3600) with
        lane := { (cleared (measurement 3600)).lane with windows := [⟨some 1, 3600, some 8000, 2⟩] } }, _, _, by decide, rfl,
      by decide, by decide, rfl, by decide⟩,
    ⟨windowOpen (some 1) (some 8000), _, _, by decide, rfl, by decide, by decide, by decide, rfl, by decide⟩⟩

/-- The part with one visit waiting. -/
def withVisit (v : Visit) : State :=
  { live with queue := [v] }

theorem witness_IdentTimerExpiryMakesUnknown :
    (live.Running ∧ live.visitOf 65535 = none) ∧
    ∃ (s : State) (v : Visit) (d : Nat), s.Running ∧ s.visitOf 1 = some v ∧ v.ident = .pending ∧ v.identTimer = some d := by
  unfold State.Running
  exact ⟨by decide, ⟨withVisit { queued 1 with identTimer := some 10000 }, _, _, by decide, rfl, by decide, rfl⟩⟩
theorem witness_PlateMatches :
    (live.Ready .one ∧ plateOf (bytesAt 10 [] 0) = some none) ∧
    (live.Ready .one ∧ plateOf plateHB7 = some (some [0x48, 0x42, 0x2D, 0x37]) ∧ live.visitOf 1 = none) ∧
    ∃ (s : State) (v : Visit), s.Ready .one ∧ s.visitOf 1 = some v ∧ v.ident ≠ .matched ∧ v.ident ≠ .conflict ∧
      s.register.filter (fun e => e.plate = some [0x48, 0x42, 0x2D, 0x37]) = [entryHB7] := by
  unfold State.Ready
  exact ⟨by decide, by decide,
    ⟨{ withVisit (queued 1) with register := [entryHB7] }, _, by decide, rfl, by decide, by decide, by decide⟩⟩
theorem witness_IdentifyMatches :
    (live.Ready .two ∧ 64 ≤ (64 : Byte).toNat) ∧
    ((63 : Byte).toNat < 64 ∧ 1 ≤ (12 : Byte).toNat ∧ (12 : Byte).toNat ≤ 12 ∧ (6 : Byte).toNat ≤ 6) ∧
    (∃ (s : State) (v : Visit), s.Ready .two ∧ s.visitOf 1 = some v ∧ v.ident = .measuring) ∧
    ∃ (s : State) (v : Visit), s.Ready .two ∧ s.visitOf 1 = some v ∧ v.call = none ∧ v.ident ≠ .measuring := by
  unfold State.Ready
  exact ⟨by decide, by decide, ⟨withVisit (newVisit 1 ⟨5, 90, 0⟩), _, by decide, rfl, by decide⟩,
    ⟨withVisit (queued 1), _, by decide, rfl, by decide, by decide⟩⟩
theorem witness_EnqueueCreatesVisit :
    plateOf plateHB7 = some (some [0x48, 0x42, 0x2D, 0x37]) ∧
    (∃ s : State, s.Ready .one ∧ 16 ≤ s.queue.length) ∧
    (∃ s : State, s.Ready .one ∧ s.queue.length < 16 ∧ ∃ v ∈ s.heldVisits, v.number ≠ 0 ∧ (7 : TagId) ∈ v.tags) ∧
    ∃ s : State, s.Ready .one ∧ s.queue.length < 16 ∧ ∀ v ∈ s.heldVisits, (7 : TagId) ∉ v.tags := by
  unfold State.Ready
  exact ⟨by decide, ⟨{ live with queue := waiting 16 }, by decide⟩, ⟨withVisit { queued 1 with tags := [7] }, by decide⟩,
    ⟨{ live with queue := waiting 15 }, by decide⟩⟩
theorem witness_RemoveVisitRemoves :
    (live.Ready .one ∧ live.visitOf 1 = none) ∧
    (∃ (s : State) (v : Visit), s.Ready .one ∧ s.visitOf 1 = some v ∧ v.call = none) ∧
    ∃ (s : State) (v : Visit), s.Ready .one ∧ s.visitOf 401 = some v ∧ v.call = some .b1 := by
  unfold State.Ready
  exact ⟨by decide, ⟨withVisit (queued 1), _, by decide, rfl, by decide⟩, ⟨calledBay, _, by decide, rfl, by decide⟩⟩
theorem witness_VehicleRegisterChanges :
    (entryHB7.tag ≠ 0 ∧ (12 : Byte).toNat = entryHB7.haulier.val ∧ entryHB7.programme = some 3 ∧
      plateOf plateHB7 = some entryHB7.plate ∧ entryHB7.blocked = false) ∧
    (∃ s : State, s.Ready .one ∧ (∀ x ∈ s.register, x.tag ≠ entryHB7.tag) ∧ 512 ≤ s.register.length) ∧
    (∃ s : State, s.Ready .one ∧ ∃ x ∈ s.register, x.tag = entryHB7.tag) ∧
    live.Ready .one ∧ (∀ x ∈ live.register, x.tag ≠ entryHB7.tag) ∧ live.register.length < 512 := by
  unfold State.Ready
  exact ⟨by decide, ⟨{ live with register := List.replicate 512 { entryHB7 with tag := 8 } }, by decide⟩,
    ⟨{ live with register := [entryHB7] }, by decide⟩, by decide⟩
/-- IDENTITY in each phase, for each start kind and cause. -/
theorem witness_ReadingRequestsAnswer_identity :
    (∀ ph ∈ [PartPhase.checking, .starting, .running], ∀ k ∈ [StartKind.cold, .warm, .pending],
      ∀ c ∈ [ResetCause.powerOn, .resetLine, .resetRequest, .clearStore], ∃ s ∈ [{ live with
        part := { live.part with phase := ph, startKind := k, cause := c } }],
        s.part.phase ≠ .off ∧ s.disp.status = s.signStatus ∧ (s.links.get .one).reply = none ∧
          (s.links.get .one).held = none ∧ s.part.startKind = k ∧ s.part.cause = c) := by decide
theorem witness_ReadingRequestsAnswer :
    live.Ready .one ∧ (∃ v, (withVisit (queued 1)).Ready .one ∧ (withVisit (queued 1)).visitOf (1 : BitVec 16).toNat = some v) ∧
    live.visitOf (1 : BitVec 16).toNat = none ∧ live.lookup 7 = none ∧
    (∃ s : State, s.Ready .one ∧ s.lookup 7 = some entryHB7) ∧ (63 : Byte).toNat < 64 ∧
    blockOf (4 : Byte).toNat (0 : Byte).toNat = .ok .settings := by
  unfold State.Ready
  exact ⟨by decide, ⟨_, by decide, rfl⟩, by decide, by decide, ⟨{ live with register := [entryHB7] }, by decide⟩, by decide,
    by decide⟩
theorem witness_HaulierTableChanges :
    (live.Ready .two ∧ live.water.owner ≠ some .two) ∧ (depot.Ready .one ∧ depot.water.owner = some .one) ∧
    ((63 : Byte).toNat < 64 ∧ (1 : Byte).toNat < 2 ∧ (500 : BitVec 16).toNat ≤ 500 ∧
      (99999999 : BitVec 32).toNat ≤ 99999999 ∧ (15 : Byte).toNat ≤ 15) ∧
    500 < (501 : BitVec 16).toNat ∧ depot.hauliers[12].state = .closed ∧
    (dispatching.Ready .one ∧ dispatching.water.owner = some .one ∧ dispatching.hauliers[12].state ≠ .closed ∧
      ∃ v ∈ dispatching.heldVisits, v.haulier.map (·.val) = some 12) ∧
    ∃ s : State, s.Ready .one ∧ s.water.owner = some .one ∧ s.hauliers[12].state ≠ .closed ∧ s.journal.balances[12] = 0 ∧
      ∀ v ∈ s.heldVisits, v.haulier.map (·.val) ≠ some 12 := by
  unfold State.Ready
  exact ⟨by decide, by decide, by decide, by decide, by decide, by decide, ⟨{ dispatching with queue := [] }, by decide⟩⟩
theorem witness_StagedLoadOpensAndCloses :
    (∃ g, loading.Ready .two ∧ loading.staging = some g ∧ g.port ≠ .two) ∧
    (live.Ready .one ∧ live.staging = none ∧ live.water.owner ≠ some .one) ∧
    (depot.Ready .one ∧ depot.staging = none ∧ depot.water.owner = some .one) ∧
    ∃ g, loading.Ready .one ∧ loading.staging = some g ∧ g.port = .one ∧ loading.water.owner = some .one := by
  unfold State.Ready
  exact ⟨⟨_, by decide, rfl, by decide⟩, by decide, by decide, ⟨_, by decide, rfl, by decide, by decide⟩⟩
theorem witness_TermsBlockAndCommit :
    (loading.Ready .one ∧ loading.water.owner = some .one ∧ ∃ g, loading.staging = some g ∧ g.port = .one) ∧
    blockOf 5 0 = .error 0 ∧ blockOf 2 24 = .error 1 ∧
    (blockTests .settings).find? (fun t => !t.passes zeroBlock) = some ⟨0, 2, 100, 2000⟩ ∧
    (∀ x ∈ blockTests .settings, x.passes defaultSettings = true) ∧ defaultBank.commitFailure = none ∧
    { defaultBank with settings := zeroBlock }.commitFailure = some .thresholds := by
  unfold State.Ready; exact ⟨⟨by decide, by decide, _, rfl, by decide⟩, by decide⟩

/-- The default bank with programme 2's first block or its price for class 6 changed. -/
def programmed (l : List Byte) (price : Nat) : Bank :=
  { defaultBank with
    programmes := putAt defaultBank.programmes 2 (blockFrom l)
    tariff := putAt defaultBank.tariff 0 (blockFrom (List.replicate 33 0 ++ be 3 price)) }

/-- One failure of each kind, at the bounds of dose, time limit and weight. -/
theorem witness_TermsBlockAndCommit_checks :
    (programmed ([1, 1, 0] ++ be 2 4000 ++ be 2 10 ++ [0] ++ be 2 1000) 99999).commitFailure = none ∧
    (programmed ([1, 1, 0] ++ be 2 4000 ++ be 2 10 ++ [0] ++ be 2 999) 99999).commitFailure = some (.weightSum 2) ∧
    (programmed ([1, 1, 0] ++ be 2 4001 ++ be 2 10 ++ [0] ++ be 2 1000) 99999).commitFailure = some (.phaseRange 2 1) ∧
    (programmed ([1, 1, 0] ++ be 2 4000 ++ be 2 9 ++ [0] ++ be 2 1000) 99999).commitFailure = some (.phaseRange 2 1) ∧
    (programmed [] 1).commitFailure = some (.priceUndefined 2) := by decide

/-! ### Witnesses: dispatch, bays, water -/

/-- Visits 401 of haulier 12 and 402 of another wait, bays 1 and 2 are to be considered, and haulier 12 has a credit limit
and a quota. -/
def twoQueued (h : Haulier) (limit quota lines : Nat) : State :=
  { dispatching with
    hauliers := putAt (putAt hauliersFactory 13 { state := .opened, discount := 0, limit := 0, quota := 0 }) 12
      { state := .opened, discount := 75, limit := limit, quota := quota }
    queue := [{ matchedVisit 401 with programme := some 1, cls := some 1 },
      { matchedVisit 402 with haulier := some h, programme := some 1, cls := some 1 }]
    disp := { dispatching.disp with
      lastHaulier := some 12, run := 2, lines := List.replicate lines ⟨.b6, 7⟩ }
    bays := (depot.bays.set .b5 bayClosed).set .b6 bayClosed |>.set .b3 bayClosed |>.set .b4 bayClosed }

/-- The first visit of a queue that meets a condition stands at its head. -/
theorem first_of_head {P : Visit → Prop} {v : Visit} {l : List Visit} (h : P v) : FirstOf (v :: l) P v :=
  ⟨[], l, rfl, h, fun _ hy => absurd hy (List.not_mem_nil)⟩

/-- No bay considered, or a condition of R65 unmet. -/
theorem witness_DispatchPassHoldsAndCalls :
    (live.Running ∧ live.disp.mark = false) ∧
    (∃ s : State, s.Running ∧ s.disp.mark = true ∧ (∀ b, s.considers b = false) ∧ (s.queue.map (·.number)).Nodup ∧
      s.queue.length = 1) ∧
    ((twoQueued 13 0 0 3).Running ∧ (twoQueued 13 0 0 3).disp.mark = true ∧ ¬ (twoQueued 13 0 0 3).MayCall ∧
      ((twoQueued 13 0 0 3).queue.map (·.number)).Nodup) ∧
    (dispatching.Running ∧ dispatching.disp.mark = true ∧ dispatching.considers .b1 = true ∧ dispatching.MayCall ∧
      (∀ v ∈ dispatching.queue, v.number = 401 ∧ ¬ dispatching.GivesWay v ∧ dispatching.EligibleFor .b1 v)) := by
  unfold State.Running State.MayCall State.GivesWay State.EligibleFor
  exact ⟨by decide, ⟨{ dispatching with bays := .all bayClosed }, by decide, by decide, by intro b; cases b <;> decide, by decide,
      by decide⟩, by decide⟩
/-- The only visit of the queue is the one chosen. -/
theorem witness_DispatchPassHoldsAndCalls_chosen :
    ∃ v x, dispatching.Chosen .b1 v ∧ v.terms = some x ∧ dispatching.queue = [v] :=
  ⟨_, _, ⟨_, first_of_head (by unfold State.EligibleFor; decide), .inl ⟨by unfold State.GivesWay; decide, rfl⟩⟩, rfl, rfl⟩
/-- The same with bay 1 alone to be considered, haulier 12 having reached its quota of 2. -/
def quotaReached : State :=
  { twoQueued 13 0 2 0 with bays := (twoQueued 13 0 2 0).bays.set .b2 bayClosed }

/-- Fairness: 401 stands first and gives way to 402 of another haulier. -/
theorem witness_DispatchPassHoldsAndCalls_fair :
    (quotaReached.Running ∧ quotaReached.disp.mark = true ∧ quotaReached.MayCall ∧
      (quotaReached.queue.map (·.number)).Nodup ∧ (∀ c ∈ allBays, quotaReached.considers c = true ↔ c = .b1) ∧
      ∀ v ∈ quotaReached.queue.head?, quotaReached.GivesWay v ∧ quotaReached.EligibleFor .b1 v) ∧
    ∃ v ∈ quotaReached.queue[1]?, quotaReached.Chosen .b1 v := by
  refine ⟨by unfold State.Running State.MayCall State.GivesWay State.EligibleFor; decide, _, rfl, _,
    first_of_head (by unfold State.EligibleFor; decide),
    .inr (.inl ⟨by unfold State.GivesWay; decide, [_], [], rfl, by unfold State.EligibleFor; decide, ?_⟩)⟩
  intro y hy
  rw [List.mem_singleton.mp hy]
  exact fun h => h.2 rfl
/-- Two bays for two visits: of two hauliers with room for both and for one, and of one haulier whose limit carries one. -/
theorem witness_DispatchPassHoldsAndCalls_two :
    ∀ s ∈ [twoQueued 13 0 0 1, twoQueued 13 0 0 2, twoQueued 12 16899 0 0],
      s.Running ∧ s.disp.mark = true ∧ s.MayCall ∧ (s.queue.map (·.number)).Nodup ∧
        (∀ d ∈ allBays, s.considers d = decide (d = .b1 ∨ d = .b2)) ∧
        (∀ v ∈ s.queue, v.terms.isSome = true ∧ s.EligibleFor .b1 v ∧ s.EligibleFor .b2 v) ∧
        (∀ v ∈ s.queue.head?, ¬ s.GivesWay v) := by
  unfold State.Running State.MayCall State.GivesWay State.EligibleFor; decide
theorem witness_DispatchPassFrame : ∃ s t : State, s.disp.lines.length ≤ 3 ∧ exec .dispatchPass s = .next t ∧
    t.disp.lines ≠ s.disp.lines := ⟨dispatching, _, by decide, rfl, by decide⟩
theorem witness_SignMessageSentEndsMessage :
    live.disp.sending = none ∧ (∃ m, State.reset.disp.sending = some m) ∧ State.reset.disp.again = false ∧
    ∃ (s : State) (m : SignMessage), s.disp.sending = some m ∧ s.disp.again = true :=
  ⟨by decide, ⟨_, rfl⟩, by decide, ⟨{ live with disp := { dispatcherReset 0 with again := true } }, _, rfl, by decide⟩⟩
theorem witness_PresenceActsOnBay :
    depot.Running ∧ calledBay.Running ∧ (calledBay.bays.get .b1).state = .called ∧ (depot.bays.get .b1).state = .idle ∧
    (live.Running ∧ (live.bays.get .b1).state = .closed) ∧
    ((bayIn .exit none).Running ∧ ((bayIn .exit none).bays.get .b1).state = .exit) ∧
    (∀ m ∈ [AbortMark.unmarked, .host], ∀ x ∈ [SubState.claim, .run, .runOn],
      (washing { record 1 x with abort := m }).Running ∧
        ((washing { record 1 x with abort := m }).bays.get .b1).state = .washing ∧
        ((washing { record 1 x with abort := m }).bays.get .b1).record = some { record 1 x with abort := m }) := by
  unfold State.Running; decide

/-- Bay 1 waiting for water in a phase, presence as given. -/
def waitingBay (k : Nat) (here : Bool) : State :=
  let s := washing (record k .waterWait)
  { s with
    water := { s.water with waits := [⟨.b1, 300⟩, ⟨.b2, 75⟩] }
    lines := { s.lines with presence := s.lines.presence.set .b1 here } }

/-- A bay in WATER-WAIT, for the aborts and for the limit's end in the last phase. -/
theorem witness_waterWaitEnds :
    ∀ k ∈ [1, 4], ∀ h ∈ [true, false], (waitingBay k h).Running ∧ (waitingBay k h).Ready .one ∧
      ((waitingBay k h).bays.get .b1).state = .washing ∧
      ((waitingBay k h).bays.get .b1).record = some (record k .waterWait) ∧
      (record k .waterWait).abort = .unmarked ∧ ((waitingBay k h).bays.get .b1).wait = some 10000 ∧
      (waitingBay k h).journal.openPage = some 0 ∧ terms3.phases.length ≤ 4 := by
  unfold State.Running State.Ready; decide
theorem witness_BayAbortMarksWash :
    depot.Ready .one ∧ (1 : Byte).toNat = bayNumber .b1 ∧ (6 : Byte).toNat = bayNumber .b6 ∧
    (depot.bays.get .b6).state ≠ .washing ∧
    (∀ m ∈ [AbortMark.unmarked, .presence], ∀ x ∈ [SubState.claim, .run, .runOn],
      (washing { record 1 x with abort := m }).Ready .one ∧
        ((washing { record 1 x with abort := m }).bays.get .b1).state = .washing ∧
        ((washing { record 1 x with abort := m }).bays.get .b1).record = some { record 1 x with abort := m }) := by
  unfold State.Ready; decide
theorem witness_EntrySettleStartsWash :
    ∃ (s : State) (v : Visit) (r : WorkRecord), s.Running ∧ (s.bays.get .b1).state = .called ∧
      (s.bays.get .b1).settle.isSome = true ∧ s.calledTo .b1 = some v ∧ s.record .b1 = some r ∧
      r.terms.phases.head? = some soak ∧ soak.source = .reclaimPreferred ∧ s.service = some .a ∧
      s.lines.low.get .a = false := by
  unfold State.Running
  exact ⟨{ calledBay with service := some .a, tanks := ⟨{ tankFactory with state := .service, share := some 192 }, tankFactory⟩ },
    _, _, by decide, by decide, by decide, rfl, rfl, rfl, by decide⟩
theorem witness_CallTimerEndsCall :
    (∃ (s : State) (v : Visit), s.Running ∧ (s.bays.get .b1).state = .called ∧ (s.bays.get .b1).call.isSome = true ∧
      s.calledTo .b1 = some v ∧ v.noShow = 0) ∧
    ∃ (s : State) (v : Visit), s.Running ∧ (s.bays.get .b1).state = .called ∧ (s.bays.get .b1).call.isSome = true ∧
      s.calledTo .b1 = some v ∧ v.noShow ≠ 0 := by
  unfold State.Running
  exact ⟨⟨calledBay, _, by decide, by decide, by decide, rfl, by decide⟩,
    ⟨{ calledBay with queue := [{ matchedVisit 401 with call := some .b1, noShow := 1 }] }, _, by decide, by decide, by decide, rfl,
      by decide⟩⟩
theorem witness_EStopTakesBayToFault :
    ((bayIn .fault none).Running ∧ ((bayIn .fault none).bays.get .b1).state = .fault) ∧
    (depot.Running ∧ (depot.bays.get .b1).state ≠ .fault ∧ (depot.bays.get .b1).state ≠ .washing) ∧
    (calledBay.Running ∧ (calledBay.bays.get .b1).state = .called ∧ (calledBay.calledTo .b1).isSome = true) ∧
    ∀ x ∈ [SubState.claim, .run, .runOn], (washing (record 1 x)).Running ∧
      ((washing (record 1 x)).bays.get .b1).state = .washing ∧
      ((washing (record 1 x)).bays.get .b1).record = some (record 1 x) := by
  unfold State.Running; decide

/-- Bay 1 in RUN-ON with so many run-on litres counted. -/
def runningOn (n : Nat) (spilled : Bool) : State :=
  { washing (record 1 .runOn) with
    bays := depot.bays.set .b1
      { bayClosed with
        state := .washing, record := some (record 1 .runOn), runOn := n, spilled := spilled, runOnTimer := some 10000 } }

theorem witness_FlowPulseCounts :
    (depot.Running ∧ depot.subState .b1 ≠ .run ∧ depot.subState .b1 ≠ .runOn) ∧
    ((washing (record 1 .run)).Running ∧ (washing (record 1 .run)).subState .b1 = .run ∧
      ((washing (record 1 .run)).bays.get .b1).dose + 1 = 0) ∧
    (∃ s : State, s.Running ∧ s.subState .b1 = .run ∧ (s.bays.get .b1).dose + 1 ≠ 0) ∧
    (∀ x ∈ [(49, false), (50, false), (50, true)], (runningOn x.1 x.2).Running ∧
      (runningOn x.1 x.2).subState .b1 = .runOn) := by
  unfold State.Running
  exact ⟨by decide, by decide, ⟨{ washing (record 1 .run) with
    bays := depot.bays.set .b1 { bayClosed with state := .washing, record := some (record 1 .run), dose := 65534 } }, by decide⟩,
    by decide⟩
theorem witness_BayTimersExpire :
    (depot.Running ∧ depot.subState .b1 ≠ .run ∧ (depot.bays.get .b1).state ≠ .exit) ∧
    (∃ r d, (washing (record 1 .run)).Running ∧ ((washing (record 1 .run)).bays.get .b1).state = .washing ∧
      ((washing (record 1 .run)).bays.get .b1).record = some r ∧ r.sub = .run ∧
      ((washing (record 1 .run)).bays.get .b1).limit = some d) ∧
    (∃ (s : State) (d : Nat), s.Running ∧ (s.bays.get .b1).state = .exit ∧ (s.bays.get .b1).exit = some d ∧
      s.recordVisit .b1 = some 401) ∧
    ∃ r d, (washing (record 3 .waterWait)).Running ∧ ((washing (record 3 .waterWait)).bays.get .b1).state = .washing ∧
      ((washing (record 3 .waterWait)).bays.get .b1).record = some r ∧ r.sub = .waterWait ∧
      ((washing (record 3 .waterWait)).bays.get .b1).wait = some d ∧ r.phase < r.terms.phases.length := by
  unfold State.Running
  exact ⟨by decide, ⟨_, _, by decide, by decide, rfl, by decide, rfl⟩,
    ⟨{ bayIn .exit none with
        bays := depot.bays.set .b1 { bayClosed with state := .exit, record := some (record 4 .outside), exit := some 10000 } }, _,
      by decide, by decide, rfl, by decide⟩,
    ⟨_, _, by decide, by decide, rfl, by decide, rfl, by decide⟩⟩

/-- Bay 1 in CLAIM of phase 1 at a share, with so many litres of fresh water. -/
def claiming (share fresh : Nat) (m : AbortMark) : State :=
  let s := washing { record 1 .claim with abort := m, entries := [entryOf .notReached share 0 0 0 false] }
  { s with water := { s.water with fresh := fresh } }

theorem witness_ClaimAnswerDecides :
    (∀ x ∈ [(192, 75), (192, 74), (0, 299)],
      (claiming x.1 x.2 .unmarked).Running ∧ ((claiming x.1 x.2 .unmarked).bays.get .b1).state = .washing ∧
      (claiming x.1 x.2 .unmarked).active.waterWaitLimit ≠ 0 ∧
      ∃ r ∈ ((claiming x.1 x.2 .unmarked).bays.get .b1).record, r.sub = .claim ∧ r.abort = .unmarked ∧
        r.terms.phases[r.phase - 1]? = some soak ∧
        r.entries[r.phase - 1]? = some (entryOf .notReached x.1 0 0 0 false)) ∧
    ((300 * (256 - 192) + 255) / 256 = 75 ∧ (300 * (256 - 0) + 255) / 256 = 300) ∧
    ((claiming 192 75 .host).Running ∧ (claiming 192 75 .host).water.waits = [] ∧
      ∃ r ∈ ((claiming 192 75 .host).bays.get .b1).record, r.sub = .claim ∧ r.abort ≠ .unmarked) := by
  unfold State.Running; decide
theorem witness_RunOnExpirySettlesPhase :
    ∃ (s : State) (r : WorkRecord) (e : PhaseEntry) (d : Nat), s.Running ∧ (s.bays.get .b1).state = .washing ∧
      (s.bays.get .b1).record = some r ∧ r.sub = .runOn ∧ (s.bays.get .b1).runOnTimer = some d ∧
      r.entries[r.phase - 1]? = some e ∧ s.water.waits = [] ∧ r.abort = .unmarked ∧ 1 ≤ r.phase ∧
      r.phase < r.terms.phases.length ∧ (e.lb * (256 - e.rPhase) + 255) / 256 + e.lf = 76 := by
  unfold State.Running
  exact ⟨washing { record 1 .runOn with claim := 75, entries := [entryOf .done 192 303 0 0 false] }, _, _, _, by decide, by decide,
    rfl, by decide, rfl, rfl, by decide⟩

/-- Bay 1 in RUN-ON of phase 1 with a claim, used litres 76, and bay 2 waiting for 75. -/
def settlingBay (claim fresh : Nat) : State :=
  { washing { record 1 .runOn with claim := claim, entries := [entryOf .done 192 303 0 0 false] } with
    water := { depot.water with fresh := fresh, waits := [⟨.b2, 75⟩] }
    bays := ((washing { record 1 .runOn with claim := claim, entries := [entryOf .done 192 303 0 0 false] }).bays).set .b2
      { bayClosed with
        state := .washing, wait := some 20000
        record := some { record 1 .waterWait with entries := [entryOf .notReached 192 0 0 0 false] } } }

/-- The litres given back reach the estimate of bay 2, stop one short, and are none. -/
theorem witness_RunOnExpirySettlesPhase_waiting :
    (∀ x ∈ [(151, 0), (150, 0), (76, 9)], (settlingBay x.1 x.2).Running ∧
      (settlingBay x.1 x.2).water.waits = [⟨.b2, 75⟩] ∧ ((settlingBay x.1 x.2).bays.get .b2).state = .washing ∧
      ((settlingBay x.1 x.2).bays.get .b1).runOnTimer = some 10000 ∧
      (∃ r ∈ (settlingBay x.1 x.2).record .b1, r.sub = .runOn ∧ r.claim = x.1 ∧ r.abort = .unmarked ∧
        r.entries[r.phase - 1]? = some (entryOf .done 192 303 0 0 false)) ∧
      ∃ q ∈ (settlingBay x.1 x.2).record .b2, q.terms.phases[q.phase - 1]? = some soak ∧
        q.entries[q.phase - 1]? = some (entryOf .notReached 192 0 0 0 false)) ∧
    (303 * (256 - 192) + 255) / 256 + 0 = 76 ∧ min 262143 (0 + (151 - 76)) = 75 := by
  unfold State.Running; decide
/-- The end of a wash under mark E-STOP. -/
theorem witness_RunOnExpiryChargesWash_eStop :
    ∃ r ∈ (washing { record 1 .runOn with abort := .eStop, entries := [entryOf .aborted 192 303 0 0 false] }).record .b1,
      (washing r).Running ∧ ((washing r).bays.get .b1).state = .washing ∧ r.sub = .runOn ∧ r.abort = .eStop ∧
        ((washing r).bays.get .b1).runOnTimer = some 10000 ∧ (washing r).water.waits = [] ∧
        (washing r).journal.openPage = some 0 := by
  unfold State.Running; decide
theorem witness_RunOnExpiryChargesWash :
    (∃ (s : State) (r : WorkRecord) (e : PhaseEntry) (d : Nat), s.Running ∧ (s.bays.get .b1).state = .washing ∧
      (s.bays.get .b1).record = some r ∧ r.sub = .runOn ∧ (s.bays.get .b1).runOnTimer = some d ∧
      r.entries[r.phase - 1]? = some e ∧ s.water.waits = [] ∧ r.abort = .unmarked ∧
      r.terms.phases.length ≤ r.phase ∧ s.journal.openPage = some 0) ∧
    ∃ (s : State) (r : WorkRecord) (e : PhaseEntry) (d : Nat), s.Running ∧ (s.bays.get .b1).state = .washing ∧
      (s.bays.get .b1).record = some r ∧ r.sub = .runOn ∧ (s.bays.get .b1).runOnTimer = some d ∧
      r.entries[r.phase - 1]? = some e ∧ s.water.waits = [] ∧ r.abort = .presence ∧ r.phase = 1 ∧
      s.journal.openPage = some 0 ∧ s.lines.presence.get .b1 = true := by
  unfold State.Running
  exact ⟨⟨washing worked3, _, _, _, by decide, by decide, rfl, by decide, rfl, rfl, by decide⟩,
    ⟨{ washing { record 1 .runOn with abort := .presence, entries := [entryOf .aborted 192 303 0 0 false] } with
        lines := { depot.lines with presence := .all true } }, _, _, _, by decide, by decide, rfl, by decide, rfl, rfl, by decide⟩⟩
theorem witness_PumpDrive :
    depot.Running ∧ depot.subState .b1 ≠ .run ∧
    (∃ r, (washing (record 1 .run)).Running ∧ ((washing (record 1 .run)).bays.get .b1).state = .washing ∧
      ((washing (record 1 .run)).bays.get .b1).record = some r ∧ r.sub = .run ∧
      r.terms.phases[r.phase - 1]? = some soak ∧ soak.duty = 255) := by
  unfold State.Running
  exact ⟨by decide, by decide, ⟨_, by decide, by decide, rfl, by decide⟩⟩
theorem witness_BayStatusAndRelease :
    depot.Ready .one ∧ (6 < (7 : Byte).toNat) ∧ (6 : Byte).toNat = bayNumber .b6 ∧ (depot.bays.get .b6).state ≠ .fault ∧
    ((bayIn .fault none).Ready .one ∧ ((bayIn .fault none).bays.get .b1).state = .fault ∧
      (bayIn .fault none).lines.estop.get .b1 = false) := by
  unfold State.Ready; decide

/-- Bays 1 and 2 in WATER-WAIT of phase 1, bay 1 for 300 litres and bay 2 for 75, nothing left. -/
def twoWaiting : State :=
  let r : WorkRecord := { record 1 .waterWait with entries := [entryOf .notReached 192 0 0 0 false] }
  { depot with
    water := { depot.water with fresh := 0, waits := [⟨.b1, 300⟩, ⟨.b2, 75⟩] }
    bays := (depot.bays.set .b1 { bayClosed with state := .washing, record := some r }).set .b2
      { bayClosed with state := .washing, record := some r } }

theorem witness_WaterRequests :
    depot.Ready .two ∧ 4 < (5 : Byte).toNat ∧ resourceOf (1 : Byte).toNat = some .freshRemain ∧
    resourceBound .freshRemain < (262144 : BitVec 24).toNat ∧ (262143 : BitVec 24).toNat ≤ resourceBound .freshRemain ∧
    depot.water.value .freshRemain = (10000 : BitVec 24).toNat ∧ depot.water.value .overdraw = (0 : BitVec 24).toNat ∧
    depot.water.waits = [] ∧ resourceOf (2 : Byte).toNat = some .overdraw ∧ resourceOf (3 : Byte).toNat = some .bayOpen ∧
    depot.water.value .bayOpen = (63 : BitVec 24).toNat ∧ (62 : BitVec 24) ≠ 63 ∧
    resourceOf (4 : Byte).toNat = some .settleOwner ∧ depot.water.value .settleOwner = (1 : BitVec 24).toNat ∧
    (1 : BitVec 24).toNat = portNumber (otherPort .two) ∧
    (twoWaiting.Ready .two ∧ twoWaiting.water.value .freshRemain = (0 : BitVec 24).toNat ∧
      twoWaiting.water.waits = [⟨.b1, 300⟩, ⟨.b2, 75⟩] ∧ (299 : BitVec 24).toNat < 300 ∧
      (twoWaiting.bays.get .b2).state = .washing ∧ ∃ r ∈ (twoWaiting.bays.get .b2).record,
        r.terms.phases[r.phase - 1]? = some soak ∧
        r.entries[r.phase - 1]? = some (entryOf .notReached 192 0 0 0 false)) ∧
    (∀ b ∈ allBays, depot.subState b = .outside) ∧ twoWaiting.subState .b1 ≠ .outside := by
  unfold State.Ready; decide

/-! ### Witnesses: tanks, journal, clock, ports, start-up -/

/-- Tank A in SERVICE and tank B READY, bay 1 in RUN from tank A. -/
def serving : State :=
  { washing { record 1 .run with claimTank := some .a, entries := [entryOf .notReached 192 100 0 0 false] } with
    service := some .a
    tanks := ⟨{ tankFactory with state := .service, share := some 192, outlet := true, resampleTimer := some 10000 },
      { tankFactory with state := .ready, share := some 185 }⟩ }

theorem witness_TankSwitchesAct :
    (∀ st ∈ [TankState.filling, .held, .settling, .sampling, .ready, .dumping],
      (tankIn { tankFactory with state := st }).Running ∧
        ((tankIn { tankFactory with state := st }).tanks.get .a).state = st) ∧
    (serving.Running ∧ (serving.tanks.get .a).state = .service ∧ serving.service = some .a ∧
      (serving.tanks.get (otherTank .a)).state = .ready ∧ serving.lines.low.get (otherTank .a) = false ∧
      (serving.bays.get .b1).state = .washing ∧ ∃ r ∈ (serving.bays.get .b1).record, r.sub = .run ∧
        r.claimTank = some .a ∧ r.entries[r.phase - 1]? = some (entryOf .notReached 192 100 0 0 false)) := by
  unfold State.Running; decide
theorem witness_TankTimersStartSampling :
    (depot.Running ∧ (depot.tanks.get .a).state ≠ .settling ∧ (depot.tanks.get .a).state ≠ .service) ∧
    (∃ (s : State) (d : Nat), s.Running ∧ (s.tanks.get .a).state = .settling ∧ (s.tanks.get .a).settleTimer = some d ∧
      (s.tanks.get .a).sampled = false ∧ s.lines.low.get .a = false ∧ s.conv.phase = .idle ∧ s.conv.requests = []) ∧
    (∃ (s : State) (d : Nat), s.Running ∧ (s.tanks.get .a).state = .settling ∧ (s.tanks.get .a).settleTimer = some d ∧
      (s.tanks.get .a).sampled = false ∧ s.lines.low.get .a = true ∧ s.lines.high.get .a = false) ∧
    ∃ d, serving.Running ∧ (serving.tanks.get .a).state = .service ∧ (serving.tanks.get .a).resampleTimer = some d := by
  unfold State.Running
  exact ⟨by decide,
    ⟨tankIn { tankFactory with state := .settling, settleTimer := some 10000 }, _, by decide, by decide, rfl, by decide⟩,
    ⟨{ tankIn { tankFactory with state := .settling, settleTimer := some 10000 } with
      lines := { live.lines with low := ⟨true, false⟩ } }, _, by decide, by decide, rfl, by decide⟩,
    ⟨_, by decide, by decide, rfl⟩⟩

/-- A conversion of A-SALT at the end of a phase for its requesters, tank A awaiting it with an earlier fault or none. -/
def converting (ph : ConverterPhase) (up : Nat) (sat : Bool) (e : ConvRequest) (f : Option ProbeFault) : State :=
  { tankIn { tankFactory with state := .sampling, salt := .awaited, turb := .awaited, fault := f } with
    conv := { phase := ph, requests := [e], nRef := 4096, up := BitVec.ofNat 16 up, saturated := sat
              time := if ph = .reference then 65535 else 0 } }

/-- In PROBE at 7 and 8 periods and SATURATED, in REFERENCE before and at the end of the count. -/
theorem witness_ConversionsEnd :
    (depot.Running ∧ depot.conv.phase ≠ .reference ∧ depot.conv.phase ≠ .probe) ∧
    (∀ x ∈ [(ConverterPhase.probe, 7, false), (.probe, 8, false), (.probe, 65535, true), (.reference, 61440, false),
        (.reference, 0, false)],
      ∀ e ∈ [(⟨.aSalt, true, false, false⟩ : ConvRequest), ⟨.aSalt, false, true, false⟩],
      ∀ f ∈ [none, some (⟨.aTurb, .openProbe⟩ : ProbeFault)], ∃ s ∈ [converting x.1 x.2.1 x.2.2 e f],
      s.Running ∧ s.conv.phase = x.1 ∧ s.conv.requests = [e] ∧ s.conv.up.toNat = x.2.1 ∧
        (x.1 = .probe → s.conv.time = 0) ∧ (x.1 = .reference → s.conv.time = 65535) ∧
        (s.tanks.get (probeTank e.probe)).slot e.probe = .awaited ∧ (s.tanks.get (probeTank e.probe)).fault = f ∧
        s.service ≠ some .a) := by
  unfold State.Running; decide

/-- The converter at the end of a conversion that brings tank A's second result, the other in hand, in a tank state. -/
def judging (p : Probe) (up : Nat) (other : Nat) (st : TankState) (serves : Option Tank) : State :=
  { tankIn { tankFactory with
      state := st, salt := if p = .aSalt then .awaited else .received ⟨other, false⟩
      turb := if p = .aSalt then .received ⟨other, false⟩ else .awaited } with
    service := serves
    conv := { converterReset with
      phase := .probe, requests := [⟨p, true, false, false⟩], nRef := 4096, up := BitVec.ofNat 16 up } }

/-- Passing into SERVICE, READY and a resample; failing by Q_salt at Qdump, by Q_turb just over Tlimit, and in SERVICE;
salinity second and turbidity second. -/
theorem witness_PairIsJudged :
    600 < 1400 ∧ (∀ n ∈ [(3276, 819), (8799, 2199), (8800, 2200), (3600, 900), (3604, 901)], n.1 * 1024 / 4096 = n.2) ∧
    live.active.qDump = 2200 ∧ live.active.tLimit = 900 ∧
    (∀ x ∈ [(Probe.aSalt, 8799, 900, TankState.sampling, none), (.aSalt, 3276, 400, .sampling, some .b),
        (.aSalt, 3276, 400, .service, some .a), (.aSalt, 8800, 400, .sampling, none), (.aSalt, 8800, 400, .service, some .a),
        (.aTurb, 3600, 2199, .sampling, none), (.aTurb, 3604, 819, .sampling, some .b), (.aTurb, 8, 819, .service, some .a)],
      ∃ s ∈ [judging x.1 x.2.1 x.2.2.1 x.2.2.2.1 x.2.2.2.2],
      s.Running ∧ s.conv.phase = .probe ∧ s.conv.time = 0 ∧ s.conv.up.toNat = x.2.1 ∧
        s.conv.requests = [⟨x.1, true, false, false⟩] ∧ s.lines.low.get .a = false ∧
        (s.tanks.get .a).slot x.1 = .awaited ∧ (s.tanks.get .a).state = x.2.2.2.1 ∧ s.service = x.2.2.2.2) := by
  unfold State.Running; decide
theorem witness_TankRequests :
    depot.Ready .one ∧ 1 < (2 : Byte).toNat ∧ 3 < (4 : Byte).toNat ∧ (1 : Byte).toNat = tankCode .b ∧
    (depot.tanks.get .b).state ≠ .dumping ∧ (depot.tanks.get .b).state ≠ .held ∧ (3 : Byte).toNat = probeCode .bTurb ∧
    (serving.Ready .one ∧ serving.service = some .a ∧ (serving.tanks.get .a).state ≠ .dumping) ∧
    (∃ s : State, s.Ready .one ∧ (s.tanks.get .a).state = .held ∧ (s.tanks.get .a).sampled = false ∧
      s.lines.high.get .a = true ∧ s.lines.low.get .a = false) ∧
    (∃ s : State, s.Ready .one ∧ (s.tanks.get .a).state = .held ∧ (s.tanks.get .a).sampled = false ∧
      s.lines.high.get .a = false) ∧
    ∃ s : State, s.Ready .one ∧ (s.tanks.get .a).state = .ready ∧ s.service = none ∧ s.lines.low.get .a = false ∧
      (s.tanks.get .a).sampled = false := by
  unfold State.Ready
  exact ⟨by decide, by decide, by decide, by decide, by decide, by decide, by decide, by decide,
    ⟨{ tankIn { tankFactory with state := .held } with lines := { live.lines with high := ⟨true, false⟩ } }, by decide⟩,
    ⟨tankIn { tankFactory with state := .held }, by decide⟩, ⟨tankIn { tankFactory with state := .ready }, by decide⟩⟩
theorem witness_ExportReads :
    (∀ c ∈ [CursorPlace.absent, .ringEnd, .slot 0 14, .slot 0 15, .slot 1 0], (twoPages c).Ready .one ∧
      ((twoPages c).journal.cursors.get .one).place = c ∧ ((twoPages c).journal.cursors.get .one).lost = false) ∧
    63 < (64 : Byte).toNat ∧ (63 : Byte).toNat = (63 : PageNo).val ∧ (twoPages .absent).journal.pages[63].state = .free ∧
    (twoPages .absent).journal.pages[0].records[15]? = some (closing 15) ∧
    (twoPages .absent).journal.pages[1].records.length = 0 ∧ (tagged (.firstTagged 0)).Ready .one ∧
    ∃ s : State, s.Ready .one ∧ (s.journal.cursors.get .one).lost = true := by
  unfold State.Ready
  exact ⟨by decide, by decide, by decide, by decide, by decide, by decide, by decide,
    ⟨{ depot with journal := { journalFactory with cursors := ⟨⟨.slot 0 3, true⟩, cursorAbsent⟩ } }, by decide⟩⟩
theorem witness_HoldsAndTagging :
    (walking.Ready .one ∧ walking.journal.walk.isSome = true) ∧
    ((twoPages .absent).Ready .two ∧ (twoPages .absent).journal.walk = none ∧
      (twoPages .absent).water.owner ≠ some .two) ∧
    ((twoPages .absent).Ready .one ∧ (twoPages .absent).water.owner = some .one ∧ 63 < (64 : Byte).toNat ∧
      (0 : Byte).toNat = (0 : PageNo).val ∧ (twoPages .absent).journal.pages[0].state ≠ .free ∧
      (twoPages .absent).journal.pages[0].state ≠ .released ∧ (twoPages .absent).journal.pages[63].state = .free ∧
      (twoPages .absent).journal.tagging = .untagged) ∧
    (∀ t ∈ [Tagging.firstTagged 0, .bothTagged 0 0, .bothTagged 0 1, .bothTagged 1 0],
      (tagged t).Ready .one ∧ (tagged t).water.owner = some .one ∧ (tagged t).journal.walk = none ∧
        (tagged t).journal.tagging = t) ∧
    ((tagged .untagged).journal.oldest = 0 ∧ ((0 : PageNo) - 0).val < ((1 : PageNo) - 0).val) := by
  unfold State.Ready; decide
/-- Every page in use and none OPEN, page 0 the oldest, READ and under a walk; port 2 stands at the ring end. -/
def ringFull (reserved : Nat) (d : Option DayClose) : State :=
  { depot with
    disp := { depot.disp with status := .wait }
    journal := { journalFactory with
      pages := putAt (Vector.replicate 64 { state := .closed, hold := false, records := [] }) 0
        { state := .read, hold := false, records := [closing 0] }
      newest := 63, walk := some (newWalk 0 0), reserved := reserved, pendingClose := d
      cursors := ⟨⟨.slot 0 3, false⟩, ⟨.ringEnd, false⟩⟩ } }

/-- The walk's end opens page 0, with a DAY-CLOSE that has room, one that has none, and none. -/
theorem witness_WalkStepJudgesPage_ends :
    ∀ x ∈ [(15, some ⟨1, 4, zeroTotals⟩), (16, some (⟨1, 4, zeroTotals⟩ : DayClose)), (0, none)],
      (ringFull x.1 x.2).Running ∧ (ringFull x.1 x.2).journal.pendingClose = x.2 ∧
        (ringFull x.1 x.2).journal.reserved = x.1 ∧ (ringFull x.1 x.2).journal.available = 0 ∧
        (ringFull x.1 x.2).journal.openPage = none ∧ (ringFull x.1 x.2).journal.oldest = 0 ∧
        (ringFull x.1 x.2).journal.newest + 1 = 0 ∧ ∃ w ∈ (ringFull x.1 x.2).journal.walk, w.next = w.last := by
  unfold State.Running; decide
theorem witness_WalkStepJudgesPage :
    (depot.Running ∧ depot.journal.walk = none) ∧
    (walking.Running ∧ walking.journal.pendingClose = none ∧ ∃ w ∈ walking.journal.walk, w.next = w.last ∧
      walking.journal.pages[w.next].state = .read) ∧
    ∃ (s : State) (w : Walk), s.Running ∧ s.journal.walk = some w ∧ w.next ≠ w.last := by
  unfold State.Running
  exact ⟨by decide, by decide,
    ⟨{ walking with journal := { walking.journal with walk := some (newWalk 0 1) } }, _, by decide, rfl, by decide⟩⟩
theorem witness_ClockMovesDay :
    (State.reset.part.phase ≠ .running ∧ State.reset.clock.time.day ≤ 65535) ∧
    (live.clock.time.day ≤ 65535 ∧ live.clock.time.secs < 86399) ∧
    (midnight.Running ∧ 86399 ≤ midnight.clock.time.secs ∧ 99 ≤ midnight.clock.time.cs ∧ 1000 ≤ midnight.clock.sub) ∧
    (∃ s : State, s.Running ∧ s.clock.time.day = 65535 ∧ 86399 ≤ s.clock.time.secs ∧ 99 ≤ s.clock.time.cs ∧
      1000 ≤ s.clock.sub ∧ min 65535 (s.clock.time.day + 1) ≤ s.clock.billingDay) ∧
    (live.Ready .one ∧ 86399 < (86400 : BitVec 24).toNat ∧ (86399 : BitVec 24).toNat ≤ 86399 ∧
      (5 : BitVec 16).toNat ≤ live.clock.billingDay ∧ live.clock.billingDay < (6 : BitVec 16).toNat ∧
      live.active.clockTolerance = 5) ∧
    (midnight.water.waits = [] ∧ midnight.clock.billingDay < min 65535 (midnight.clock.time.day + 1) ∧
      midnight.clock.lastClosed < midnight.clock.billingDay ∧ midnight.journal.pendingClose = none ∧
      midnight.journal.reserved + 1 ≤ midnight.journal.available ∧ midnight.journal.openPage = some 0) ∧
    (∃ s : State, s.Running ∧ s.water.waits = [] ∧ s.clock.atMidnight = true ∧
      s.clock.billingDay < min 65535 (s.clock.time.day + 1) ∧ s.clock.billingDay ≤ s.clock.lastClosed) ∧
    (∃ s : State, s.Running ∧ s.clock.atMidnight = true ∧ s.clock.lastClosed < s.clock.billingDay ∧
      s.journal.pendingClose = none ∧ s.journal.available < s.journal.reserved + 1) ∧
    ∃ (s : State) (d : DayClose), s.Running ∧ s.clock.atMidnight = true ∧ s.clock.lastClosed < s.clock.billingDay ∧
      s.journal.pendingClose = some d := by
  unfold State.Running State.Ready
  exact ⟨by decide, by decide, by decide,
    ⟨{ midnight with clock := { midnight.clock with time := ⟨65535, 86399, 99⟩, billingDay := 65535 } }, by decide⟩,
    by decide, by decide, ⟨{ midnight with clock := { midnight.clock with lastClosed := 5 } }, by decide⟩,
    ⟨{ midnight with journal := { journalFactory with reserved := 1024 } }, by decide⟩,
    ⟨{ midnight with journal := { journalFactory with pendingClose := some ⟨1, 4, zeroTotals⟩ } }, _, by decide, by decide,
      by decide, rfl⟩⟩
theorem witness_LinkRequests :
    startedNow.Ready .one ∧ (startedNow.links.get .one).entries.length = 1 ∧ 1 < (2 : Byte).toNat ∧
    2 ^ 29 ≤ (0x20000000 : BitVec 32).toNat ∧ (0x1FFFFFFF : BitVec 32).toNat < 2 ^ 29 ∧
    startedNow.water.owner ≠ some .one ∧ depot.Ready .one ∧ depot.water.owner = some .one := by
  unfold State.Ready; decide

/-- A port whose receiver stands somewhere. -/
def receiving (r : Receiver) : State :=
  live.modLink .one fun l => { l with rx := r, rxAt := live.timebase }

/-- A port with a reply in sending and perhaps a held request. -/
def replyingNow (held : Option Frame) : State :=
  live.modLink .one fun l => { l with reply := some ⟨[0xA6], 0⟩, held := held }

theorem witness_PortLines :
    (∀ r ∈ [Receiver.hunt, .kind, .length 0x15, .payload 0x15 2 [0], .check 0x15 [0, 1] none, .check 0x15 [0, 1] (some 0),
        .check 0x15 [0] (some 0), .check 0x01 [] (some 0)],
      (receiving r).part.phase ≠ .off ∧ (receiving r).disp.status = (receiving r).signStatus ∧
        ((receiving r).links.get .one).rx = r ∧ live.timebase ≤ ((receiving r).links.get .one).rxAt + 2000 ∧
        ((receiving r).links.get .one).reply = none ∧ ((receiving r).links.get .one).held = none ∧
        ((receiving r).links.get .one).checkOn = true) ∧
    (crc ([0x15] ++ be 1 2 ++ [0, 1])).toNat ≠ 0 ∧ requestLength 0x15 = some 2 ∧ requestLength 0x01 = none ∧
    (∀ h ∈ [none, some (rightFrame 0x15 [0, 1])],
      (replyingNow h).part.phase ≠ .off ∧ (replyingNow h).disp.status = (replyingNow h).signStatus ∧
        ((replyingNow h).links.get .one).held = h ∧ ((replyingNow h).links.get .one).reply = some ⟨[0xA6], 0⟩ ∧
        ((replyingNow h).links.get .one).resetAfter = none ∧ ((replyingNow h).links.get .one).rx = .hunt) ∧
    (Instr.visitRead .one 1).request = some (.one, .visitRead 1) ∧
    rightFrame 0x15 [0, 1] = { kind := (Request.visitRead 1).kind, payload := (Request.visitRead 1).payload,
                               check := frameCheck (Request.visitRead 1).kind (Request.visitRead 1).payload } ∧
    requestLength 0x0F = none ∧ requestLength 0x77 = none ∧ State.reset.part.phase = .checking ∧
    (State.reset.links.get .one).reply = none := by decide
theorem witness_FrameBytesAreRequest :
    (Instr.reset .one).request = some (.one, .reset) ∧ live.Ready .one ∧ (live.links.get .one).rx = .hunt := by
  unfold State.Ready; decide

/-- The running part with a reply in sending that a reset follows. -/
def resetting (c : ResetCause) : State :=
  depot.modLink .two fun l => { l with reply := some ⟨[0xA6], 0⟩, resetAfter := some c }

theorem witness_ResetsStopEveryBlock :
    depot.part.phase ≠ .off ∧ (ran (exec .powerLoss depot)).part.phase = .off ∧
    (∀ c ∈ [ResetCause.resetRequest, .clearStore], (resetting c).part.phase ≠ .off ∧
      ((resetting c).links.get .two).reply = some ⟨[0xA6], 0⟩ ∧ ((resetting c).links.get .two).resetAfter = some c) := by decide

/-- Bay 1 washing as a reset left it, every section of the store kept. -/
def restarting (r : WorkRecord) : State :=
  ran (exec .resetLine (washing r))

theorem witness_StoreCheckStarts :
    live.part.phase ≠ .checking ∧ (State.reset.part.phase = .checking ∧ checksValid State.reset.store = false) ∧
    ((ran (exec .resetLine depot)).part.phase = .checking ∧ checksValid (ran (exec .resetLine depot)).store = true ∧
      (ran (exec .resetLine depot)).journal.walk = none ∧
      ∀ b ∈ allBays, ((ran (exec .resetLine depot)).bays.get b).state ≠ .washing) ∧
    ((restarting worked3).part.phase = .checking ∧ checksValid (restarting worked3).store = true ∧
      (restarting worked3).journal.walk = none ∧ (restarting worked3).water.waits = [] ∧
      ((restarting worked3).bays.get .b1).state = .washing ∧ ((restarting worked3).bays.get .b1).record = some worked3 ∧
      (∀ x ∈ allBays, x ≠ .b1 → ((restarting worked3).bays.get x).state ≠ .washing) ∧
      worked3.entries[worked3.phase - 1]? = some (entryOf .done 0 251 0 251 false) ∧
      (restarting worked3).journal.openPage = some 0) := by decide

/-- Bays 1 and 2 washing, as a reset left them. -/
def restartingTwo : State :=
  ran (exec .resetLine { washing worked3 with
    bays := ((washing worked3).bays).set .b2 { bayClosed with
      state := .washing, record := some { record 1 .run with claim := 75, entries := [entryOf .notReached 192 100 0 0 false] } } })

theorem witness_StoreCheckStarts_two :
    restartingTwo.part.phase = .checking ∧ checksValid restartingTwo.store = true ∧ restartingTwo.journal.walk = none ∧
    restartingTwo.water.waits = [] ∧ (∀ x ∈ allBays, (restartingTwo.bays.get x).state = .washing ↔ x = .b1 ∨ x = .b2) ∧
    (∃ r ∈ (restartingTwo.bays.get .b1).record, r.entries[r.phase - 1]? = some (entryOf .done 0 251 0 251 false)) ∧
    (∃ r ∈ (restartingTwo.bays.get .b2).record, r.entries[r.phase - 1]? = some (entryOf .notReached 192 100 0 0 false)) ∧
    restartingTwo.journal.openPage = some 0 ∧ restartingTwo.journal.pages[0].records.length < 15 := by decide
theorem witness_StoreCheckStarts_walk :
    ∀ s ∈ [ran (exec .resetLine walking), ran (exec .resetLine (ringFull 0 none))],
      s.part.phase = .checking ∧ checksValid s.store = true ∧ s.journal.walk = some (newWalk 0 0) ∧
        ∀ b ∈ allBays, (s.bays.get b).state ≠ .washing := by decide

/-- The part before the end of start-up, on a day. -/
def ending (billing : Nat) : State :=
  { live with part := { live.part with phase := .starting }, clock := { live.clock with billingDay := billing } }

/-- No rollover, and one, the day close due or not; with and without a close pending, with and without room. -/
theorem witness_StartUpEnds :
    live.part.phase ≠ .starting ∧
    (∀ d ∈ [5, 4, 3], ∀ l ∈ [3, 4], ∀ c ∈ [none, some (⟨1, 2, zeroTotals⟩ : DayClose)], ∀ n ∈ [1023, 1024],
      ∃ s ∈ [{ ending d with
        clock := { (ending d).clock with lastClosed := l }
        journal := { journalFactory with reserved := n, pendingClose := c } }],
        s.part.phase = .starting ∧ s.water.bayOpen = 0 ∧ s.water.waits = [] ∧
          (∀ b ∈ allBays, (s.bays.get b).state = .closed) ∧ s.service = none ∧ s.journal.pendingClose = c ∧
          s.journal.openPage = some 0 ∧ decide (s.journal.reserved + 1 ≤ s.journal.available) = decide (n = 1023) ∧
          decide (s.clock.billingDay < s.clock.time.day) = decide (d < 5) ∧ s.clock.lastClosed = l) := by
  decide
theorem witness_PricedAmount :
    worked3.terms.discount ≤ 500 ∧ worked3.weight ≤ 1000 ∧ worked3.terms.basePrice ≤ 99999 ∧
    worked3.terms.freshRate ≤ 2000 ∧ worked3.terms.reclaimRate ≤ 2000 ∧ worked3.litres ≤ 32400 ∧
    worked3.fresh ≤ worked3.litres ∧ worked3.entries.length = worked3.terms.phases.length ∧
    (worked3.terms.phases.map (·.weight)).sum = 1000 := by decide

/-! ### Witnesses of the refusals of operands -/

/-- A visit in a bay and one held nowhere. -/
theorem witness_IdentifyMatches_absent :
    ∃ s ∈ [bayIn .exit (some (record 4 .outside))],
      s.Ready .one ∧ s.visitOf (401 : BitVec 16).toNat = none ∧ (s.bayHolding (401 : BitVec 16).toNat).isSome = true ∧
        s.visitOf (402 : BitVec 16).toNat = none ∧ s.bayHolding (402 : BitVec 16).toNat = none := by
  unfold State.Ready; decide
theorem witness_operandsOutOfRange :
    (∀ p ∈ [Port.one, .two], live.Ready p ∧ depot.Ready p) ∧ depot.water.owner = some .one ∧ 64 ≤ (64 : Byte).toNat ∧
    (0 : Byte).toNat = 0 ∧ 12 < (13 : Byte).toNat ∧ 6 < (7 : Byte).toNat ∧ 1 < (2 : Byte).toNat ∧ (0 : TagId) = 0 ∧
    plateOf (bytesAt 10 [0x48, 0x00, 0x42] 0) = none := by
  unfold State.Ready; decide

/-! ### Witnesses of JOURNAL-LOW -/

/-- A state with so many slots reserved, the JOURNAL-LOW arm as given, and perhaps a DAY-CLOSE pending. -/
def margin (s : State) (reserved : Nat) (armed : Bool) (d : Option DayClose) : State :=
  let t := { s with journal := { s.journal with reserved := reserved, lowArmed := armed, pendingClose := d } }
  { t with disp := { t.disp with status := t.signStatus } }

/-- One call, and two, at a margin. -/
def callingAt (two : Bool) (n : Nat) (a : Bool) : State :=
  margin (if two then twoQueued 13 0 0 1 else dispatching) n a none

/-- Margins of 66, 65 and 64 before the pass, of one call and of two. -/
theorem witness_DispatchPass_low :
    ∀ two ∈ [true, false], ∀ n ∈ [958, 959, 960], ∀ a ∈ [true, false],
      (callingAt two n a).Running ∧ (callingAt two n a).disp.mark = true ∧ (callingAt two n a).MayCall ∧
        (callingAt two n a).disp.lines.length < 2 ∧ (callingAt two n a).journal.available = 1024 ∧
        (callingAt two n a).journal.reserved = n ∧ (callingAt two n a).journal.lowArmed = a ∧
        (callingAt two n a).considers .b1 = true := by
  unfold State.Running State.MayCall; decide
theorem witness_DispatchPass_low_eligible :
    ∀ two ∈ [true, false], ∀ n ∈ [958, 959, 960], ∀ a ∈ [true, false], ∀ v ∈ (callingAt two n a).queue,
      (callingAt two n a).EligibleFor .b1 v ∧ (callingAt two n a).EligibleFor .b2 v ∧ ¬ (callingAt two n a).GivesWay v := by
  unfold State.GivesWay State.EligibleFor; decide
/-- A call that may end, at a margin, perhaps with a DAY-CLOSE pending. -/
def calledAt (n : Nat) (a : Bool) (d : Option DayClose) : State :=
  margin calledBay n a d

/-- Margins of 62, 63 and 64 before the drop. -/
theorem witness_callEnds_low :
    ∀ n ∈ [962, 961, 960], ∀ a ∈ [true, false], ∀ d ∈ [none, some (⟨1, 4, zeroTotals⟩ : DayClose)],
      (calledAt n a d).Running ∧ (calledAt n a d).Ready .one ∧ (calledAt n a d).journal.available = 1024 ∧
        (calledAt n a d).journal.reserved = n ∧ (calledAt n a d).journal.lowArmed = a ∧
        (calledAt n a d).journal.pendingClose = d ∧ (calledAt n a d).journal.openPage = some 0 ∧
        ((calledAt n a d).bays.get .b1).state = .called ∧ ((calledAt n a d).bays.get .b1).call.isSome = true ∧
        ((calledAt n a d).calledTo .b1).isSome = true ∧
        (calledAt n a d).calledTo .b1 = (calledAt n a d).visitOf (401 : BitVec 16).toNat := by
  unfold State.Running State.Ready; decide

/-- The walk over page 0, which is held or not, at a margin. -/
def walkingAt (h : Bool) (n : Nat) (a : Bool) (d : Option DayClose) : State :=
  margin { walking with journal := { walking.journal with
    pages := putAt walking.journal.pages 0 { walking.journal.pages[0] with hold := h } } } n a d

/-- A walk's end that frees no page, and one that frees page 0, around the threshold, a DAY-CLOSE pending or none. -/
theorem witness_WalkStepJudgesPage_low :
    ∀ h ∈ [true, false], ∀ n ∈ [944, 960, 961], ∀ a ∈ [true, false], ∀ d ∈ [none, some (⟨1, 4, zeroTotals⟩ : DayClose)],
      (walkingAt h n a d).Running ∧ (walkingAt h n a d).journal.available = 1008 ∧
        (walkingAt h n a d).journal.reserved = n ∧ (walkingAt h n a d).journal.lowArmed = a ∧
        (walkingAt h n a d).journal.pendingClose = d ∧ (walkingAt h n a d).journal.openPage = some 1 ∧
        (walkingAt h n a d).journal.walk = some (newWalk 0 0) ∧ (walkingAt h n a d).journal.pages[0].state = .read ∧
        (walkingAt h n a d).journal.pages[0].hold = h := by
  unfold State.Running; decide
/-- A DAY-CLOSE due that is written at a margin of 64 and of 65. -/
theorem witness_ClockMovesDay_low :
    ∀ n ∈ [959, 960], ∀ a ∈ [true, false], ∃ s ∈ [margin midnight n a none],
      s.Running ∧ s.water.waits = [] ∧ s.clock.atMidnight = true ∧ s.clock.billingDay < s.clock.time.day + 1 ∧
        s.clock.lastClosed < s.clock.billingDay ∧ s.journal.pendingClose = none ∧ s.journal.openPage = some 0 ∧
        s.journal.available = 1024 ∧ s.journal.reserved = n ∧ s.journal.lowArmed = a := by
  unfold State.Running; decide
/-- A pending DAY-CLOSE written by the end of start-up at a margin of 64 and of 65. -/
theorem witness_StartUpEnds_low :
    ∀ d ∈ [5, 4], ∀ n ∈ [959, 960], ∃ s ∈ [{ ending d with
      clock := { (ending d).clock with lastClosed := 3 }
      journal := { journalFactory with reserved := n, pendingClose := some ⟨1, 2, zeroTotals⟩ } }],
      s.part.phase = .starting ∧ s.water.waits = [] ∧ s.water.bayOpen = 0 ∧ (∀ b ∈ allBays, (s.bays.get b).state = .closed) ∧
        s.service = none ∧ s.journal.pendingClose.isSome = true ∧ s.journal.openPage = some 0 ∧
        s.journal.available = 1024 ∧ s.journal.reserved = n := by decide

/-! ### Witnesses of settlements, overdraws and aborted claims -/

/-- Bay 1 in CLAIM of a phase with 10 litres left and bay 2 waiting for 11, under a mark or none. -/
def shortClaim (k : Nat) (m : AbortMark) : State :=
  let s := washing { record k .claim with abort := m, entries := List.replicate 4 (entryOf .notReached 0 0 0 0 false) }
  { s with water := { s.water with fresh := 10, waits := [⟨.b2, 11⟩] } }

/-- A WAIT with a water-wait limit of 0, in an early phase and the last. -/
theorem witness_ClaimAnswerDecides_limitZero :
    ∀ x ∈ [(1, soak), (4, final)], ∃ s ∈ [{ shortClaim x.1 .unmarked with
        active := { defaultBank with settings := zeroBlock } }],
      s.Running ∧ s.active.waterWaitLimit = 0 ∧ (s.bays.get .b1).state = .washing ∧ s.journal.openPage = some 0 ∧
        s.water.fresh < (x.2.dose * (256 - 0) + 255) / 256 ∧
        ∃ r ∈ s.record .b1, r.sub = .claim ∧ r.abort = .unmarked ∧ r.phase = x.1 ∧ r.terms.phases.length = 4 ∧
          r.terms.phases[r.phase - 1]? = some x.2 ∧
          r.entries[r.phase - 1]? = some (entryOf .notReached 0 0 0 0 false) := by
  unfold State.Running; decide
/-- An answer under each mark while another bay waits for more than there is. -/
theorem witness_ClaimAnswerDecides_marked :
    ∀ m ∈ [AbortMark.presence, .eStop, .host], ∃ s ∈ [shortClaim 2 m],
      s.Running ∧ (s.bays.get .b1).state = .washing ∧ s.journal.openPage = some 0 ∧ s.water.fresh ≤ 262143 ∧
        s.water.waits.length = 1 ∧ (∀ x ∈ s.water.waits, s.water.fresh < x.estimate) ∧
        ∃ r ∈ s.record .b1, r.sub = .claim ∧ r.abort = m ∧ r.terms.phases[r.phase - 1]? = some pressure ∧
          r.entries[r.phase - 1]? = some (entryOf .notReached 0 0 0 0 false) := by
  unfold State.Running; decide
/-- 76 litres used against a claim of 60: 15 litres left lack one, 16 none, for a phase and at the end of a wash. -/
theorem witness_RunOnExpiry_overdraw :
    (∀ x ∈ [(15, 1), (16, 0)],
      (settlingBay 60 x.1).shortfall 60 76 = x.2 ∧ (settlingBay 60 x.1).Running ∧
      (∃ r ∈ (settlingBay 60 x.1).record .b1, r.claim = 60 ∧ r.sub = .runOn ∧ r.abort = .unmarked) ∧
      ∃ r ∈ [{ worked3 with
          claim := 60, entries := (worked3.entries.take 3) ++ [entryOf .done 192 303 0 0 false] }],
        ∃ s ∈ [{ washing r with water := { depot.water with fresh := x.1 } }], s.Running ∧ s.shortfall r.claim 76 = x.2 ∧
          s.water.waits = [] ∧ (s.bays.get .b1).runOnTimer = some 10000 ∧ r.terms.phases.length ≤ r.phase ∧
          r.entries[r.phase - 1]? = some (entryOf .done 192 303 0 0 false)) ∧
    (303 * (256 - 192) + 255) / 256 + 0 = 76 := by
  unfold State.Running; decide

/-- Bay 1 found in RUN, and perhaps bay 2, each with 76 litres used, as a reset left them. -/
def cutOff (claim fresh : Nat) (two : Bool) : State :=
  let r : WorkRecord := { record 1 .run with claim := claim, entries := [entryOf .notReached 192 303 0 0 false] }
  let s := washing r
  let u : BayUnit := { bayClosed with state := .washing, record := some { r with claim := 0 } }
  ran (exec .resetLine { s with
    water := { s.water with fresh := fresh }, bays := if two then s.bays.set .b2 u else s.bays })

/-- The first recovery overdraws, the second, both, and neither. -/
theorem witness_StoreCheckStarts_overdraw :
    ∀ x ∈ [(60, 15), (60, 16), (0, 100), (90, 100)], ∀ two ∈ [true, false], ∃ s ∈ [cutOff x.1 x.2 two],
      s.part.phase = .checking ∧ checksValid s.store = true ∧ s.journal.walk = none ∧ s.water.waits = [] ∧
        s.water.fresh = x.2 ∧ (s.bays.get .b1).state = .washing ∧ ((s.bays.get .b2).state = .washing ↔ two = true) ∧
        s.journal.openPage = some 0 ∧
        ∃ r ∈ (s.bays.get .b1).record, r.claim = x.1 ∧ r.sub = .run ∧
          r.entries[r.phase - 1]? = some (entryOf .notReached 192 303 0 0 false) := by decide

/-! ### Witnesses of a converter with entries waiting -/

/-- A state whose converter is in a phase with a queue of entries. -/
def busyWith (s : State) (ph : ConverterPhase) (l : List ConvRequest) : State :=
  { s with conv := { converterReset with phase := ph, requests := l, nRef := 4096, up := 61440, time := 9 } }

/-- Entries that wait when a sampling begins: none, another probe's, a port's for each of the tank's two. -/
def waitingEntries : List (List ConvRequest) :=
  [[], [⟨.bSalt, true, false, true⟩], [⟨.aTurb, false, true, false⟩, ⟨.aSalt, false, false, true⟩]]

/-- The tank settles or serves; its switches are clear, LOW asserted, and both. -/
theorem witness_TankTimersStartSampling_busy :
    (∀ ph ∈ [ConverterPhase.idle, .reference, .probe], ∀ l ∈ waitingEntries,
      (∃ s ∈ [busyWith (tankIn { tankFactory with state := .settling, settleTimer := some 10000 }) ph l],
        s.Running ∧ s.conv.phase = ph ∧ s.conv.requests = l ∧ (s.tanks.get .a).sampled = false ∧
          s.lines.low.get .a = false) ∧
      ∃ s ∈ [busyWith serving ph l], s.Running ∧ s.conv.requests = l ∧ (s.tanks.get .a).resampleTimer = some 10000) ∧
    ∀ h ∈ [true, false], ∃ s ∈ [{ tankIn { tankFactory with state := .settling, settleTimer := some 10000 } with
        lines := { live.lines with low := ⟨true, false⟩, high := ⟨h, false⟩ } }],
      s.Running ∧ s.lines.low.get .a = true ∧ s.lines.high.get .a = h ∧ (s.tanks.get .a).settleTimer = some 10000 := by
  unfold State.Running; decide
/-- The same state with the entry e of its converter followed by others, tank A or none in service. -/
def followedBy (s : State) (l : List ConvRequest) (serves : Option Tank) : State :=
  { s with
    conv := { s.conv with requests := s.conv.requests ++ l }, service := serves
    tanks := if serves = some .a then s.tanks.set .a { s.tanks.a with state := .service } else s.tanks }

/-- The end of a conversion with the tank's other probe next and a port's behind it. -/
def endingWith (ph : ConverterPhase) (up : Nat) (sat shared : Bool) (f : Option ProbeFault) (serves : Option Tank) : State :=
  followedBy (converting ph up sat ⟨.aSalt, true, shared, false⟩ f)
    [⟨.aTurb, true, false, false⟩, ⟨.bSalt, false, true, false⟩] serves

/-- A first reading, a first failure and a second one. -/
theorem witness_ConversionsEnd_queue :
    ∀ x ∈ [(ConverterPhase.probe, 3276, false), (.probe, 65535, true), (.probe, 7, false), (.reference, 61440, false)],
      ∀ b ∈ [true, false], ∀ f ∈ [none, some (⟨.aTurb, .openProbe⟩ : ProbeFault)], ∀ v ∈ [none, some Tank.a],
      ∃ s ∈ [endingWith x.1 x.2.1 x.2.2 b f v],
      s.Running ∧ s.conv.phase = x.1 ∧ s.conv.requests.length = 3 ∧ s.conv.up.toNat = x.2.1 ∧
        s.conv.time = (if x.1 = .probe then 0 else 65535) ∧ (s.tanks.get .a).salt = .awaited ∧
        (s.tanks.get .a).turb = .awaited ∧ (s.tanks.get .a).fault = f ∧ s.service = v := by
  unfold State.Running; decide
/-- The pair's second result with tank B's entries waiting, a port sharing it or not, the tank passing and failing. -/
theorem witness_PairIsJudged_queue :
    ∀ up ∈ [3276, 8800], ∀ b ∈ [true, false], ∃ j ∈ [judging .aSalt up 400 .sampling none],
      ∃ s ∈ [{ j with conv := { j.conv with
        requests := [⟨.aSalt, true, b, false⟩, ⟨.bSalt, true, false, false⟩, ⟨.bTurb, true, false, false⟩] } }],
      s.Running ∧ s.conv.phase = .probe ∧ s.conv.time = 0 ∧ s.conv.up.toNat = up ∧ s.lines.low.get .a = false ∧
        (s.tanks.get .a).salt = .awaited ∧ (s.tanks.get .a).turb = .received ⟨400, false⟩ ∧
        (s.tanks.get (otherTank .a)).state ≠ .ready := by
  unfold State.Running; decide
/-- A HELD and a READY tank with LOW asserted, HIGH as given; and a HELD one resumed while the converter is busy. -/
theorem witness_TankRequests_switches :
    (∀ st ∈ [TankState.held, .ready], ∀ h ∈ [true, false],
      ∃ s ∈ [{ tankIn { tankFactory with state := st } with
        lines := { live.lines with low := ⟨true, false⟩, high := ⟨h, false⟩ } }],
      s.Ready .one ∧ (s.tanks.get .a).state = st ∧ (s.tanks.get .a).sampled = false ∧ s.service = none ∧
        s.lines.low.get .a = true ∧ s.lines.high.get .a = h) ∧
    ∃ s ∈ [{ busyWith (tankIn { tankFactory with state := .held }) .probe [⟨.bSalt, true, false, true⟩] with
        lines := { live.lines with high := ⟨true, false⟩ } }],
      s.Ready .one ∧ (s.tanks.get .a).state = .held ∧ (s.tanks.get .a).sampled = false ∧ s.conv.phase = .probe ∧
        s.lines.high.get .a = true ∧ s.lines.low.get .a = false := by
  unfold State.Ready; decide

/-! ### Witnesses of sound pages and of a page's 16th record -/

/-- Page 0 OPEN with so many records, the next page FREE or CLOSED, port 1 at the ring end. -/
def filling (s : State) (k : Nat) (nextFree : Bool) : State :=
  margin { s with journal := { s.journal with
    pages := putAt (putAt s.journal.pages 0 { state := .opened, hold := true, records := List.replicate k (closing 0) }) 1
      (if nextFree then freePage else { state := .closed, hold := false, records := [closing 3] })
    cursors := ⟨⟨.ringEnd, false⟩, ⟨.slot 0 3, false⟩⟩ } } s.journal.reserved s.journal.lowArmed s.journal.pendingClose

theorem witness_PagesSoundKept : ∃ s t : State, s.PagesSound ∧ step s = .next t ∧ s.journal.pages[0].records.length = 15 :=
  ⟨filling depot 15 true, _, by unfold State.PagesSound; decide, rfl, by decide⟩
/-- A call that ends with a DAY-CLOSE pending, onto slot 15 and slot 14 of the OPEN page. -/
theorem witness_callEnds_page :
    ∀ k ∈ [14, 15], ∀ f ∈ [true, false], ∃ s ∈ [filling (calledAt 1 true (some ⟨1, 4, zeroTotals⟩)) k f],
      s.Running ∧ s.Ready .one ∧ s.PagesSound ∧ s.journal.pendingClose.isSome = true ∧ s.journal.openPage = some 0 ∧
        s.journal.reserved - 1 + 1 ≤ s.journal.available ∧ (s.calledTo .b1).isSome = true ∧
        s.journal.pages[0].records.length = k ∧ (s.journal.pages[1].state = .free ↔ f = true) := by
  unfold State.Running State.Ready State.PagesSound; decide
/-- A walk's end with a DAY-CLOSE pending, the pages sound: onto the OPEN page, and onto one that the end opens. -/
theorem witness_WalkStepJudgesPage_sound :
    ∀ s ∈ [walkingAt true 944 true (some ⟨1, 4, zeroTotals⟩), walkingAt false 944 true (some ⟨1, 4, zeroTotals⟩),
        ringFull 15 (some ⟨1, 4, zeroTotals⟩)],
      s.Running ∧ s.PagesSound ∧ s.journal.pendingClose.isSome = true ∧ ∃ w ∈ s.journal.walk, w.next = w.last := by
  unfold State.Running State.PagesSound; decide
/-- A wash in WATER-WAIT that is charged onto a page's 16th slot. -/
theorem witness_Charged_page :
    ∀ f ∈ [true, false], ∃ s ∈ [filling (waitingBay 4 true) 15 f],
      s.Running ∧ (s.bays.get .b1).state = .washing ∧ (s.bays.get .b1).record = some (record 4 .waterWait) ∧
        s.journal.openPage = some 0 ∧ s.journal.pages[0].records.length = 15 ∧
        (s.journal.pages[1].state = .free ↔ f = true) := by
  unfold State.Running; decide

/-! ### Witnesses of a new window's reads, of classes, and of refused measurements -/

/-- Fifteen or sixteen visits wait, the first as given; four windows are open, the oldest its own, or three; reads. -/
def arriving (k : Nat) (v : Visit) (windows : Nat) (reads : List TagId) : State :=
  { live with
    queue := v :: (waiting k).tail, nextVisit := 17
    lane := { laneReset with
      windows := List.replicate windows ⟨some 1, 1, some 9000, 2⟩
      reads := reads.map fun id => { id := id, lane := 8000, time := ⟨5, 99, 0⟩, width := 2 } }
    disp := { live.disp with status := .closed } }

/-- The reads' first is adopted, kept, in use by visit 1, a second ID, and a third; in reach at the boundary. -/
theorem witness_AOnStartsMeasurement_reads :
    ∀ l ∈ [[7], [7, 7], [5], [7, 8], [7, 8, 9], [5, 7], ([] : List TagId)], ∀ w ∈ [3, 4],
      ∃ s ∈ [arriving 15 { queued 1 with tags := [5] } w l],
      s.Running ∧ s.lane.occupied = false ∧ s.lane.meas = none ∧ s.lane.windows.length = w ∧ s.queue.length = 15 ∧
        ∀ r ∈ s.lane.reads, s.laneTime ≤ r.lane + 1000 * s.active.tagWidth := by
  unfold State.Running; decide
theorem test_a_on_reads :
    ∀ x ∈ [([7], [7], IdentState.measuring), ([7, 7], [7], .measuring), ([5], [], .conflict), ([7, 8], [7, 8], .conflict),
        ([7, 8, 9], [7, 8], .conflict), ([5, 7], [7], .conflict)],
      ((ran (exec .aOn (arriving 15 { queued 1 with tags := [5] } 3 x.1))).queue.getLast?.map fun v =>
        (v.tags, v.ident)) = some x.2 := by decide
/-- The oldest of four windows has a PENDING visit with a registered tag, with another, with none; and a MATCHED one. -/
theorem witness_AOnStartsMeasurement_closes :
    ∀ v ∈ [{ queued 1 with tags := [5] }, { queued 1 with tags := [6] }, queued 1, matchedVisit 1], ∀ k ∈ [15, 16],
      ∃ s ∈ [{ arriving k v 4 [] with
        register := [{ tag := 5, haulier := 12, programme := some 3, plate := none, blocked := false }] }],
      s.Running ∧ s.lane.meas = none ∧ s.lane.windows.length = 4 ∧ (s.lane.windows.head?.map (·.visit)) = some (some 1) ∧
        s.visitOf 1 = some v ∧ (s.lookup 5).isSome = true ∧ s.lookup 6 = none ∧ s.active.identTimeout ≠ 0 := by
  unfold State.Running; decide
/-- The Class Table's steps at their boundaries (01 sections 3 and 6): rows 4, 1 and 2, none above 3000 cm, none at all. -/
theorem test_classify :
    defaultBank.classify 5 (some 1600) = (some 4, .noVerdict) ∧ defaultBank.classify 2 (some 800) = (some 1, .noVerdict) ∧
    defaultBank.classify 2 (some 900) = (some 2, .noVerdict) ∧ defaultBank.classify 2 (some 3001) = (none, .oversize) ∧
    defaultBank.classify 1 (some 3001) = (none, .measure) ∧ defaultBank.classify 5 none = (none, .measure) ∧
    defaultBank.classify 15 (some 800) = (none, .oversize) := by decide
/-- Row 4 is the lowest that admits 5 axles and 1600 cm; no row admits 15 axles. -/
theorem witness_BOnTimes_rows :
    (5 ≤ defaultBank.maxAxles 4 ∧ 1600 ≤ defaultBank.maxLength 4 ∧
      ∀ i, 1 ≤ i → i < 4 → ¬ (5 ≤ defaultBank.maxAxles i ∧ 1600 ≤ defaultBank.maxLength i)) ∧
    ∀ c, 1 ≤ c → c ≤ 6 → ¬ (15 ≤ defaultBank.maxAxles c ∧ 800 ≤ defaultBank.maxLength c) := by
  constructor
  · refine ⟨by decide, by decide, fun i h k => ?_⟩
    have : i = 1 ∨ i = 2 ∨ i = 3 := by omega
    rcases this with rfl | rfl | rfl <;> decide
  · intro c h k
    have : c = 1 ∨ c = 2 ∨ c = 3 ∨ c = 4 ∨ c = 5 ∨ c = 6 := by omega
    rcases this with rfl | rfl | rfl | rfl | rfl | rfl <;> decide
/-- A measurement of each binding at an A-off that completes it, and at one that finds it stuck. -/
theorem witness_AOffTimes_ends :
    ∀ b ∈ [Binding.bound 1, .refused, .lost], ∀ t ∈ [1000000, 6553500],
      ∃ m ∈ [{ measurement 0 with binding := b, tab := some 500 }], ∃ s ∈ [{ measuring m with timebase := t }],
      s.Running ∧ s.lane.occupied = true ∧ s.lane.meas = some m ∧ m.stuck = false ∧ m.ta = none ∧
        (s.visitOf 1).isSome = true ∧ (elapsed s.laneTime m.t0 = 65535 ↔ t = 6553500) := by
  unfold State.Running; decide
theorem witness_LaneTimersExpire_refused :
    ∃ m ∈ [{ measurement 0 with binding := .refused }], (measuring m).Running ∧ (measuring m).lane.meas = some m ∧
      m.stuckTimer = some 65535 ∧ m.binding = .refused := by
  unfold State.Running; decide

/-! ### Witnesses of hand-overs, notices, holds, losses of reclaim, intrusions and the priced record -/

/-- A measurement at its end by A_OFF, B_ON or STUCK_TIMEOUT, its notice held back or not, the visit in any ident state;
the newest window of width 0 is the visit's own or another's, or has another width. -/
def ended (ta : Option Nat) (held : Bool) (id : IdentState) (shut : Option Nat) (width : Nat) : State :=
  let s := measuring { measurement 0 with tab := if ta = none then some 500 else none, ta := ta, heldNotice := held }
  { s with
    lane := { s.lane with windows := [⟨shut, 1, none, width⟩] }
    queue := [{ newVisit 1 ⟨5, 90, 0⟩ with ident := id }, queued 2] }

theorem witness_handOver :
    ∀ ta ∈ [none, some 400], ∀ h ∈ [true, false], ∀ id ∈ [IdentState.measuring, .matched], ∀ n ∈ [1, 2], ∀ w ∈ [0, 2],
      (ended ta h id (some n) w).Running ∧ (ended ta h id (some n) w).lane.occupied = true ∧
      (ended ta h id (some n) w).lane.meas = some
        { measurement 0 with tab := if ta = none then some 500 else none, ta := ta, heldNotice := h } ∧
      elapsed (ended ta h id (some n) w).laneTime 0 = 10000 ∧
      ((ended ta h id (some n) w).visitOf 1).map (·.ident) = some id ∧
      ((ended ta h id (some n) w).lane.windows.getLast?.filter fun w => w.width = 0).bind (fun w => w.visit) =
        if w = 0 then some n else none := by
  unfold State.Running; decide
/-- R10, R23 and R29: a vehicle of no axle has no class and takes hold MEASURE. -/
theorem test_handOver_hold :
    ((ran (exec .aOff (ended none false .measuring none 2))).queue.head?.map fun v => (v.ident, v.hold)) =
      some (.pending, .measure) := by decide
/-- A window's notice to a MATCHED visit, and to one that goes UNKNOWN at once. -/
theorem witness_TagWindowExpires_any :
    ∀ id ∈ [IdentState.pending, .matched, .conflict, .unknown],
      ∃ s ∈ [{ windowOpen (some 1) (some 8000) with queue := [{ queued 1 with ident := id }] }],
      s.Running ∧ s.lane.meas = none ∧ ∃ v ∈ s.visitOf 1, v.ident = id := by
  unfold State.Running; decide
/-- No visit, one and two wait for the entry's tag; a BLOCKED entry holds them, another takes a NO-PROGRAM hold off. -/
theorem witness_VehicleRegisterChanges_waits :
    ∀ l ∈ [[queued 1], [{ queued 1 with ident := .unknown, tags := [7], hold := .noProgram }],
        [{ queued 1 with closed := true, tags := [7] }, { queued 2 with ident := .unknown, tags := [7] }]],
      ∃ s ∈ [{ live with queue := l }], s.Ready .one ∧ (∀ x ∈ s.register, x.tag ≠ entryHB7.tag) ∧
        s.queue.countP (fun v => v.tags = [7] ∧ (v.ident = .pending ∧ v.closed = true ∨ v.ident = .unknown)) =
          l.length - (if l = [queued 1] then 1 else 0) := by
  unfold State.Ready; decide
theorem test_vehicle_put_hold :
    ((ran (exec (.vehiclePut .one 7 12 0 (bytesAt 10 [] 0) 0)
      { live with queue := [{ queued 1 with ident := .unknown, tags := [7] }] })).queue.head?.map fun v => (v.ident, v.hold)) =
      some (.matched, .noProgram) := by decide
/-- The terms of the phase after those of the witnesses of WATER-WAIT's end, of a limit of 0 and of RUN-ON's. -/
theorem witness_claimRecord :
    (record 1 .waterWait).terms.phases[(record 1 .waterWait).phase]? = some pressure ∧
      (record 3 .waterWait).terms.phases[(record 3 .waterWait).phase]? = some final ∧
      pressure.source = .reclaimPreferred ∧ final.source = .freshOnly ∧
      ((serving.claimRecord (record 1 .runOn) pressure 2).claimTank = some .a) ∧
      ((serving.claimRecord (record 3 .runOn) final 4).claimTank = none) := by decide
/-- Bays in RUN that draw on tank A, which serves; tank B in a state, its LOW switch as given. -/
def drawing (l : List Bay) (st : TankState) (low : Bool) : State :=
  let r := { record 1 .run with claimTank := some .a, entries := [entryOf .notReached 192 100 0 0 false] }
  { serving with
    tanks := ⟨serving.tanks.a, { serving.tanks.b with state := st }⟩
    lines := { serving.lines with low := ⟨false, low⟩ }
    bays := l.foldl (fun x b => x.set b { bayClosed with state := .washing, blend := 192, record := some r }) depot.bays }

/-- No bay, one bay and two bays lose reclaim; tank B is READY with its LOW switch clear or asserted, or not READY. -/
theorem witness_LosesReclaim :
    ∀ l ∈ [[], [Bay.b1], [.b1, .b6]], ∀ st ∈ [TankState.ready, .held], ∀ low ∈ [true, false],
      (drawing l st low).Running ∧ (drawing l st low).Ready .one ∧ (drawing l st low).service = some .a ∧
        ((drawing l st low).tanks.get .a).state = .service ∧ ((drawing l st low).tanks.get .b).state = st ∧
        ((drawing l st low).tanks.get .b).sampled = false ∧ (drawing l st low).lines.low.get .b = low ∧
        ∀ b ∈ allBays, (∃ r ∈ (drawing l st low).record b,
          (drawing l st low).LosesReclaim .a b r (entryOf .notReached 192 100 0 0 false)) ↔ b ∈ l := by
  unfold State.Running State.Ready State.LosesReclaim; decide
/-- A bay called, and one in FAULT, its presence line asserted or not, its BAY_OPEN bit set or clear. -/
theorem witness_IntrusionJudged :
    ∀ x ∈ [calledBay, bayIn .fault none], ∀ h ∈ [true, false], ∀ o ∈ [63, 62],
      ∃ s ∈ [{ x with
        lines := { x.lines with presence := x.lines.presence.set .b1 h }, water := { x.water with bayOpen := o } }],
      s.Running ∧ s.Ready .one ∧ s.bayIsOpen .b1 = decide (o = 63) ∧ s.lines.presence.get .b1 = h := by
  unfold State.Running State.Ready; decide
/-- A SWAP of BAY_OPEN from 0 to 63 over closed bays, no presence line, one and two of them asserted. -/
theorem witness_WaterRequests_intrusion :
    ∀ l ∈ [[], [Bay.b2], [.b2, .b5]],
      ∃ s ∈ [{ live with
        disp := { live.disp with status := .closed }
        lines := { live.lines with presence := l.foldl (fun x b => x.set b true) live.lines.presence } }],
      s.Ready .one ∧ s.water.value .bayOpen = 0 ∧ (∀ b ∈ allBays, (s.bays.get b).state = .closed) ∧
        (∀ b ∈ allBays, ((ran (exec (.swap .one 3 0 63) s)).bays.get b).state = .idle) ∧
        ∀ b ∈ allBays, s.lines.presence.get b = true ↔ b ∈ l := by
  unfold State.Ready; decide
/-- Both tanks in SAMPLING as start-up ends, and only tank B; the converter idle, or its entries waiting. -/
theorem witness_StartUpEnds_sampling :
    ∀ st ∈ [TankState.sampling, .ready], ∃ s ∈ [{ ending 5 with
        tanks := ⟨{ tankFactory with state := st }, { tankFactory with state := .sampling }⟩ }],
      s.part.phase = .starting ∧ (s.tanks.get .b).state = .sampling ∧ s.lines.low.get .b = false ∧
        (∀ i ∈ [Tank.a, .b], (s.tanks.get i).sampled = false) ∧ s.service = none ∧ s.water.waits = [] := by decide
theorem test_start_sampling :
    (ran (exec .startUpEnd { ending 5 with
      tanks := ⟨{ tankFactory with state := .sampling }, { tankFactory with state := .sampling }⟩ })).conv.requests.map
        (·.probe) = [.aSalt, .aTurb, .bSalt, .bTurb] := by decide
/-- A record with every status, priced in a charging step and in recovery. -/
def mixed : WorkRecord :=
  { worked3 with
    endTime := some ⟨5, 95, 0⟩
    entries := [entryOf .done 192 303 0 76 false, entryOf .short 192 7 2 4 true, entryOf .skipped 192 0 0 0 false,
      entryOf .notReached 9 0 0 0 false] }

theorem witness_PricedAmount_record :
    mixed.entries.length = mixed.terms.phases.length ∧ mixed.startTime = some ⟨5, 85, 0⟩ ∧
    mixed.endTime = some ⟨5, 95, 0⟩ ∧
    ∃ v ∈ mixed.visit, v.haulier = some 12 ∧ v.cls = some 4 := by decide
/-- R180: a 256th occurrence leaves the count at 255. -/
theorem test_latch_saturates :
    ((((List.replicate 256 ()).foldl (fun (s : State) _ => s.latch (.loadShed 1)) live).links.get .two).latched
      .loadShed).map (·.count) = some 255 := by decide

end Sys2Proof.Tests
end

section
/-! The treadle (R6): when an edge is counted, what a measurement makes of it, and the meaning of TREADLE_EDGE. -/

namespace Sys2Proof.Machine

/-- The debounce test of R6, as a bound on the last counted edge where there is one. -/
theorem Measurement.counts_iff (m : Measurement) (now : Nat) :
    m.counts now = true ↔
      m.frozen = false ∧ m.stuck = false ∧ ∀ e, m.lastEdge = some e → e + 80 ≤ now := by
  unfold Measurement.counts
  cases hl : m.lastEdge with
  | none => simp
  | some e =>
    simp only [Bool.and_eq_true, Bool.not_eq_true', decide_eq_true_iff, Option.some.injEq, forall_eq', and_assoc]
    rfl

theorem Measurement.edge_of_counts {m : Measurement} {now : Nat} (h : m.counts now = true) :
    m.edge now = { m with axles := min 15 (m.axles + 1), lastEdge := some now } :=
  if_pos h

theorem Measurement.edge_of_not_counts {m : Measurement} {now : Nat} (h : ¬ m.counts now = true) :
    m.edge now = m :=
  if_neg h

/-- An update that leaves any measurement in progress as it is leaves the state as it is. -/
theorem modMeas_of_fixed {s : State} {f : Measurement → Measurement} (h : s.lane.meas.map f = s.lane.meas) :
    s.modMeas f = s := by
  unfold State.modMeas
  rw [h]

/-- The measurement in progress is replaced by its update. -/
theorem modMeas_of_some {s : State} {m : Measurement} (f : Measurement → Measurement) (h : s.lane.meas = some m) :
    s.modMeas f = { s with lane := { s.lane with meas := some (f m) } } := by
  unfold State.modMeas
  rw [h, Option.map_some]

/-- The running part gives the edge to the measurement; the sign has nothing to do. -/
theorem exec_treadleEdge_of_running {s : State} (h : s.Running) :
    exec .treadleEdge s = .next (s.modMeas fun m => m.edge s.laneTime) := by
  rw [exec_treadleEdge, event_same h (modMeas_disp ..) (signStatus_congr rfl rfl rfl)]

/-- Settles O9, by cases on the measurement in progress and on whether it counts the edge. -/
theorem treadleEdgeCountsAxle : Obligations.TreadleEdgeCountsAxle := by
  intro s hs
  rw [exec_treadleEdge_of_running hs]
  cases hm : s.lane.meas with
  | none => rw [modMeas_of_fixed (by rw [hm, Option.map_none])]
  | some m =>
    by_cases hc : m.counts s.laneTime = true
    · simp only [if_pos ((m.counts_iff s.laneTime).1 hc)]
      rw [modMeas_of_some _ hm, Measurement.edge_of_counts hc]
    · simp only [if_neg (mt (m.counts_iff s.laneTime).2 hc)]
      rw [modMeas_of_fixed (by rw [hm, Option.map_some, Measurement.edge_of_not_counts hc])]

end Sys2Proof.Machine
end

section
/-! A request's bytes (R186): a field read back from the place where it was written, and the round trip of the two
requests that change the Haulier Table. -/

namespace Sys2Proof.Machine

/-- What `be` writes in `k` bytes is the number's residue that fits them (R186). -/
theorem num_be (k n : Nat) : num (be k n) = n % 256 ^ k := by
  induction k generalizing n with
  | zero => simp [be, num, Nat.mod_one]
  | succ k ih =>
    have hstep : num (be (k + 1) n) = num (be k (n / 256)) * 256 + n % 256 := by
      simp [be, num, List.foldl_append, BitVec.toNat_ofNat]
    rw [hstep, ih, pow_succ', Nat.mod_mul]
    omega

/-- A field of whole bytes, written most significant byte first, reads back as it was (R186). -/
theorem bitsAt_of_drop {w k off : Nat} {l rest : List Byte} (x : BitVec w) (hw : w = 8 * k)
    (h : l.drop off = be k x.toNat ++ rest) : bitsAt w l off = x := by
  have hx : x.toNat < 256 ^ k := by simpa [hw, pow_mul] using x.isLt
  have hk : w / 8 = k := by omega
  have hfield : field l off k = x.toNat := by
    rw [field, h, List.take_left' (Laws.RequestLength.be_length ..), num_be, Nat.mod_eq_of_lt hx]
  rw [bitsAt, hk, hfield, BitVec.ofNat_toNat, BitVec.setWidth_eq]

theorem be_one_toNat (b : Byte) : be 1 b.toNat = [b] := by
  simp [be]

/-- A one-byte field reads as the byte at its place. -/
theorem bitsAt_byte {off : Nat} {l rest : List Byte} (b : Byte) (h : l.drop off = b :: rest) : bitsAt 8 l off = b :=
  bitsAt_of_drop (k := 1) b rfl (by rw [h, be_one_toNat]; rfl)

theorem requestOf_haulierPut (h st : Byte) (d : BitVec 16) (l : BitVec 32) (q : Byte) :
    requestOf (Request.haulierPut h st d l q).kind (Request.haulierPut h st d l q).payload =
      some (.haulierPut h st d l q) := by
  refine congrArg some ((Request.haulierPut.injEq ..).mpr ⟨?_, ?_, ?_, ?_, ?_⟩)
  · exact bitsAt_byte h rfl
  · exact bitsAt_byte st rfl
  · exact bitsAt_of_drop (k := 2) d rfl rfl
  · exact bitsAt_of_drop (k := 4) l rfl rfl
  · exact bitsAt_byte q rfl

theorem requestOf_haulierDrop (h : Byte) :
    requestOf (Request.haulierDrop h).kind (Request.haulierDrop h).payload = some (.haulierDrop h) :=
  congrArg (fun b => some (Request.haulierDrop b)) (bitsAt_byte (l := [h]) h rfl)

end Sys2Proof.Machine
end

section
/-! A request at a port that is ready for it (R176, R177): its frame is taken at once, no test of R176 refuses it, and
the sign has nothing to do. -/

namespace Sys2Proof.Machine

variable {s t : State} {p : Port} {c : Instr} {r : Request} {a : Reply}

theorem modLink_modLink (s : State) (p : Port) (f g : Link → Link) :
    (s.modLink p f).modLink p g = s.modLink p fun l => g (f l) := by
  cases p <;> rfl

/-- While the part runs, a right frame of a request comes to the rule of the request (R176). -/
theorem respond_rightFrame (hs : s.part.phase = .running) (hr : requestOf r.kind r.payload = some r) :
    s.respond p (rightFrame r.kind r.payload) = s.serve p r := by
  have hup : s.startingUp = false := by simp [State.startingUp, hs]
  simp [State.respond, rightFrame, hup, Laws.RequestLength.payload_length, hr]

/-- A port that sends no reply and holds no request takes a frame at once (R177). -/
theorem frameArrives_of_idle (f : Frame) (hreply : (s.links.get p).reply = none)
    (hheld : (s.links.get p).held = none) : s.frameArrives p f = (s.abandonFrame p).takeRequest p f := by
  simp [State.frameArrives, State.receive, State.abandonFrame, hreply, hheld]

/-- A taken request whose rule leads to `t` and answers `a`: the reply begins on `t`. -/
theorem takeRequest_of_serve (hs : s.part.phase = .running) (hr : requestOf r.kind r.payload = some r)
    (hserve : (s.abandonFrame p).serve p r = (t.abandonFrame p, a)) (ht : t.timebase = s.timebase) :
    (s.abandonFrame p).takeRequest p (rightFrame r.kind r.payload) = t.replying p r a := by
  have hresp : (s.abandonFrame p).respond p (rightFrame r.kind r.payload) = (t.abandonFrame p, a) := by
    rw [respond_rightFrame (by exact hs) hr, hserve]
  simp only [State.takeRequest, hresp]
  simp only [State.abandonFrame, modLink_modLink, modLink_timebase, State.replying, ht, rightFrame]

/-- A request at a ready port, where its rule leads to `t` and leaves the sign memory and its inputs alone. -/
theorem exec_of_serve (hc : c.request = some (p, r)) (hs : s.Ready p) (hr : requestOf r.kind r.payload = some r)
    (hserve : (s.abandonFrame p).serve p r = (t.abandonFrame p, a)) (ht : t.timebase = s.timebase)
    (hl : t.disp.lines = s.disp.lines) (hst : t.disp.status = s.disp.status) (hsign : t.signStatus = s.signStatus) :
    exec c s = .next (t.replying p r a) := by
  obtain ⟨hrun, hreply, hheld, hstatus⟩ := hs
  have hon : s.part.phase ≠ .off := by rw [hrun]; decide
  rw [exec_request c s p r hc, State.hostRequest, portCommand_powered hon, frameArrives_of_idle _ hreply hheld,
    takeRequest_of_serve hrun hr hserve ht]
  exact congrArg _ (settleSign_same hl hst (hst.trans (hstatus.trans hsign.symm)))

/-- A request at a ready port whose rule changes nothing: a refusal, or a reading. -/
theorem exec_of_serve_same (hc : c.request = some (p, r)) (hs : s.Ready p)
    (hr : requestOf r.kind r.payload = some r)
    (hserve : (s.abandonFrame p).serve p r = (s.abandonFrame p, a)) : exec c s = .next (s.replying p r a) :=
  exec_of_serve hc hs hr hserve rfl rfl rfl rfl

end Sys2Proof.Machine
end

section
/-! The Haulier Table (R42, R43): what HAULIER_PUT and HAULIER_DROP make of each case, and the meaning of their rows. -/

namespace Sys2Proof.Machine

variable {s : State} {p : Port}

/-! ### The owner test and the operands -/

theorem owns_iff : s.owns p = true ↔ s.water.owner = some p := by
  simp [State.owns]

theorem haulierOf_of_lt {n : Nat} (h : n < 64) : haulierOf n = some ⟨n, h⟩ :=
  dif_pos h

theorem haulierOf_of_ge {n : Nat} (h : 64 ≤ n) : haulierOf n = none :=
  dif_neg (Nat.not_lt.2 h)

/-- The account state of a HAULIER PUT: 0 is OPEN, 1 ON-STOP, and there is no other (R42). -/
theorem accountStateOf_eq (n : Nat) :
    accountStateOf n = if n < 2 then some (if n = 0 then .opened else .onStop) else none := by
  match n with
  | 0 => rfl
  | 1 => rfl
  | n + 2 => simp [accountStateOf]

/-- An entry is named exactly when each of its four fields is in range (R42). -/
theorem haulierEntryOf_eq (st d l q : Nat) :
    haulierEntryOf st d l q =
      if st < 2 ∧ d ≤ 500 ∧ l ≤ 99999999 ∧ q ≤ 15 then
        some { state := if st = 0 then .opened else .onStop, discount := d, limit := l, quota := q }
      else none := by
  by_cases h : st < 2 <;> simp [haulierEntryOf, accountStateOf_eq, h]

/-- The code of the account state that a number named is that number again (R186). -/
theorem ctorIdx_accountState {n : Nat} (h : n < 2) :
    (if n = 0 then AccountState.opened else .onStop).ctorIdx = n := by
  split <;> simp only [AccountState.ctorIdx] <;> omega

/-! ### HAULIER_PUT -/

/-- The bytes of an entry just put show it and the haulier's balance (R42). -/
theorem haulierBytes_putHaulier (s : State) (h : Haulier) (e : HaulierEntry) :
    (s.putHaulier h e).haulierBytes h =
      be 1 e.state.ctorIdx ++ be 2 e.discount ++ be 4 e.limit ++ be 1 e.quota ++ be 4 s.journal.balances[h] := by
  simp [State.haulierBytes, State.putHaulier, State.requestPass, putAt]

theorem doHaulierPut_of_not_owner (h st d l q : Nat) (ho : s.water.owner ≠ some p) :
    s.doHaulierPut p h st d l q = (s, refuse .notOwner) := by
  simp [State.doHaulierPut, mt owns_iff.1 ho]

theorem doHaulierPut_of_out_of_range {h st d l q : Nat} (ho : s.water.owner = some p)
    (hr : 64 ≤ h ∨ 2 ≤ st ∨ 500 < d ∨ 99999999 < l ∨ 15 < q) :
    s.doHaulierPut p h st d l q = (s, refuse .badArgument) := by
  by_cases hh : h < 64
  · have he : haulierEntryOf st d l q = none := by rw [haulierEntryOf_eq, if_neg (by omega)]
    simp [State.doHaulierPut, owns_iff.2 ho, haulierOf_of_lt hh, he]
  · simp [State.doHaulierPut, owns_iff.2 ho, haulierOf_of_ge (Nat.not_lt.1 hh)]

theorem doHaulierPut_of_in_range {h st d l q : Nat} (ho : s.water.owner = some p) (hh : h < 64)
    (hr : st < 2 ∧ d ≤ 500 ∧ l ≤ 99999999 ∧ q ≤ 15) :
    s.doHaulierPut p h st d l q =
      (s.putHaulier ⟨h, hh⟩ { state := if st = 0 then .opened else .onStop, discount := d, limit := l, quota := q },
        accept (be 1 st ++ be 2 d ++ be 4 l ++ be 1 q ++ be 4 s.journal.balances[h])) := by
  simp only [State.doHaulierPut, owns_iff.2 ho, haulierOf_of_lt hh, haulierEntryOf_eq, if_pos hr,
    haulierBytes_putHaulier, ctorIdx_accountState hr.1]
  rfl

/-! ### HAULIER_DROP -/

/-- The held visits that carry a haulier, counted by the haulier's number. -/
theorem visitsOf_eq (s : State) (h : Haulier) :
    s.visitsOf h = s.heldVisits.countP fun v => v.haulier.map (·.val) = some h.val := by
  refine List.countP_congr fun v _ => ?_
  simp [← Fin.ext_iff, Option.map_eq_some_iff]

theorem visitsOf_eq_zero_iff (s : State) (h : Haulier) :
    s.visitsOf h = 0 ↔ ∀ v ∈ s.heldVisits, v.haulier.map (·.val) ≠ some h.val := by
  simp [visitsOf_eq, List.countP_eq_zero]

theorem doHaulierDrop_of_not_owner (h : Nat) (ho : s.water.owner ≠ some p) :
    s.doHaulierDrop p h = (s, refuse .notOwner) := by
  simp [State.doHaulierDrop, mt owns_iff.1 ho]

theorem doHaulierDrop_of_ge {h : Nat} (ho : s.water.owner = some p) (hh : 64 ≤ h) :
    s.doHaulierDrop p h = (s, refuse .badArgument) := by
  simp [State.doHaulierDrop, owns_iff.2 ho, haulierOf_of_ge hh]

/-- What the owner's HAULIER_DROP of a haulier does, test by test (R43). -/
theorem doHaulierDrop_of_lt {h : Nat} (ho : s.water.owner = some p) (hh : h < 64) :
    s.doHaulierDrop p h =
      if h = 0 then (s, refuse .badArgument)
      else if s.hauliers[h].state = .closed then (s, refuse .refusedState)
      else if s.journal.balances[h] ≠ 0 ∨ s.visitsOf ⟨h, hh⟩ ≠ 0 then
        (s, answer .inUse (be 4 s.journal.balances[h] ++ be 1 (s.visitsOf ⟨h, hh⟩)))
      else (s.putHaulier ⟨h, hh⟩ { s.hauliers[h] with state := .closed }, accept []) := by
  have hzero : (⟨h, hh⟩ : Haulier) = 0 ↔ h = 0 := Fin.ext_iff
  simp only [State.doHaulierDrop, owns_iff.2 ho, haulierOf_of_lt hh, hzero]
  rfl

theorem doHaulierDrop_of_zero {h : Nat} (ho : s.water.owner = some p) (h0 : h = 0) :
    s.doHaulierDrop p h = (s, refuse .badArgument) := by
  rw [doHaulierDrop_of_lt ho (by omega), if_pos h0]

theorem doHaulierDrop_of_closed {h : Nat} (ho : s.water.owner = some p) (hh : h < 64) (h0 : h ≠ 0)
    (hc : s.hauliers[h].state = .closed) : s.doHaulierDrop p h = (s, refuse .refusedState) := by
  rw [doHaulierDrop_of_lt ho hh, if_neg h0, if_pos hc]

/-- A balance, or held visits that carry the haulier, keep its account from being closed (R43). -/
theorem doHaulierDrop_of_in_use {h : Nat} (ho : s.water.owner = some p) (hh : h < 64) (h0 : h ≠ 0)
    (hc : s.hauliers[h].state ≠ .closed)
    (hu : s.journal.balances[h] ≠ 0 ∨ ∃ v ∈ s.heldVisits, v.haulier.map (·.val) = some h) :
    s.doHaulierDrop p h =
      (s, answer .inUse (be 4 s.journal.balances[h] ++
        be 1 (s.heldVisits.countP fun v => v.haulier.map (·.val) = some h))) := by
  have hu' : s.journal.balances[h] ≠ 0 ∨ s.visitsOf ⟨h, hh⟩ ≠ 0 := by
    refine hu.imp_right fun ⟨v, hv, hvh⟩ hz => ?_
    exact (visitsOf_eq_zero_iff s _).1 hz v hv hvh
  rw [doHaulierDrop_of_lt ho hh, if_neg h0, if_neg hc, if_pos hu', visitsOf_eq]

theorem doHaulierDrop_of_unused {h : Nat} (ho : s.water.owner = some p) (hh : h < 64) (h0 : h ≠ 0)
    (hc : s.hauliers[h].state ≠ .closed) (hb : s.journal.balances[h] = 0)
    (hv : ∀ v ∈ s.heldVisits, v.haulier.map (·.val) ≠ some h) :
    s.doHaulierDrop p h = (s.putHaulier ⟨h, hh⟩ { s.hauliers[h] with state := .closed }, accept []) := by
  have hu : ¬(s.journal.balances[h] ≠ 0 ∨ s.visitsOf ⟨h, hh⟩ ≠ 0) :=
    not_or.2 ⟨not_not.2 hb, not_not.2 ((visitsOf_eq_zero_iff s _).2 hv)⟩
  rw [doHaulierDrop_of_lt ho hh, if_neg h0, if_neg hc, if_neg hu]

/-! ### The rows -/

/-- A request at a ready port whose rule puts one entry: the pass-request mark it sets is not of the sign memory. -/
theorem exec_of_putHaulier {c : Instr} {r : Request} {a : Reply} {h : Haulier} {e : HaulierEntry}
    (hc : c.request = some (p, r)) (hs : s.Ready p) (hr : requestOf r.kind r.payload = some r)
    (hserve : (s.abandonFrame p).serve p r = ((s.abandonFrame p).putHaulier h e, a)) :
    exec c s = .next ((s.putHaulier h e).replying p r a) :=
  exec_of_serve hc hs hr hserve rfl rfl rfl rfl

/-- HAULIER_PUT at a ready port, where its rule changes nothing. -/
theorem exec_haulierPut_same {h st : Byte} {d : BitVec 16} {l : BitVec 32} {q : Byte} {a : Reply} (hs : s.Ready p)
    (hput : (s.abandonFrame p).doHaulierPut p h.toNat st.toNat d.toNat l.toNat q.toNat = (s.abandonFrame p, a)) :
    exec (.haulierPut p h st d l q) s = .next (s.replying p (.haulierPut h st d l q) a) :=
  exec_of_serve_same rfl hs (requestOf_haulierPut ..) hput

/-- HAULIER_DROP at a ready port, where its rule changes nothing. -/
theorem exec_haulierDrop_same {h : Byte} {a : Reply} (hs : s.Ready p)
    (hdrop : (s.abandonFrame p).doHaulierDrop p h.toNat = (s.abandonFrame p, a)) :
    exec (.haulierDrop p h) s = .next (s.replying p (.haulierDrop h) a) :=
  exec_of_serve_same rfl hs (requestOf_haulierDrop h) hdrop

/-- Settles O26, by the owner test and then the cases of R42 and R43. -/
theorem haulierTableChanges : Obligations.HaulierTableChanges := by
  refine ⟨fun p h st d l q s hs => ⟨fun ho => ?put_not_owner, fun ho => ⟨fun hr => ?put_refused,
      fun hh hst hd hl hq => ?put_accepted⟩⟩,
    fun p h s hs hh => ?drop_no_haulier,
    fun p h hh s hs => ⟨fun ho => ?drop_not_owner, fun ho => ⟨fun h0 => ?drop_zero, fun h0 hc => ?drop_closed,
      fun h0 hc => ⟨fun hu => ?drop_in_use, fun hb hv => ?drop_accepted⟩⟩⟩⟩
  case put_not_owner => exact exec_haulierPut_same hs (doHaulierPut_of_not_owner _ _ _ _ _ ho)
  case put_refused => exact exec_haulierPut_same hs (doHaulierPut_of_out_of_range ho hr)
  case put_accepted =>
    have hput := doHaulierPut_of_in_range (s := s.abandonFrame p) ho hh ⟨hst, hd, hl, hq⟩
    exact exec_of_putHaulier (c := .haulierPut p h st d l q) rfl hs (requestOf_haulierPut ..) hput
  case drop_no_haulier =>
    split
    next ho => exact exec_haulierDrop_same hs (doHaulierDrop_of_ge ho hh)
    next ho => exact exec_haulierDrop_same hs (doHaulierDrop_of_not_owner _ ho)
  case drop_not_owner => exact exec_haulierDrop_same hs (doHaulierDrop_of_not_owner _ ho)
  case drop_zero => exact exec_haulierDrop_same hs (doHaulierDrop_of_zero ho h0)
  case drop_closed => exact exec_haulierDrop_same hs (doHaulierDrop_of_closed ho hh h0 hc)
  case drop_in_use => exact exec_haulierDrop_same hs (doHaulierDrop_of_in_use (s := s.abandonFrame p) ho hh h0 hc hu)
  case drop_accepted =>
    have hdrop := doHaulierDrop_of_unused (s := s.abandonFrame p) ho hh h0 hc hb hv
    exact exec_of_putHaulier (c := .haulierDrop p h) rfl hs (requestOf_haulierDrop h) hdrop

end Sys2Proof.Machine
end

section
/-! What every command keeps, whatever its state: the commands that wait, the bounds of the Resource Table (R96), the
capacities of the collections, sound pages (R144, R145), distinct visit numbers (R21) and attention lines that follow
latch and mask (R182). One preorder on states, and one lemma for each named update of State. -/

namespace Sys2Proof.Machine

/-! ### The invariants, block by block -/

/-- The bounds of R96, of a Resource Table. -/
def Resources.Bounded (w : Resources) : Prop :=
  w.fresh ≤ 262143 ∧ w.overdraw ≤ 262143 ∧ w.preload ≤ 262143

theorem waterBounded_iff {s : State} : s.WaterBounded ↔ s.water.Bounded := Iff.rfl

/-- The pages of a journal are sound (R144, R145). -/
def Journal.Sound (j : Journal) : Prop :=
  (∀ pg, j.openPage = some pg → j.pages[pg].records.length < 16) ∧
    ∀ i : PageNo, j.pages[i].state = .free → j.pages[i].records = []

theorem pagesSound_iff {s : State} : s.PagesSound ↔ s.journal.Sound := Iff.rfl

/-- The attention line of a port follows its latch and mask (R182). -/
def Link.Follows (l : Link) : Prop :=
  l.attention = l.wantsAttention

theorem Link.wantsAttention_iff (l : Link) :
    l.wantsAttention = true ↔ ∃ k : Fin 29, (l.latch[k]).isSome = true ∧ l.mask.getLsbD k.val = true := by
  simp [Link.wantsAttention]

theorem attentionFollows_iff {s : State} : s.AttentionFollows ↔ ∀ p, (s.links.get p).Follows := by
  refine forall_congr' fun p => ?_
  rw [← Link.wantsAttention_iff]
  exact Bool.eq_iff_iff.symm

/-- The number of the visit that a bay's record holds. -/
def BayUnit.held (u : BayUnit) : Option Nat :=
  (u.record.bind (·.visit)).map (·.number)

/-- The numbers of the held visits: those of the queue, then those of the bays. -/
theorem heldVisits_numbers (s : State) :
    s.heldVisits.map (·.number) = s.queue.map (·.number) ++ allBays.filterMap fun b => (s.bays.get b).held := by
  simp [State.heldVisits, State.bayVisits, List.map_filterMap, BayUnit.held, State.record]

theorem mem_allBays (b : Bay) : b ∈ allBays := by
  cases b <;> decide

/-- The held numbers are distinct: those queued, none of them in a bay, and no two bays with the same. -/
theorem visitsDistinct_iff (s : State) :
    s.VisitsDistinct ↔ (s.queue.map (·.number)).Nodup ∧
      (∀ b n, (s.bays.get b).held = some n → n ∉ s.queue.map (·.number)) ∧
      ∀ b c n, (s.bays.get b).held = some n → (s.bays.get c).held = some n → b = c := by
  have hbays : (allBays.filterMap fun b => (s.bays.get b).held).Nodup ↔
      ∀ b c n, (s.bays.get b).held = some n → (s.bays.get c).held = some n → b = c := by
    rw [List.Nodup, List.pairwise_filterMap]
    constructor
    · intro h b c n hb hc
      by_contra hne
      have hsymm : Std.Symm fun b c : Bay => ∀ m, (s.bays.get b).held = some m → ∀ k, (s.bays.get c).held = some k → m ≠ k :=
        ⟨fun _ _ hbc m hm k hk => (hbc k hk m hm).symm⟩
      exact h.forall (mem_allBays b) (mem_allBays c) hne n hb n hc rfl
    · intro h
      refine List.Nodup.pairwise_of_forall_ne (by decide) fun b _ c _ hne n hb m hc hnm => ?_
      exact hne (h b c n hb (hnm ▸ hc))
  rw [State.VisitsDistinct, heldVisits_numbers, List.nodup_append, hbays]
  refine and_congr_right fun _ => ?_
  rw [and_comm]
  refine and_congr_left fun _ => ⟨fun h b n hb hn => h n hn n ?_ rfl, fun h n hn m hm hnm => ?_⟩
  · exact List.mem_filterMap.2 ⟨b, mem_allBays b, hb⟩
  · obtain ⟨b, _, hb⟩ := List.mem_filterMap.1 hm
    exact h b m hb (hnm ▸ hn)

/-- Numbers stay distinct when visits only leave: from the queue, or from a bay's record. -/
theorem visitsDistinct_of_shrink {s t : State} (hq : (t.queue.map (·.number)).Sublist (s.queue.map (·.number)))
    (hb : ∀ b n, (t.bays.get b).held = some n → (s.bays.get b).held = some n) (h : s.VisitsDistinct) :
    t.VisitsDistinct := by
  obtain ⟨hnodup, hqueue, hbay⟩ := (visitsDistinct_iff s).1 h
  exact (visitsDistinct_iff t).2 ⟨hnodup.sublist hq, fun b n hn hmem => hqueue b n (hb b n hn) (hq.subset hmem),
    fun b c n hn hm => hbay b c n (hb b n hn) (hb c n hm)⟩

/-! ### The preorder -/

/-- From one state to another nothing that every command keeps has been lost. -/
structure State.Keeps (s t : State) : Prop where
  pending : t.pending = s.pending
  water : s.water.Bounded → t.water.Bounded
  capacity : s.WithinCapacity → t.WithinCapacity
  pages : s.journal.Sound → t.journal.Sound
  visits : s.VisitsDistinct → t.VisitsDistinct
  links : (∀ p, (s.links.get p).Follows) → ∀ p, (t.links.get p).Follows

variable {s t u : State}

theorem State.Keeps.refl (s : State) : s.Keeps s :=
  ⟨rfl, id, id, id, id, id⟩

theorem State.Keeps.trans (h : s.Keeps t) (h' : t.Keeps u) : s.Keeps u :=
  ⟨h'.pending.trans h.pending, h'.water ∘ h.water, h'.capacity ∘ h.capacity, h'.pages ∘ h.pages, h'.visits ∘ h.visits,
    h'.links ∘ h.links⟩

/-- The held numbers depend on the queue and the bays alone. -/
theorem visitsDistinct_congr (hq : t.queue = s.queue) (hb : t.bays = s.bays) (h : s.VisitsDistinct) :
    t.VisitsDistinct :=
  visitsDistinct_of_shrink (by rw [hq]) (fun b n => by rw [hb]; exact id) h

/-- A change outside all that the invariants read. -/
theorem State.Keeps.of_eq (hp : t.pending = s.pending) (hw : t.water = s.water) (hj : t.journal = s.journal)
    (hl : t.links = s.links) (hq : t.queue = s.queue) (hb : t.bays = s.bays) (hr : t.register = s.register)
    (hwin : t.lane.windows = s.lane.windows) (hrd : t.lane.reads = s.lane.reads) (hd : t.disp.lines = s.disp.lines) :
    s.Keeps t where
  pending := hp
  water := by rw [hw]; exact id
  capacity := by simp only [State.WithinCapacity, hq, hr, hwin, hrd, hd]; exact id
  pages := by rw [hj]; exact id
  visits := visitsDistinct_congr hq hb
  links := by rw [hl]; exact id

/-! ### One lemma for each named update -/

theorem State.Keeps.modMeas (h : s.Keeps t) (f : Measurement → Measurement) : s.Keeps (t.modMeas f) :=
  h.trans (.of_eq rfl rfl rfl rfl rfl rfl rfl rfl rfl rfl)

theorem State.Keeps.requestPass (h : s.Keeps t) : s.Keeps t.requestPass :=
  h.trans (.of_eq rfl rfl rfl rfl rfl rfl rfl rfl rfl rfl)

theorem State.Keeps.modTank (h : s.Keeps t) (i : Tank) (f : TankUnit → TankUnit) : s.Keeps (t.modTank i f) :=
  h.trans (.of_eq rfl rfl rfl rfl rfl rfl rfl rfl rfl rfl)

theorem State.Keeps.modConv (h : s.Keeps t) (f : Converter → Converter) : s.Keeps (t.modConv f) :=
  h.trans (.of_eq rfl rfl rfl rfl rfl rfl rfl rfl rfl rfl)

theorem State.Keeps.modClock (h : s.Keeps t) (f : Clock → Clock) : s.Keeps (t.modClock f) :=
  h.trans (.of_eq rfl rfl rfl rfl rfl rfl rfl rfl rfl rfl)

theorem State.Keeps.modLines (h : s.Keeps t) (f : Lines → Lines) : s.Keeps (t.modLines f) :=
  h.trans (.of_eq rfl rfl rfl rfl rfl rfl rfl rfl rfl rfl)

/-- A change of the Lane Unit that keeps the capacities of windows and reads. -/
theorem State.Keeps.modLane (h : s.Keeps t) (f : Lane → Lane)
    (hw : t.lane.windows.length ≤ 4 → (f t.lane).windows.length ≤ 4)
    (hr : t.lane.reads.length ≤ 8 → (f t.lane).reads.length ≤ 8) : s.Keeps (t.modLane f) :=
  h.trans ⟨rfl, id, fun ⟨hq, hreg, hwin, hrd, hd⟩ => ⟨hq, hreg, hw hwin, hr hrd, hd⟩, id,
    visitsDistinct_congr rfl rfl, id⟩

/-- A change of the Dispatcher that adds no call line. -/
theorem State.Keeps.modDisp (h : s.Keeps t) (f : Dispatcher → Dispatcher)
    (hl : (f t.disp).lines.length ≤ t.disp.lines.length) : s.Keeps (t.modDisp f) :=
  h.trans ⟨rfl, id, fun ⟨hq, hreg, hwin, hrd, hd⟩ => ⟨hq, hreg, hwin, hrd, hl.trans hd⟩, id,
    visitsDistinct_congr rfl rfl, id⟩

/-- A change of the Resource Table that keeps its bounds. -/
theorem State.Keeps.modWater (h : s.Keeps t) (f : Resources → Resources)
    (hf : t.water.Bounded → (f t.water).Bounded) : s.Keeps (t.modWater f) :=
  h.trans ⟨rfl, hf, id, id, visitsDistinct_congr rfl rfl, id⟩

/-- A change of the journal that keeps its pages sound. -/
theorem State.Keeps.modJournal (h : s.Keeps t) (f : Journal → Journal) (hf : t.journal.Sound → (f t.journal).Sound) :
    s.Keeps (t.modJournal f) :=
  h.trans ⟨rfl, id, id, hf, visitsDistinct_congr rfl rfl, id⟩

/-- A change of a bay that brings no visit into its record. -/
theorem State.Keeps.modBay (h : s.Keeps t) (b : Bay) (f : BayUnit → BayUnit)
    (hf : ∀ n, (f (t.bays.get b)).held = some n → (t.bays.get b).held = some n) : s.Keeps (t.modBay b f) := by
  refine h.trans ⟨rfl, id, id, id, visitsDistinct_of_shrink (.refl _) fun c n hn => ?_, id⟩
  by_cases hc : c = b
  · subst hc
    exact hf n (by simpa [State.modBay] using hn)
  · simpa [State.modBay, hc] using hn

/-- A change of a work record that keeps the number of its visit. -/
theorem State.Keeps.modRecord (h : s.Keeps t) (b : Bay) (f : WorkRecord → WorkRecord)
    (hf : ∀ r, (f r).visit.map (·.number) = r.visit.map (·.number)) : s.Keeps (t.modRecord b f) := by
  refine h.modBay b _ fun n hn => ?_
  revert hn
  cases hr : (t.bays.get b).record with
  | none => simp [BayUnit.held, hr]
  | some r => simp only [BayUnit.held, hr, Option.map_some, Option.bind_some, hf]; exact id

/-- A change of a link that keeps its attention line following. -/
theorem State.Keeps.modLink (h : s.Keeps t) (p : Port) (f : Link → Link)
    (hf : (t.links.get p).Follows → (f (t.links.get p)).Follows) : s.Keeps (t.modLink p f) := by
  refine h.trans ⟨rfl, id, id, id, visitsDistinct_congr rfl rfl, fun hl q => ?_⟩
  by_cases hq : q = p
  · subst hq
    simpa [State.modLink] using hf (hl q)
  · simpa [State.modLink, hq] using hl q

theorem State.Keeps.latch (h : s.Keeps t) (e : Event) : s.Keeps (t.latch e) :=
  h.trans ⟨rfl, id, id, id, visitsDistinct_congr rfl rfl, fun _ p => by cases p <;> rfl⟩

/-- What each step of a fold keeps, the fold keeps. -/
theorem State.Keeps.foldl {α : Type} {f : State → α → State} (hf : ∀ t x, s.Keeps t → s.Keeps (f t x)) (l : List α) :
    ∀ t, s.Keeps t → s.Keeps (l.foldl f t) := by
  induction l with
  | nil => exact fun _ h => h
  | cons x l ih => exact fun t h => ih _ (hf t x h)

end Sys2Proof.Machine
end

section
/-! The pages of the journal stay sound (R144, R145) through appends, releases, the release walk and its reclaim pass. -/

namespace Sys2Proof.Machine

variable {j : Journal}

@[simp] theorem getElem_val_putAt_self {α : Type} {n : Nat} (v : Vector α n) (i : Fin n) (x : α) :
    (putAt v i x)[i.val] = x := by
  simp [putAt]

theorem getElem_putAt_self {α : Type} {n : Nat} (v : Vector α n) (i : Fin n) (x : α) : (putAt v i x)[i] = x :=
  getElem_val_putAt_self v i x

theorem getElem_putAt_ne {α : Type} {n : Nat} (v : Vector α n) {i k : Fin n} (x : α) (h : k ≠ i) :
    (putAt v i x)[k] = v[k] := by
  have hv : i.val ≠ k.val := fun e => h (Fin.ext e).symm
  simp [putAt, Vector.getElem_set_ne _ _ hv]

theorem getElem_putAt {α : Type} {n : Nat} (v : Vector α n) (i k : Fin n) (x : α) :
    (putAt v i x)[k] = if k = i then x else v[k] := by
  split
  next h => rw [h, getElem_putAt_self]
  next h => exact getElem_putAt_ne v x h

theorem Journal.openPage_eq_some {pg : PageNo} :
    j.openPage = some pg ↔ pg = j.newest ∧ j.pages[j.newest].state = .opened := by
  unfold Journal.openPage
  split <;> simp_all [eq_comm]

/-- Soundness, of the newest page and of each page. -/
theorem Journal.sound_iff : j.Sound ↔ (j.pages[j.newest].state = .opened → j.pages[j.newest].records.length < 16) ∧
    ∀ i : PageNo, j.pages[i].state = .free → j.pages[i].records = [] := by
  simp only [Journal.Sound, Journal.openPage_eq_some]
  refine and_congr_left fun _ => ⟨fun h ho => h _ ⟨rfl, ho⟩, ?_⟩
  rintro h pg ⟨rfl, ho⟩
  exact h ho

/-- Only the pages and the number of the newest matter. -/
theorem Journal.Sound.congr {k : Journal} (h : j.Sound) (hp : k.pages = j.pages) (hn : k.newest = j.newest) : k.Sound := by
  rw [sound_iff] at h ⊢
  simpa only [hp, hn] using h

/-- One page replaced: it is sound if the page is, by what it is in the ring. -/
theorem Journal.Sound.putPage {k : Journal} (h : j.Sound) {i : PageNo} {pg : JournalPage}
    (hp : k.pages = putAt j.pages i pg) (hn : k.newest = j.newest)
    (ho : i = j.newest → pg.state = .opened → pg.records.length < 16) (hf : pg.state = .free → pg.records = []) :
    k.Sound := by
  rw [sound_iff] at h ⊢
  obtain ⟨hopen, hfree⟩ := h
  simp only [hp, hn, getElem_putAt]
  constructor
  · split
    next e => exact ho e.symm
    next => exact hopen
  · intro c
    split
    next => exact hf
    next => exact hfree c

/-- The page that becomes OPEN has an unused slot, so soundness asks nothing of the page that was the newest. -/
theorem Journal.Sound.becomeOpen (h : ∀ i : PageNo, j.pages[i].state = .free → j.pages[i].records = []) {p : PageNo}
    (hp : j.pages[p].records.length < 16) : (j.becomeOpen p).Sound := by
  rw [sound_iff]
  simp only [Journal.becomeOpen, getElem_putAt]
  refine ⟨fun _ => by simpa using hp, fun c => ?_⟩
  split
  next => simp
  next => exact h c

theorem Journal.Sound.closeFull (hf : ∀ i : PageNo, j.pages[i].state = .free → j.pages[i].records = []) {p : PageNo}
    (hn : p = j.newest) (hle : j.pages[p].records.length ≤ 16) (ho : j.pages[p].state = .opened) :
    (j.closeFull p).Sound := by
  unfold Journal.closeFull
  have hfree : ∀ i : PageNo, (putAt j.pages p { j.pages[p] with state := .closed })[i].state = .free →
      (putAt j.pages p { j.pages[p] with state := .closed })[i].records = [] := by
    intro i
    rw [getElem_putAt]
    split
    next => simp
    next => exact hf i
  split
  next hfull =>
    dsimp only
    split
    next hnext => exact .becomeOpen hfree (by rw [hfree _ hnext]; simp)
    next => exact sound_iff.2 ⟨by simp [hn], hfree⟩
  next hfull =>
    have h16 : j.pages[p].records.length ≠ 16 := hfull
    exact sound_iff.2 ⟨fun _ => by subst hn; omega, hf⟩

theorem Journal.Sound.append (h : j.Sound) (mk : BitVec 24 → Record) : (j.append mk).Sound := by
  unfold Journal.append
  split
  next => exact h
  next p hp =>
    obtain ⟨rfl, ho⟩ := openPage_eq_some.1 hp
    obtain ⟨hlt, hf⟩ := sound_iff.1 h
    refine .closeFull (fun i => ?_) rfl ?_ ?_
    · rw [getElem_putAt]
      split
      next e => exact fun hfree => absurd (ho.symm.trans hfree) (by decide)
      next => exact hf i
    · have := hlt ho
      simp only [getElem_putAt_self, List.length_append, List.length_singleton]
      omega
    · rw [getElem_putAt_self]
      exact ho

theorem Journal.Sound.freeOne (h : j.Sound) (p : PageNo) : (j.freeOne p).Sound := by
  have hput : ∀ c, ({ j with pages := putAt j.pages p freePage, cursors := c } : Journal).Sound := fun c =>
    h.putPage rfl rfl (by simp [freePage]) (by simp [freePage])
  unfold Journal.freeOne
  dsimp only
  split
  next => exact .becomeOpen (sound_iff.1 (hput _)).2 (by simp [freePage])
  next => exact hput _

theorem Journal.Sound.reclaim : ∀ (n : Nat) (p : PageNo) {j : Journal}, j.Sound → (Journal.reclaim n p j).1.Sound
  | 0, _, _, h => h
  | n + 1, p, j, h => by
    unfold Journal.reclaim
    split
    next => exact reclaim n (p + 1) (h.freeOne p)
    next => exact h

theorem Journal.Sound.judgePage (h : j.Sound) (w : Walk) : (j.judgePage w).1.Sound := by
  unfold Journal.judgePage
  dsimp only
  split
  next => exact h
  next =>
    split
    next => exact h
    next => exact h.putPage rfl rfl (by simp) (by simp)
    next => exact h

theorem Journal.Sound.walkOn (h : j.Sound) (w : Walk) : (j.walkOn w).Sound := by
  unfold Journal.walkOn
  dsimp only
  split <;> exact (h.judgePage w).congr rfl rfl

theorem Journal.sound_journalFactory : journalFactory.Sound := by
  rw [sound_iff]
  refine ⟨fun _ => by simp [journalFactory, putAt], fun i => ?_⟩
  simp only [journalFactory, getElem_putAt]
  split <;> simp [freePage]

end Sys2Proof.Machine
end

section
/-! What every command keeps: the operations that blocks share, of the journal, the bays, the water and the sign. -/

namespace Sys2Proof.Machine

variable {s t : State}

/-- A bay whose record has been changed, the visit in it being the same, holds the same number. -/
theorem BayUnit.held_of_map {u v : BayUnit} {f : WorkRecord → WorkRecord} (h : v.record = u.record.map f)
    (hf : ∀ r, (f r).visit = r.visit) : v.held = u.held := by
  cases hr : u.record <;> simp [BayUnit.held, h, hr, hf]

/-- A bay without a record, or with one that holds no visit, holds no number. -/
theorem BayUnit.held_eq_none {u : BayUnit} (h : u.record.bind (·.visit) = none) : u.held = none := by
  rw [BayUnit.held, h, Option.map_none]

/-- A bay emptied of its record brings no visit in. -/
theorem held_none_imp {u v : BayUnit} (h : u.record.bind (·.visit) = none) (n : Nat) (hn : u.held = some n) :
    v.held = some n := by
  rw [BayUnit.held_eq_none h] at hn
  exact absurd hn (by simp)

/-! ### The journal -/

theorem State.Keeps.judgeLow (h : s.Keeps t) : s.Keeps t.judgeLow := by
  unfold State.judgeLow
  split
  · exact h
  · split
    · split
      · exact (h.modJournal _ (by exact fun hj => hj.congr rfl rfl)).latch _
      · exact h
    · exact h.modJournal _ (by exact fun hj => hj.congr rfl rfl)

theorem State.Keeps.reserve (h : s.Keeps t) : s.Keeps t.reserve :=
  (h.modJournal _ (by exact fun hj => hj.congr rfl rfl)).judgeLow

theorem State.Keeps.appendDayClose (h : s.Keeps t) (d : DayClose) : s.Keeps (t.appendDayClose d) :=
  ((h.modJournal _ (by exact fun hj => hj.append _)).latch _).judgeLow

theorem State.Keeps.writePendingClose (h : s.Keeps t) : s.Keeps t.writePendingClose := by
  unfold State.writePendingClose
  split
  · exact h
  · split
    · exact ((h.appendDayClose _).modJournal _ (by exact fun hj => hj.congr rfl rfl)).requestPass
    · exact h

theorem State.Keeps.dropReservation (h : s.Keeps t) : s.Keeps t.dropReservation :=
  (h.modJournal _ (by exact fun hj => hj.congr rfl rfl)).judgeLow.writePendingClose

theorem State.Keeps.deferClose (h : s.Keeps t) (d : DayClose) : s.Keeps (t.deferClose d) :=
  (h.modJournal _ (by exact fun hj => hj.congr rfl rfl)).latch _

theorem State.Keeps.dayCloseNotice (h : s.Keeps t) (d : DayClose) : s.Keeps (t.dayCloseNotice d) := by
  unfold State.dayCloseNotice
  split
  · exact h.deferClose _
  · split
    · exact h.appendDayClose _
    · exact h.deferClose _

theorem State.Keeps.appendCharge (h : s.Keeps t) (c : Charge) : s.Keeps (t.appendCharge c) :=
  ((h.modJournal _ (by exact fun hj => (hj.append _).congr rfl rfl)).modClock _).judgeLow

theorem State.Keeps.takeReclaim (h : s.Keeps t) {r : Journal × Nat} (hr : t.journal.Sound → r.1.Sound) :
    s.Keeps (t.takeReclaim r) := by
  unfold State.takeReclaim
  split
  · exact h.modJournal _ hr
  · exact (h.modJournal _ hr).judgeLow

theorem State.Keeps.endWalk (h : s.Keeps t) (w : Walk) (writes : Bool) : s.Keeps (t.endWalk w writes) := by
  have hr : s.Keeps (t.takeReclaim (t.journal.reclaim 64 t.journal.oldest)) :=
    h.takeReclaim fun hj => hj.reclaim 64 t.journal.oldest
  unfold State.endWalk
  dsimp only
  split
  · exact (hr.writePendingClose.latch _).requestPass
  · exact (hr.latch _).requestPass

theorem State.Keeps.walkStep (h : s.Keeps t) (w : Walk) (writes : Bool) : s.Keeps (t.walkStep w writes) := by
  have hw : s.Keeps (t.modJournal fun j => j.walkOn w) := h.modJournal _ fun hj => hj.walkOn w
  unfold State.walkStep
  dsimp only
  split
  · exact hw.endWalk _ _
  · exact hw

theorem State.Keeps.finishWalk : ∀ (n : Nat) {t : State}, s.Keeps t → s.Keeps (State.finishWalk n t)
  | 0, _, h => h
  | n + 1, t, h => by
    unfold State.finishWalk
    split
    · exact h
    · exact finishWalk n (h.walkStep _ _)

/-! ### RUN, claims and the water-wait list -/

theorem State.Keeps.enterRun (h : s.Keeps t) (b : Bay) : s.Keeps (t.enterRun b) := by
  unfold State.enterRun
  split
  · exact h
  · split
    · exact h.modBay b _ (by exact fun _ hn => (BayUnit.held_of_map rfl (by exact fun _ => rfl)).symm.trans hn)
    · exact h

theorem State.Keeps.endRun (h : s.Keeps t) (b : Bay) (st : PhaseStatus) : s.Keeps (t.endRun b st) :=
  h.modBay b _ (by exact fun _ hn => (BayUnit.held_of_map rfl (by exact fun _ => rfl)).symm.trans hn)

theorem State.Keeps.grant (h : s.Keeps t) (b : Bay) (e : Nat) : s.Keeps (t.grant b e) :=
  ((h.modWater _ (by exact fun ⟨hf, ho, hp⟩ => ⟨(Nat.sub_le ..).trans hf, ho, hp⟩)).modRecord b _ (by exact fun _ => rfl)).enterRun b

theorem State.Keeps.withdraw (h : s.Keeps t) (b : Bay) : s.Keeps (t.withdraw b) :=
  (h.modWater _ (by exact id)).modBay b _ (by exact fun _ => id)

theorem State.Keeps.grantWaiter (h : s.Keeps t) (x : WaitEntry) : s.Keeps (t.grantWaiter x) :=
  (h.withdraw x.bay).grant x.bay x.estimate

theorem State.Keeps.firstFitOver : ∀ (l : List WaitEntry) {t : State}, s.Keeps t → s.Keeps (State.firstFitOver l t)
  | [], _, h => h
  | x :: l, t, h => by
    unfold State.firstFitOver
    split
    · exact firstFitOver l (h.grantWaiter x)
    · exact firstFitOver l h

theorem State.Keeps.firstFit (h : s.Keeps t) : s.Keeps t.firstFit :=
  h.firstFitOver _

/-! ### Settlement -/

theorem State.Keeps.overdrawBy (h : s.Keeps t) (b : Bay) (n : Nat) : s.Keeps (t.overdrawBy b n) := by
  unfold State.overdrawBy
  exact ((h.modWater _ (by exact fun ⟨_, _, hp⟩ => ⟨Nat.zero_le _, Nat.min_le_left .., hp⟩)).latch _).modClock _

theorem State.Keeps.settleClaim (h : s.Keeps t) (b : Bay) (e f : Nat) : s.Keeps (t.settleClaim b e f) := by
  have h₀ : s.Keeps (t.modRecord b fun r => { r with claim := 0 }) := h.modRecord b _ (by exact fun _ => rfl)
  unfold State.settleClaim
  dsimp only
  split
  · exact (h₀.modWater _ (by exact fun ⟨_, ho, hp⟩ => ⟨Nat.min_le_left .., ho, hp⟩)).firstFit
  · split
    · exact h₀.modWater _ (by exact fun ⟨hf, ho, hp⟩ => ⟨(Nat.sub_le ..).trans hf, ho, hp⟩)
    · exact h₀.overdrawBy b _

theorem State.Keeps.enterClaim (h : s.Keeps t) (b : Bay) (k : Nat) : s.Keeps (t.enterClaim b k) :=
  h.modRecord b _ (by exact fun r => by split <;> rfl)

/-! ### Moves between bay states -/

theorem State.Keeps.goIdle (h : s.Keeps t) (b : Bay) : s.Keeps (t.goIdle b) := by
  have hi : s.Keeps (t.modBay b fun u => { u with state := .idle }).requestPass := (h.modBay b _ (by exact fun _ => id)).requestPass
  unfold State.goIdle
  split
  · dsimp only
    split
    · exact hi.latch _
    · exact hi
  · exact h.modBay b _ (by exact fun _ => id)

theorem State.Keeps.openNotice (h : s.Keeps t) (b : Bay) : s.Keeps (t.openNotice b) := by
  unfold State.openNotice
  split
  · split
    · exact h.goIdle b
    · exact h
  · split
    · exact h
    · exact h.goIdle b
  · exact h

theorem State.Keeps.openNotices (h : s.Keeps t) (old : BitVec 6) : s.Keeps (t.openNotices old) := by
  refine .foldl (fun t b ht => ?_) _ _ h
  split
  · exact ht
  · exact ht.openNotice b

theorem State.Keeps.setBayOpen (h : s.Keeps t) (v : BitVec 6) : s.Keeps (t.setBayOpen v) := by
  unfold State.setBayOpen
  split
  · exact h
  · exact ((h.modWater _ (by exact id)).openNotices _).requestPass

theorem State.Keeps.enterFault (h : s.Keeps t) (b : Bay) (st : BayState) : s.Keeps (t.enterFault b st) :=
  (State.Keeps.setBayOpen (h.modBay b _ (by exact held_none_imp rfl)) _).latch _

theorem State.Keeps.leaveExit (h : s.Keeps t) (b : Bay) : s.Keeps (t.leaveExit b) :=
  (h.modBay b _ (by exact held_none_imp rfl)).goIdle b

theorem State.Keeps.enterExit (h : s.Keeps t) (b : Bay) : s.Keeps (t.enterExit b) := by
  have h₁ : s.Keeps (t.modBay b fun u => { u with state := .exit }) := h.modBay b _ (by exact fun _ => id)
  unfold State.enterExit
  dsimp only
  split
  · exact h₁.modBay b _ (by exact fun _ => id)
  · exact h₁.leaveExit b

theorem State.Keeps.chargeStep (h : s.Keeps t) (b : Bay) : s.Keeps (t.chargeStep b) := by
  unfold State.chargeStep
  split
  · exact h
  next r hr =>
    refine ((h.modBay b _ fun n hn => ?_).appendCharge _).latch _
    have hu : (t.bays.get b).record = some r := hr
    rw [← hn]
    simp [BayUnit.held, hu]

theorem State.Keeps.leaveWashing (h : s.Keeps t) (b : Bay) : s.Keeps (t.leaveWashing b) := by
  unfold State.leaveWashing
  split
  · exact (h.chargeStep b).enterFault b _
  · exact (h.chargeStep b).enterExit b

theorem State.Keeps.nextPhase (h : s.Keeps t) (b : Bay) : s.Keeps (t.nextPhase b) := by
  unfold State.nextPhase
  split
  · exact h
  · split
    · exact h.enterClaim b _
    · exact h.leaveWashing b

theorem State.Keeps.skipPhase (h : s.Keeps t) (b : Bay) : s.Keeps (t.skipPhase b) := by
  unfold State.skipPhase
  split
  · exact h
  · exact (((h.withdraw b).modRecord b _ (by exact fun _ => rfl)).latch _).nextPhase b

theorem State.Keeps.leaveClaim (h : s.Keeps t) (b : Bay) : s.Keeps (t.leaveClaim b) :=
  (h.modRecord b _ (by exact fun _ => rfl)).leaveWashing b

theorem State.Keeps.answerClaim (h : s.Keeps t) (b : Bay) (r : WorkRecord) (p : PhaseTerms) (e : PhaseEntry) :
    s.Keeps (t.answerClaim b r p e) := by
  have hwait := ((h.modWater (fun w => { w with waits := w.waits ++ [⟨b, estimate p.dose e.rPhase⟩] }) id).modRecord b
    (fun r => { r with sub := .waterWait }) fun _ => rfl).latch
      (.waterWait b r.visitNumber r.phase (estimate p.dose e.rPhase))
  unfold State.answerClaim
  dsimp only
  split
  · split
    · exact (((h.modWater _ (by exact fun ⟨hf, ho, hp⟩ => ⟨(Nat.sub_le ..).trans hf, ho, hp⟩)).modRecord b _ (by exact fun _ => rfl)).settleClaim b _ _).leaveClaim b
    · exact h.grant b _
  · split
    · split
      · exact h.leaveClaim b
      · exact (h.modRecord b _ (by exact fun _ => rfl)).enterRun b
    · split
      · exact h.leaveClaim b
      · split
        · exact hwait.skipPhase b
        · exact hwait.modBay b _ (by exact fun _ => id)

theorem State.Keeps.endRunOn (h : s.Keeps t) (b : Bay) : s.Keeps (t.endRunOn b) := by
  unfold State.endRunOn
  split
  · exact h
  · split
    · exact h
    next r _ _ e _ =>
      have h₁ := (((h.modBay b (fun u => { u with runOnTimer := none, runOn := 0, spilled := false }) fun _ => id).modRecord b
        (fun r => r.modEntry fun x => { x with fk := freshLitres e.rPhase e.lb e.lf }) fun _ => rfl).settleClaim b r.claim
          (freshLitres e.rPhase e.lb e.lf))
      dsimp only
      split
      · exact h₁.nextPhase b
      · exact h₁.leaveWashing b

theorem State.Keeps.abortBySub (h : s.Keeps t) (b : Bay) : s.Keeps (t.abortBySub b) := by
  unfold State.abortBySub
  split
  · exact (h.withdraw b).leaveWashing b
  · exact h.endRun b _
  all_goals exact h

theorem State.Keeps.abortWash (h : s.Keeps t) (b : Bay) (m : AbortMark) : s.Keeps (t.abortWash b m) := by
  unfold State.abortWash
  split
  · exact (h.modRecord b _ (by exact fun _ => rfl)).abortBySub b
  · exact h

theorem State.Keeps.eStopWash (h : s.Keeps t) (b : Bay) : s.Keeps (t.eStopWash b) :=
  (h.modRecord b _ (by exact fun _ => rfl)).abortBySub b

theorem State.Keeps.pulseInRun (h : s.Keeps t) (b : Bay) : s.Keeps (t.pulseInRun b) := by
  have h₁ := (h.modRecord b (fun r => r.modEntry PhaseEntry.pulse) (by exact fun _ => rfl)).modBay b
    (fun u => { u with dose := (t.bays.get b).dose + 1 }) fun _ => id
  unfold State.pulseInRun
  dsimp only
  split
  · exact h₁.endRun b _
  · exact h₁

theorem State.Keeps.pulseInRunOn (h : s.Keeps t) (b : Bay) : s.Keeps (t.pulseInRunOn b) := by
  unfold State.pulseInRunOn
  dsimp only
  split
  · exact (h.modRecord b _ (by exact fun _ => rfl)).modBay b _ (by exact fun _ => id)
  · split
    · exact h
    · exact (h.modBay b _ (by exact fun _ => id)).latch _

theorem State.Keeps.loseReclaim (h : s.Keeps t) (i : Tank) (b : Bay) : s.Keeps (t.loseReclaim i b) := by
  unfold State.loseReclaim
  split
  · exact h
  · split
    · exact h
    · split
      · exact ((h.modRecord b _ (by exact fun _ => rfl)).modBay b _ (by exact fun _ => id)).latch _
      · exact h

theorem State.Keeps.reclaimLoss (h : s.Keeps t) (i : Tank) : s.Keeps (t.reclaimLoss i) :=
  .foldl (fun _ b ht => ht.loseReclaim i b) _ _ h

theorem State.Keeps.removeLine (h : s.Keeps t) (b : Bay) : s.Keeps (t.removeLine b) :=
  h.modDisp _ (by exact List.length_filter_le ..)

theorem State.Keeps.endCall (h : s.Keeps t) (b : Bay) : s.Keeps (t.endCall b) :=
  ((h.modBay b _ (by exact held_none_imp rfl)).dropReservation).removeLine b

/-! ### The sign -/

theorem State.Keeps.sendSign (h : s.Keeps t) : s.Keeps t.sendSign := by
  unfold State.sendSign
  split
  · exact h.modDisp _ (by exact le_rfl)
  · exact h.modDisp _ (by exact le_rfl)

theorem State.Keeps.recomputeStatus (h : s.Keeps t) : s.Keeps t.recomputeStatus :=
  h.modDisp _ (by exact le_rfl)

theorem State.Keeps.settleSign (h : s.Keeps t) (before : State) : s.Keeps (before.settleSign t) := by
  unfold State.settleSign
  split
  · dsimp only
    split
    · exact h.recomputeStatus
    · exact h.recomputeStatus.sendSign
  · exact h

theorem State.Keeps.signSent (h : s.Keeps t) : s.Keeps t.signSent := by
  unfold State.signSent
  split
  · exact h
  · split
    · exact h.modDisp _ (by exact le_rfl)
    · exact h.modDisp _ (by exact le_rfl)

end Sys2Proof.Machine
end

section
/-! Visit numbers (R21): the number a new visit takes is carried by no held visit, and what every command keeps through
the operations of the Identification Unit. -/

namespace Sys2Proof.Machine

variable {s t : State}

/-! ### The next number -/

/-- The number after `n`, `k` times over (R21), as long as the numbers do not come round. -/
theorem iterate_numberAfter (n k : Nat) (hk : k < 65535) :
    numberAfter^[k] n = if n ≤ 65535 ∧ 65535 < n + k then n + k - 65535 else n + k := by
  induction k with
  | zero => rw [Function.iterate_zero_apply, if_neg (by omega), Nat.add_zero]
  | succ k ih =>
    rw [Function.iterate_succ_apply', ih (by omega), numberAfter]
    split_ifs <;> omega

/-- Numbers that follow one another are distinct (R21). -/
theorem iterate_numberAfter_injOn (n : Nat) {i k : Nat} (hi : i < 65535) (hk : k < 65535)
    (h : numberAfter^[i] n = numberAfter^[k] n) : i = k := by
  rw [iterate_numberAfter n i hi, iterate_numberAfter n k hk] at h
  split_ifs at h <;> omega

/-- The search ends at a number that no held visit carries, or has met only numbers that are carried (R21). -/
theorem freeNumber_free_or_taken (s : State) (k n : Nat) :
    (∀ v ∈ s.heldVisits, v.number ≠ s.freeNumber k n) ∨
      ∀ i < k, numberAfter^[i] n ∈ s.heldVisits.map (·.number) := by
  induction k generalizing n with
  | zero => exact .inr fun i hi => absurd hi (Nat.not_lt_zero i)
  | succ k ih =>
    unfold State.freeNumber
    by_cases hn : s.heldVisits.any (fun v => v.number == n) = true
    · rw [if_pos hn]
      refine (ih (numberAfter n)).imp id fun htaken i hi => ?_
      cases i with
      | zero => simpa using hn
      | succ i => exact htaken i (by omega)
    · rw [if_neg hn]
      exact .inl (by simpa using hn)

theorem length_bayVisits_le (s : State) : s.bayVisits.length ≤ 6 :=
  List.length_filterMap_le ..

/-- Fewer than 22 visits leave one of 22 numbers free (R21). -/
theorem nextNumber_fresh (hq : s.queue.length < 16) : ∀ v ∈ s.heldVisits, v.number ≠ s.nextNumber := by
  refine (freeNumber_free_or_taken s 22 s.nextVisit).resolve_right fun htaken => ?_
  have hsub : (List.range 22).map (fun i => numberAfter^[i] s.nextVisit) ⊆ s.heldVisits.map (·.number) := by
    intro n hn
    obtain ⟨i, hi, rfl⟩ := List.mem_map.1 hn
    exact htaken i (List.mem_range.1 hi)
  have hnodup : ((List.range 22).map fun i => numberAfter^[i] s.nextVisit).Nodup :=
    List.nodup_range.map_on fun i hi k hk h =>
      iterate_numberAfter_injOn s.nextVisit (by have := List.mem_range.1 hi; omega)
        (by have := List.mem_range.1 hk; omega) h
  have hle := (List.subperm_of_subset hnodup hsub).length_le
  have hbays := length_bayVisits_le s
  simp only [List.length_map, List.length_range, State.heldVisits, List.length_append] at hle
  omega

/-! ### Changing, creating and removing visits -/

/-- A queued visit replaced keeps its number, and the others theirs. -/
@[simp] theorem putVisit_numbers (s : State) (v : Visit) :
    (s.putVisit v).queue.map (·.number) = s.queue.map (·.number) := by
  simp only [State.putVisit, List.map_map]
  refine List.map_congr_left fun x _ => ?_
  simp only [Function.comp_apply]
  split
  next h => exact h.symm
  next => rfl

theorem State.Keeps.putVisit (h : s.Keeps t) (v : Visit) : s.Keeps (t.putVisit v) :=
  h.trans ⟨rfl, id, fun ⟨hq, hrest⟩ => ⟨by simpa [State.putVisit] using hq, hrest⟩, id,
    visitsDistinct_of_shrink (by rw [putVisit_numbers]) fun _ _ => id, id⟩

theorem State.Keeps.noteHeld (h : s.Keeps t) (v w : Visit) : s.Keeps (t.noteHeld v w) := by
  unfold State.noteHeld
  split
  · exact h.latch _
  · exact h

theorem State.Keeps.noteChange (h : s.Keeps t) (v w : Visit) : s.Keeps (t.noteChange v w) := by
  unfold State.noteChange
  split
  · exact h.requestPass
  · exact h

theorem State.Keeps.changeVisit (h : s.Keeps t) (n : Nat) (f : Visit → Visit) : s.Keeps (t.changeVisit n f) := by
  unfold State.changeVisit
  split
  · exact h
  · exact ((h.putVisit _).noteChange _ _).noteHeld _ _

/-- A visit joins under a number that no held visit carries. -/
theorem State.Keeps.joinQueue (h : s.Keeps t) {v : Visit} (hq : t.queue.length < 16)
    (hv : ∀ w ∈ t.heldVisits, w.number ≠ v.number) : s.Keeps (t.joinQueue v) := by
  refine h.trans ⟨rfl, id, fun ⟨_, hrest⟩ => ⟨?_, hrest⟩, id, fun hd => ?_, id⟩
  · simp only [State.joinQueue, List.length_append, List.length_singleton]
    omega
  · have hperm : ((t.joinQueue v).heldVisits.map (·.number)).Perm (v.number :: t.heldVisits.map (·.number)) := by
      simp only [State.heldVisits, State.joinQueue, List.append_assoc, List.map_append]
      exact List.perm_middle
    refine hperm.nodup_iff.2 (List.nodup_cons.2 ⟨fun hmem => ?_, hd⟩)
    obtain ⟨w, hw, hn⟩ := List.mem_map.1 hmem
    exact hv w hw hn

theorem queueIsFull_eq_false (s : State) : s.queueIsFull = false ↔ s.queue.length < 16 := by
  rw [State.queueIsFull, Config.queueCapacity, decide_eq_false_iff_not, Nat.not_le]

theorem State.Keeps.createVisit (h : s.Keeps t) (arrival : DepotTime) : s.Keeps (t.createVisit arrival).1 := by
  unfold State.createVisit
  split
  · exact h
  next hfull =>
    have hq := (queueIsFull_eq_false t).1 (Bool.eq_false_iff.2 hfull)
    exact h.joinQueue hq (nextNumber_fresh hq)

/-- Visits leave the queue. -/
theorem State.Keeps.filterQueue (h : s.Keeps t) (p : Visit → Bool) : s.Keeps { t with queue := t.queue.filter p } :=
  h.trans ⟨rfl, id, fun ⟨hq, hrest⟩ => ⟨(List.length_filter_le ..).trans hq, hrest⟩, id,
    visitsDistinct_of_shrink (List.filter_sublist.map _) fun _ _ => id, id⟩

theorem State.Keeps.dropVisit (h : s.Keeps t) (n : Nat) : s.Keeps (t.dropVisit n) :=
  (h.filterQueue _).modMeas _

theorem State.Keeps.cancelCall (h : s.Keeps t) (b : Bay) : s.Keeps (t.cancelCall b) :=
  (h.endCall b).goIdle b

theorem State.Keeps.removeVisit (h : s.Keeps t) (n : Nat) : s.Keeps (t.removeVisit n) := by
  unfold State.removeVisit
  split
  · exact h
  · split
    · exact h.dropVisit n
    · exact (h.dropVisit n).cancelCall _

/-! ### Tags and matching -/

theorem State.Keeps.handOver (h : s.Keeps t) (n : Nat) (x y z : Option Nat) (w : LaneVerdict) :
    s.Keeps (t.handOver n x y z w) :=
  h.changeVisit n _

theorem State.Keeps.offerQueued (h : s.Keeps t) (v : Visit) (id : TagId) : s.Keeps (t.offerQueued v id) := by
  unfold State.offerQueued
  split
  · exact h
  · split
    · exact (h.changeVisit _ _).latch _
    · exact h.changeVisit _ _
    · exact (h.changeVisit _ _).latch _
    · exact (h.changeVisit _ _).latch _

theorem State.Keeps.offerCalled (h : s.Keeps t) (v : Visit) (id : TagId) {adopt : State → State}
    (ha : s.Keeps (adopt t)) : s.Keeps (t.offerCalled v id adopt) := by
  unfold State.offerCalled
  split
  · exact h
  · split
    · exact ha
    · exact h.latch _
    · exact h.latch _

theorem State.Keeps.adoptInBay (h : s.Keeps t) (b : Bay) (id : TagId) : s.Keeps (t.adoptInBay b id) :=
  h.modRecord b _ (by exact fun r => by cases hv : r.visit <;> rfl)

theorem State.Keeps.offerRead (h : s.Keeps t) (n : Nat) (id : TagId) : s.Keeps (t.offerRead n id) := by
  unfold State.offerRead
  split
  · split
    · exact h.offerQueued _ _
    · exact h.offerCalled _ _ (h.changeVisit _ _)
  · split
    · exact h
    · split
      · exact h
      · exact h.offerCalled _ _ (h.adoptInBay _ _)

theorem State.Keeps.windowClosed (h : s.Keeps t) (n : Nat) : s.Keeps (t.windowClosed n) :=
  h.changeVisit n _

theorem State.Keeps.identExpired (h : s.Keeps t) (n : Nat) : s.Keeps (t.identExpired n) :=
  h.changeVisit n _

theorem State.Keeps.matchWaiting (h : s.Keeps t) (e : VehicleEntry) : s.Keeps (t.matchWaiting e) := by
  refine .foldl (fun t v ht => ?_) _ _ h
  split
  · exact ht.changeVisit _ _
  · exact ht

end Sys2Proof.Machine
end

section
/-! What every command keeps: the Lane Unit (chapter 01). -/

namespace Sys2Proof.Machine

variable {s t : State}

theorem State.Keeps.giveHeldNotice (h : s.Keeps t) (m : Measurement) (n : Nat) : s.Keeps (t.giveHeldNotice m n) := by
  unfold State.giveHeldNotice
  split
  · exact h.windowClosed n
  · exact h

theorem State.Keeps.report (h : s.Keeps t) (m : Measurement) (length : Option Nat) : s.Keeps (t.report m length) := by
  unfold State.report
  dsimp only
  split
  · exact (h.handOver _ _ _ _ _).giveHeldNotice _ _
  · exact h.latch _
  · exact h

theorem State.Keeps.rearm (h : s.Keeps t) : s.Keeps t.rearm :=
  h.modLane _ (by exact id) (by exact id)

theorem State.Keeps.complete (h : s.Keeps t) (m : Measurement) (length : Option Nat) : s.Keeps (t.complete m length) :=
  (h.report m length).rearm

theorem State.Keeps.stuckEnd (h : s.Keeps t) (m : Measurement) : s.Keeps (t.stuckEnd m) :=
  (h.latch _).report m none

theorem State.Keeps.closeNotice (h : s.Keeps t) (w : TagWindow) : s.Keeps (t.closeNotice w) := by
  unfold State.closeNotice
  split
  · exact h
  · split
    · exact h.modMeas _
    · exact h.windowClosed _

theorem State.Keeps.closeWindow (h : s.Keeps t) (k : Nat) : s.Keeps (t.closeWindow k) := by
  unfold State.closeWindow
  split
  · exact h
  · exact (h.modLane _ (by exact (List.length_eraseIdx_le ..).trans) (by exact id)).closeNotice _

@[simp] theorem closeNotice_windows (s : State) (w : TagWindow) :
    (s.closeNotice w).lane.windows = s.lane.windows := by
  unfold State.closeNotice
  split
  · rfl
  · split <;> simp

@[simp] theorem closeNotice_reads (s : State) (w : TagWindow) : (s.closeNotice w).lane.reads = s.lane.reads := by
  unfold State.closeNotice
  split
  · rfl
  · split <;> simp

@[simp] theorem closeWindow_windows (s : State) (k : Nat) :
    (s.closeWindow k).lane.windows = s.lane.windows.eraseIdx k := by
  unfold State.closeWindow
  split
  next hnone => rw [List.eraseIdx_of_length_le (List.getElem?_eq_none_iff.1 hnone)]
  next => simp

theorem State.Keeps.windowTakes (h : s.Keeps t) (visit : Option Nat) (id : TagId) : s.Keeps (t.windowTakes visit id) := by
  unfold State.windowTakes
  split
  · exact h
  · exact h.offerRead _ _

theorem State.Keeps.openWindow (h : s.Keeps t) (visit : Option Nat) : s.Keeps (t.openWindow visit) := by
  unfold State.openWindow
  dsimp only
  refine .foldl (fun t r ht => ht.windowTakes visit r.id) _ _ ?_
  split
  next hfull =>
    have h4 : 4 ≤ t.lane.windows.length := hfull
    have hclosed := (State.Keeps.refl t).closeWindow 0
    refine h.trans ⟨hclosed.pending, hclosed.water, fun hcap => ?_, hclosed.pages,
      visitsDistinct_congr rfl rfl ∘ hclosed.visits, hclosed.links⟩
    obtain ⟨hq, hreg, _, hrd, hd⟩ := hclosed.capacity hcap
    refine ⟨hq, hreg, ?_, (List.length_filter_le ..).trans hrd, hd⟩
    have hle : t.lane.windows.length ≤ 4 := hcap.2.2.1
    simp only [modLane_lane, closeWindow_windows, List.length_append, List.length_singleton, List.length_eraseIdx]
    split <;> omega
  next hroom =>
    have h4 : t.lane.windows.length < 4 := Nat.lt_of_not_le hroom
    refine h.modLane _ (fun _ => ?_) fun hr => (List.length_filter_le ..).trans hr
    simp only [List.length_append, List.length_singleton]
    omega

theorem length_markOff (now : Nat) (l : List TagWindow) : (markOff now l).length = l.length := by
  induction l using markOff.induct with
  | case1 => rfl
  | case2 w => rfl
  | case3 w v l ih => simp [markOff, ih]

theorem State.Keeps.expireAtOff (h : s.Keeps t) : s.Keeps t.expireAtOff := by
  unfold State.expireAtOff
  split
  · exact h
  · split
    · exact h.closeWindow _
    · exact h

theorem State.Keeps.bufferRead (h : s.Keeps t) (id : TagId) : s.Keeps (t.bufferRead id) := by
  unfold State.bufferRead
  dsimp only
  split
  · exact h.latch _
  · split
    · exact h.modLane _ (by exact fun h4 => h4) (by exact fun _ => by simp)
    next old rest hreads =>
      split
      · exact (h.modLane _ (by exact fun h4 => h4) (by exact fun h8 => by simpa [hreads] using h8)).latch _
      next hroom =>
        refine h.modLane _ (fun h4 => h4) fun _ => ?_
        have h8 : t.lane.reads.length < 8 := Nat.lt_of_not_le hroom
        simp only [List.length_append, List.length_singleton]
        omega

theorem State.Keeps.takeTagFrame (h : s.Keeps t) (id : TagId) (check : Byte) : s.Keeps (t.takeTagFrame id check) := by
  unfold State.takeTagFrame State.takeRead
  split
  · split
    · exact h.windowTakes _ _
    · exact h.bufferRead _
  · exact h

theorem State.Keeps.startMeasurement (h : s.Keeps t) : s.Keeps t.startMeasurement :=
  ((h.createVisit _).modLane _ (by exact id) (by exact id)).openWindow _

theorem State.Keeps.tailgate (h : s.Keeps t) (m : Measurement) : s.Keeps (t.tailgate m) := by
  have h₁ := ((h.modMeas fun m => { m with frozen := true }).createVisit t.clock.time).latch
    (.tailgate m.binding.visit ((t.modMeas fun m => { m with frozen := true }).createVisit t.clock.time).2)
  unfold State.tailgate
  dsimp only
  split
  · exact (h₁.handOver _ _ _ _ _).openWindow _
  · exact (h₁.latch _).openWindow _

theorem State.Keeps.aOn (h : s.Keeps t) : s.Keeps t.aOn := by
  unfold State.aOn
  split
  · exact h
  · dsimp only
    split
    · exact (h.modLane _ (by exact id) (by exact id)).startMeasurement
    · exact (h.modLane _ (by exact id) (by exact id)).tailgate _

theorem State.Keeps.aOffMeasurement (h : s.Keeps t) : s.Keeps t.aOffMeasurement := by
  unfold State.aOffMeasurement
  split
  · exact h
  · split
    · exact h.rearm
    · split
      · exact h
      · dsimp only
        split
        · exact (h.stuckEnd _).rearm
        · split
          · exact h.complete _ _
          · exact h.modMeas _

theorem State.Keeps.aOff (h : s.Keeps t) : s.Keeps t.aOff := by
  unfold State.aOff
  split
  · exact (h.modLane _ (by exact fun h4 => (length_markOff ..).trans_le h4)
      (by exact id)).aOffMeasurement.expireAtOff
  · exact h

theorem State.Keeps.bOn (h : s.Keeps t) : s.Keeps t.bOn := by
  unfold State.bOn
  split
  · exact h
  · split
    · exact h
    · dsimp only
      split
      · exact h.complete _ _
      · split
        · exact h.complete _ _
        · exact h.modMeas _

theorem State.Keeps.transitExpired (h : s.Keeps t) : s.Keeps t.transitExpired := by
  unfold State.transitExpired State.backout
  split
  · exact h
  · split
    · dsimp only
      split
      · exact ((h.latch _).removeVisit _).rearm
      · exact (h.latch _).rearm
      · exact (h.latch _).rearm
    · exact h

theorem State.Keeps.stuckExpired (h : s.Keeps t) : s.Keeps t.stuckExpired := by
  unfold State.stuckExpired
  split
  · exact h
  · split
    · exact (h.stuckEnd _).modMeas _
    · exact h

theorem State.Keeps.chancePassed (h : s.Keeps t) (k : Nat) : s.Keeps (t.chancePassed k) := by
  unfold State.chancePassed
  split
  · exact h
  · exact (h.modLane _ (by exact fun h4 => h4) (by exact (List.length_eraseIdx_le ..).trans)).latch _

theorem State.Keeps.windowExpired (h : s.Keeps t) (k : Nat) : s.Keeps (t.windowExpired k) := by
  unfold State.windowExpired
  split
  · exact h
  · split
    · exact h.closeWindow k
    · exact h

theorem State.Keeps.tagByte (h : s.Keeps t) (b : Byte) : s.Keeps (t.tagByte b) := by
  unfold State.tagByte
  split
  · refine h.modLane _ ?_ ?_ <;> split <;> exact fun hl => hl
  · dsimp only
    split
    · exact (h.modLane _ (by exact id) (by exact id)).takeTagFrame _ _
    · exact h.modLane _ (by exact id) (by exact id)

end Sys2Proof.Machine
end

section
/-! What every command keeps: water, bays, the Dispatcher, the clock and the tanks. -/

namespace Sys2Proof.Machine

variable {s t : State}

/-! ### The Resource Table (chapter 06) -/

theorem State.Keeps.setOwner (h : s.Keeps t) (o : Option Port) : s.Keeps (t.setOwner o) := by
  unfold State.setOwner
  split
  · exact h
  · exact ((h.modWater _ (by exact id)).modJournal (fun j => { j with tagging := .untagged }) (by exact fun hj => hj.congr rfl rfl)).trans
      (.of_eq rfl rfl rfl rfl rfl rfl rfl rfl rfl rfl)

theorem State.Keeps.setFresh (h : s.Keeps t) {n : Nat} (hn : n ≤ 262143) : s.Keeps (t.setFresh n) := by
  have h₁ : s.Keeps (t.modWater fun w => { w with fresh := n }) := h.modWater _ fun ⟨_, ho, hp⟩ => ⟨hn, ho, hp⟩
  unfold State.setFresh
  split
  · exact h₁.firstFit
  · exact h₁

/-- A resource takes a value within its bound (06 Table 1-1). -/
theorem State.Keeps.setResource (h : s.Keeps t) {r : Resource} {n : Nat} (hn : n ≤ resourceBound r) :
    s.Keeps (t.setResource r n) := by
  cases r with
  | freshRemain => exact h.setFresh hn
  | overdraw => exact h.modWater (fun w => { w with overdraw := n }) fun ⟨hf, _, hp⟩ => ⟨hf, hn, hp⟩
  | bayOpen => exact h.setBayOpen _
  | settleOwner => exact h.setOwner _

theorem State.Keeps.doSwap (h : s.Keeps t) (p : Port) (code expected new : Nat) :
    s.Keeps (t.doSwap p code expected new).1 := by
  unfold State.doSwap
  split
  · exact h
  next r _ =>
    dsimp only
    split
    · exact h
    next hok =>
      have hn : new ≤ resourceBound r := by
        simp only [swapRefused, Bool.or_eq_true, decide_eq_true_iff, not_or, Nat.not_lt] at hok
        exact hok.1
      split
      · exact h
      · exact h.setResource hn

theorem State.Keeps.doAllowanceSet (h : s.Keeps t) (n : Nat) : s.Keeps (t.doAllowanceSet n).1 := by
  unfold State.doAllowanceSet
  split
  · exact h
  next hn =>
    have hle : n ≤ 262143 := Nat.not_lt.1 hn
    have h₁ : s.Keeps (t.modWater fun w => { w with preload := n }) := h.modWater _ fun ⟨hf, ho, _⟩ => ⟨hf, ho, hle⟩
    dsimp only
    split
    · exact h₁.modWater (fun w => { w with fresh := n }) fun ⟨_, ho, hp⟩ => ⟨hle, ho, hp⟩
    · exact h₁

/-! ### The bays (chapters 04 section 4 and 05) -/

theorem State.Keeps.presenceAsserted (h : s.Keeps t) (b : Bay) : s.Keeps (t.presenceAsserted b) := by
  unfold State.presenceAsserted
  split
  · exact h.modBay b _ (by exact fun _ => id)
  · exact h.latch _
  all_goals exact h

theorem State.Keeps.presenceCleared (h : s.Keeps t) (b : Bay) : s.Keeps (t.presenceCleared b) := by
  unfold State.presenceCleared
  split
  · exact h.modBay b _ (by exact fun _ => id)
  · exact h.abortWash b _
  · exact h.leaveExit b
  · exact h.requestPass
  all_goals exact h

theorem calledTo_mem {b : Bay} {v : Visit} (h : t.calledTo b = some v) : v ∈ t.queue :=
  List.mem_of_find?_eq_some h

/-- A queued visit has moved from the queue into a bay: its number is still carried once. -/
theorem State.Keeps.intoBay (h : s.Keeps t) {b : Bay} {v : Visit} {f : WorkRecord → WorkRecord} (hv : v ∈ t.queue)
    (hf : ∀ r, (f r).visit = some v) :
    s.Keeps (State.modRecord { t with queue := t.queue.filter fun x => x.number ≠ v.number } b f) := by
  have hq := (State.Keeps.refl t).filterQueue fun x => decide (x.number ≠ v.number)
  refine h.trans ⟨rfl, id, hq.capacity, id, fun hd => ?_, id⟩
  obtain ⟨hnodup, hqueue, hbay⟩ := (visitsDistinct_iff t).1 hd
  have hv' : v.number ∈ t.queue.map (·.number) := List.mem_map_of_mem hv
  have hsub : ((t.queue.filter fun x => x.number ≠ v.number).map (·.number)).Sublist (t.queue.map (·.number)) :=
    List.filter_sublist.map _
  have hheld : ∀ c n, ((State.modRecord { t with queue := t.queue.filter fun x => x.number ≠ v.number } b f).bays.get
      c).held = some n → c = b ∧ n = v.number ∨ c ≠ b ∧ (t.bays.get c).held = some n := by
    intro c n hn
    by_cases hc : c = b
    · refine .inl ⟨hc, ?_⟩
      subst hc
      cases hr : (t.bays.get c).record with
      | none => simp [BayUnit.held, State.modRecord, State.modBay, hr] at hn
      | some r => simpa [BayUnit.held, State.modRecord, State.modBay, hr, hf, eq_comm] using hn
    · exact .inr ⟨hc, by simpa [State.modRecord, State.modBay, hc] using hn⟩
  refine (visitsDistinct_iff _).2 ⟨hnodup.sublist hsub, fun c n hn hmem => ?_, fun c d n hc hd => ?_⟩
  · rcases hheld c n hn with ⟨_, rfl⟩ | ⟨_, hold⟩
    · obtain ⟨x, hx, hxn⟩ := List.mem_map.1 hmem
      simp [hxn] at hx
    · exact hqueue c n hold (hsub.subset hmem)
  · rcases hheld c n hc with ⟨hcb, hn⟩ | ⟨_, hold⟩ <;> rcases hheld d n hd with ⟨hdb, hn'⟩ | ⟨_, hold'⟩
    · exact hcb.trans hdb.symm
    · exact absurd hv' (hn ▸ hqueue d n hold')
    · exact absurd hv' (hn' ▸ hqueue c n hold)
    · exact hbay c d n hold hold'

theorem State.Keeps.enterBay (h : s.Keeps t) (b : Bay) {v : Visit} (hv : v ∈ t.queue) : s.Keeps (t.enterBay b v) := by
  have h₁ : s.Keeps (t.modBay b fun u => { u with state := .washing, settle := none, call := none }) := h.modBay b _ (by exact fun _ => id)
  exact ((h₁.intoBay (b := b) (v := v) (f := fun r => r.takeIn v t.clock.time) hv fun _ => rfl).removeLine b).enterClaim b 1

theorem State.Keeps.settleExpired (h : s.Keeps t) (b : Bay) : s.Keeps (t.settleExpired b) := by
  unfold State.settleExpired
  dsimp only
  split
  · split
    next v hv => exact h.enterBay b (calledTo_mem hv)
    next => exact h
  · exact h

theorem State.Keeps.noShow (h : s.Keeps t) (b : Bay) (v : Visit) : s.Keeps (t.noShow b v) := by
  unfold State.noShow
  split
  · exact (h.putVisit _).latch _
  · exact (h.dropVisit _).latch _

theorem State.Keeps.callExpired (h : s.Keeps t) (b : Bay) : s.Keeps (t.callExpired b) := by
  unfold State.callExpired
  dsimp only
  split
  · split
    · exact ((h.noShow b _).endCall b).goIdle b
    · exact h
  · exact h

theorem State.Keeps.eStopAsserted (h : s.Keeps t) (b : Bay) : s.Keeps (t.eStopAsserted b) := by
  unfold State.eStopAsserted
  split
  · exact h.enterFault b _
  · exact h.enterFault b _
  · split
    · exact ((h.putVisit _).endCall b).enterFault b _
    · exact (h.endCall b).enterFault b _
  · exact h.eStopWash b
  · exact h.enterFault b _
  · exact h

theorem State.Keeps.flowPulse (h : s.Keeps t) (b : Bay) : s.Keeps (t.flowPulse b) := by
  unfold State.flowPulse
  split
  · exact h.pulseInRun b
  · exact h.pulseInRunOn b
  all_goals exact h

theorem State.Keeps.limitExpired (h : s.Keeps t) (b : Bay) : s.Keeps (t.limitExpired b) := by
  unfold State.limitExpired
  split
  · exact h.endRun b _
  · exact h

theorem State.Keeps.waitExpired (h : s.Keeps t) (b : Bay) : s.Keeps (t.waitExpired b) := by
  unfold State.waitExpired
  split
  · exact h.skipPhase b
  · exact h

theorem State.Keeps.runOnExpired (h : s.Keeps t) (b : Bay) : s.Keeps (t.runOnExpired b) := by
  unfold State.runOnExpired
  split
  · exact h.endRunOn b
  · exact h

theorem State.Keeps.exitExpired (h : s.Keeps t) (b : Bay) : s.Keeps (t.exitExpired b) := by
  unfold State.exitExpired
  dsimp only
  split
  · exact (h.modBay b _ (by exact fun _ => id)).latch _
  · exact h

theorem State.Keeps.pumpCycle (h : s.Keeps t) (b : Bay) : s.Keeps (t.pumpCycle b) := by
  unfold State.pumpCycle
  split
  · exact h.modBay b _ (by exact fun _ => id)
  · exact h

theorem State.Keeps.claimAnswer (h : s.Keeps t) (b : Bay) : s.Keeps (t.claimAnswer b) := by
  unfold State.claimAnswer
  split
  · split
    · exact h
    · split
      · exact h.answerClaim b _ _ _
      · exact h
  · exact h

/-! ### The Dispatcher (chapter 04) -/

theorem State.Keeps.writeHold (h : s.Keeps t) (v : Visit) (r : HoldReason) : s.Keeps (t.writeHold v r) :=
  (h.putVisit _).noteHeld _ _

theorem State.Keeps.evaluateHolds (h : s.Keeps t) : s.Keeps t.evaluateHolds := by
  refine .foldl (fun t v ht => ?_) _ _ h
  split
  · exact ht.writeHold _ _
  · exact ht

theorem State.Keeps.firstFitting (b : Bay) : ∀ (l : List Visit) {t : State}, s.Keeps t →
    s.Keeps (State.firstFitting b l t).1
  | [], _, h => h
  | v :: l, t, h => by
    unfold State.firstFitting
    split
    · split
      · exact h
      · exact firstFitting b l (h.writeHold _ _)
    · exact firstFitting b l h

theorem State.Keeps.choose (h : s.Keeps t) (b : Bay) : s.Keeps (t.choose b).1 := by
  have h₁ := h.firstFitting b t.queue
  unfold State.choose
  dsimp only
  split
  · exact h₁
  · split
    · exact h₁.firstFitting b _
    · exact h₁

/-- A call line is added where there is room for one. -/
theorem State.Keeps.addLine (h : s.Keeps t) (l : CallLine) (hl : t.disp.lines.length < 3) :
    s.Keeps (t.modDisp fun d => { d with lines := d.lines ++ [l] }) := by
  refine h.trans ⟨rfl, id, fun ⟨hq, hreg, hwin, hrd, _⟩ => ⟨hq, hreg, hwin, hrd, ?_⟩, id, visitsDistinct_congr rfl rfl, id⟩
  simp only [modDisp_disp, List.length_append, List.length_singleton]
  omega

theorem State.Keeps.callVisit (h : s.Keeps t) (b : Bay) (v : Visit) (x : VisitTerms) (hl : t.disp.lines.length < 3) :
    s.Keeps (t.callVisit b v x) := by
  have h₁ := (h.putVisit { v with call := some b }).reserve.modBay b
    (fun u => { u with state := .called, record := some (newRecord t.clock.time (t.snapshot x)),
                       call := some (t.afterSeconds t.active.callTimeout) }) (held_none_imp rfl)
  have h₂ := h₁.addLine ⟨b, v.number⟩ (by simpa using hl)
  refine h₂.modDisp _ ?_
  unfold Dispatcher.admitted
  split <;> exact le_rfl

theorem State.Keeps.walkBays : ∀ (l : List Bay) {t : State}, s.Keeps t → s.Keeps (State.walkBays l t)
  | [], _, h => h
  | b :: l, t, h => by
    have h₁ := h.choose b
    unfold State.walkBays
    split
    · dsimp only
      split
      · exact walkBays l h₁
      · split
        · exact walkBays l h₁
        · split
          next hmay =>
            refine walkBays l (h₁.callVisit b _ _ ?_)
            simp only [State.mayCall, Bool.and_eq_true, decide_eq_true_iff] at hmay
            exact hmay.1
          next => exact h₁
    · exact walkBays l h

theorem State.Keeps.dispatchPass (h : s.Keeps t) : s.Keeps t.dispatchPass := by
  unfold State.dispatchPass
  split
  · exact (h.modDisp _ (by exact le_rfl)).evaluateHolds.walkBays _
  · exact h

/-! ### The Depot Clock and the release walk -/

theorem State.Keeps.stepWalk (h : s.Keeps t) : s.Keeps t.stepWalk := by
  unfold State.stepWalk
  split
  · exact h
  · exact h.walkStep _ _

theorem State.Keeps.closeDay (h : s.Keeps t) : s.Keeps t.closeDay := by
  unfold State.closeDay
  dsimp only
  split
  · exact (h.dayCloseNotice _).modClock _
  · exact h

theorem State.Keeps.waterRollover (h : s.Keeps t) : s.Keeps t.waterRollover :=
  (h.modWater (fun w => { w with fresh := w.preload, overdraw := 0 }) fun ⟨_, _, hp⟩ => ⟨hp, Nat.zero_le _, hp⟩).firstFit

theorem State.Keeps.rollover (h : s.Keeps t) : s.Keeps t.rollover :=
  (h.waterRollover.modDisp _ (by exact le_rfl)).closeDay.modClock _

theorem State.Keeps.passMidnight (h : s.Keeps t) : s.Keeps t.passMidnight := by
  unfold State.passMidnight
  dsimp only
  split
  · exact (h.modClock _).rollover
  · exact h.modClock _

theorem State.Keeps.doTimeSet (h : s.Keeps t) (p : Port) (day secs : Nat) : s.Keeps (t.doTimeSet p day secs).1 := by
  have hstep : ∀ {t : State} (a b), s.Keeps t → s.Keeps (t.noteStep p a b) := fun a b ht => by
    unfold State.noteStep
    dsimp only
    split
    · exact ht.latch _
    · exact ht
  have hset : ∀ {t : State}, s.Keeps t → s.Keeps t.afterSet := fun ht => by
    unfold State.afterSet
    split
    · exact ht.rollover
    · exact ht.modClock _
  unfold State.doTimeSet
  split
  · exact h
  · exact hset (hstep _ _ (h.modClock _))

/-! ### The tanks and the converter (chapter 07) -/

theorem State.Keeps.request (h : s.Keeps t) (p : Probe) (add : ConvRequest → ConvRequest) : s.Keeps (t.request p add) :=
  h.modConv _

theorem State.Keeps.requestBoth (h : s.Keeps t) (i : Tank) : s.Keeps (t.requestBoth i) :=
  (h.request _ _).request _ _

theorem State.Keeps.abandon (h : s.Keeps t) (i : Tank) : s.Keeps (t.abandon i) := by
  unfold State.abandon
  split
  · exact (h.modConv _).modTank i _
  · exact h

theorem State.Keeps.beginSampling (h : s.Keeps t) (i : Tank) : s.Keeps (t.beginSampling i) :=
  (h.modTank i _).requestBoth i

theorem State.Keeps.startState (h : s.Keeps t) (i : Tank) : s.Keeps (t.startState i) := by
  unfold State.startState
  split
  · exact h.modTank i _
  · exact h.beginSampling i
  · exact h.modTank i _
  all_goals exact h

theorem State.Keeps.setTank (h : s.Keeps t) (i : Tank) (st : TankState) : s.Keeps (t.setTank i st) :=
  ((h.abandon i).modTank i _).startState i

theorem State.Keeps.noteService (h : s.Keeps t) (before : Option Tank) (c : TankCause) : s.Keeps (t.noteService before c) := by
  unfold State.noteService
  split
  · exact h
  · exact h.latch _

/-- The service tank is none of the invariants' concern. -/
theorem State.Keeps.putService (h : s.Keeps t) (o : Option Tank) : s.Keeps { t with service := o } :=
  h.trans (.of_eq rfl rfl rfl rfl rfl rfl rfl rfl rfl rfl)

theorem State.Keeps.takeService (h : s.Keeps t) (i : Tank) : s.Keeps (t.takeService i) := by
  unfold State.takeService
  dsimp only
  split
  · exact (h.setTank i _).putService _
  · exact h.setTank i _

theorem State.Keeps.promote (h : s.Keeps t) (i : Tank) : s.Keeps (t.promote i) := by
  unfold State.promote
  split
  · exact h.takeService i
  · exact h

theorem State.Keeps.moveTank (h : s.Keeps t) (i : Tank) (st : TankState) (c : TankCause) :
    s.Keeps (t.moveTank i st c) := by
  unfold State.moveTank
  split
  · exact ((((h.reclaimLoss i).putService none).setTank i st).promote _).noteService _ _
  · exact h.setTank i st

theorem State.Keeps.passTank (h : s.Keeps t) (i : Tank) (n : Nat) : s.Keeps (t.passTank i n) := by
  have h₁ : s.Keeps (t.modTank i fun u => { u with share := some n }) := h.modTank i _
  unfold State.passTank
  dsimp only
  split
  · exact h₁.modTank i _
  · split
    · exact (h₁.takeService i).noteService _ _
    · exact h₁.setTank i _

theorem State.Keeps.judge (h : s.Keeps t) (i : Tank) (x y : Reading) : s.Keeps (t.judge i x y) := by
  unfold State.judge
  dsimp only
  split
  · exact (h.modTank i _).passTank i _
  · exact ((h.modTank i _).modTank i _).moveTank i _ _

theorem State.Keeps.judgeIfBoth (h : s.Keeps t) (i : Tank) : s.Keeps (t.judgeIfBoth i) := by
  unfold State.judgeIfBoth
  split
  · exact h.judge i _ _
  · exact h

theorem State.Keeps.faultTank (h : s.Keeps t) (i : Tank) (f : ProbeFault) : s.Keeps (t.faultTank i f) := by
  unfold State.faultTank
  split
  · exact (h.modTank i _).request _ _
  · exact (h.latch _).moveTank i _ _

theorem State.Keeps.deliver (h : s.Keeps t) (p : Probe) (o : OutcomeKind) (r : Option Reading) :
    s.Keeps (t.deliver p o r) := by
  unfold State.deliver
  dsimp only
  split
  · split
    · exact (h.modTank _ _).judgeIfBoth _
    · exact h.faultTank _ _
  · exact h

theorem State.Keeps.spotResult (h : s.Keeps t) (e : ConvRequest) (o : OutcomeKind) (p : Option Nat) (r : Option Reading) :
    s.Keeps (t.spotResult e o p r) := by
  unfold State.spotResult
  split
  · exact h.latch _
  · exact h

theorem State.Keeps.giveResult (h : s.Keeps t) (e : ConvRequest) (o : OutcomeKind) (p : Option Nat) (r : Option Reading) :
    s.Keeps (t.giveResult e o p r) := by
  unfold State.giveResult
  dsimp only
  split
  · exact (h.spotResult e o p r).deliver _ _ _
  · exact h.spotResult e o p r

theorem State.Keeps.endConversion (h : s.Keeps t) (o : OutcomeKind) (p : Option Nat) (r : Option Reading) :
    s.Keeps (t.endConversion o p r) := by
  unfold State.endConversion
  split
  · exact h.modConv _
  · exact ((h.modConv _).giveResult _ o p r).modConv _

theorem State.Keeps.conversionEnd (h : s.Keeps t) (n : Nat) : s.Keeps (t.conversionEnd n) := by
  unfold State.conversionEnd
  dsimp only
  split
  · exact h.endConversion _ _ _
  · exact h

theorem State.Keeps.spanEnd (h : s.Keeps t) : s.Keeps t.spanEnd := by
  unfold State.spanEnd
  split
  · exact h.endConversion _ _ _
  · exact h

theorem State.Keeps.lowAsserted (h : s.Keeps t) (i : Tank) : s.Keeps (t.lowAsserted i) := by
  unfold State.lowAsserted
  split
  · exact h.setTank i _
  · exact h.setTank i _
  · exact h.setTank i _
  · exact (h.reclaimLoss i).moveTank i _ _
  · exact h.setTank i _
  all_goals exact h

theorem State.Keeps.highAsserted (h : s.Keeps t) (i : Tank) : s.Keeps (t.highAsserted i) := by
  unfold State.highAsserted
  split
  · exact h.setTank i _
  · exact h

theorem State.Keeps.tankSettled (h : s.Keeps t) (i : Tank) : s.Keeps (t.tankSettled i) := by
  unfold State.tankSettled
  dsimp only
  split
  · exact h.setTank i _
  · exact h

theorem State.Keeps.resampleDue (h : s.Keeps t) (i : Tank) : s.Keeps (t.resampleDue i) := by
  unfold State.resampleDue
  dsimp only
  split
  · exact (h.modTank i _).beginSampling i
  · exact h

end Sys2Proof.Machine
end

section
/-! What every command keeps: the host requests, the ports, and start-up; then every command, and every step. -/

namespace Sys2Proof.Machine

variable {s t u : State}

/-! ### Host requests -/

theorem State.Keeps.doPlate (h : s.Keeps t) (n : Nat) (f : PlateField) : s.Keeps (t.doPlate n f).1 := by
  unfold State.doPlate
  split
  · split
    · exact h
    · exact h.changeVisit _ _
  · exact h

theorem State.Keeps.doIdentify (h : s.Keeps t) (n a b c : Nat) : s.Keeps (t.doIdentify n a b c).1 := by
  unfold State.doIdentify
  split
  · split
    · exact h
    · split
      · exact h
      · exact h.changeVisit _ _
  · exact h

theorem State.Keeps.doEnqueue (h : s.Keeps t) (a b c : Nat) (tag : TagId) (f : PlateField) :
    s.Keeps (t.doEnqueue a b c tag f).1 := by
  unfold State.doEnqueue
  split
  · split
    · exact h
    next hfull =>
      have hq := (queueIsFull_eq_false t).1 (Bool.eq_false_iff.2 hfull)
      split
      · exact h
      · exact (h.joinQueue hq (nextNumber_fresh hq)).requestPass
  · exact h

theorem State.Keeps.doRemoveVisit (h : s.Keeps t) (n : Nat) : s.Keeps (t.doRemoveVisit n).1 := by
  unfold State.doRemoveVisit
  split
  · exact h
  · exact h.removeVisit n

/-- The register takes a list within its capacity. -/
theorem State.Keeps.putRegister (h : s.Keeps t) (l : List VehicleEntry)
    (hl : t.register.length ≤ 512 → l.length ≤ 512) : s.Keeps { t with register := l } :=
  h.trans ⟨rfl, id, fun ⟨hq, hreg, hrest⟩ => ⟨hq, hl hreg, hrest⟩, id, visitsDistinct_congr rfl rfl, id⟩

theorem length_putEntry (l : List VehicleEntry) (e : VehicleEntry) :
    (putEntry l e).length = if l.any (fun x => x.tag == e.tag) then l.length else l.length + 1 := by
  unfold putEntry
  split <;> simp

theorem State.Keeps.doVehiclePut (h : s.Keeps t) (tag : TagId) (a b : Nat) (f : PlateField) (c : Nat) :
    s.Keeps (t.doVehiclePut tag a b f c).1 := by
  unfold State.doVehiclePut
  split
  · split
    · exact h
    · dsimp only
      split
      · exact h
      next hroom =>
        refine (h.putRegister _ fun hl => ?_).matchWaiting _
        rw [length_putEntry]
        split
        next => exact hl
        next hnew =>
          have hlt : t.register.length < Config.registerCapacity := by
            simpa only [hnew, Bool.not_false, Bool.true_and, decide_eq_true_iff, Nat.not_le] using hroom
          rw [Config.registerCapacity] at hlt
          omega
  · exact h

theorem State.Keeps.doVehicleDrop (h : s.Keeps t) (tag : TagId) : s.Keeps (t.doVehicleDrop tag).1 := by
  unfold State.doVehicleDrop
  split
  · exact h.putRegister _ (List.length_filter_le ..).trans
  · exact h

/-- The Haulier Table and the bank of terms are none of the invariants' concern. -/
theorem State.Keeps.putTerms (h : s.Keeps t) (x : Vector HaulierEntry 64) (a : Bank) (g : Nat) (st : Option Staging) :
    s.Keeps { t with hauliers := x, active := a, generation := g, staging := st } :=
  h.trans (.of_eq rfl rfl rfl rfl rfl rfl rfl rfl rfl rfl)

theorem State.Keeps.putHaulier (h : s.Keeps t) (i : Haulier) (e : HaulierEntry) : s.Keeps (t.putHaulier i e) :=
  (h.putTerms (putAt t.hauliers i e) t.active t.generation t.staging).requestPass

theorem State.Keeps.doHaulierPut (h : s.Keeps t) (p : Port) (a b c d e : Nat) :
    s.Keeps (t.doHaulierPut p a b c d e).1 := by
  unfold State.doHaulierPut
  split
  · exact h
  · split
    · exact h.putHaulier _ _
    · exact h

theorem State.Keeps.doHaulierDrop (h : s.Keeps t) (p : Port) (n : Nat) : s.Keeps (t.doHaulierDrop p n).1 := by
  unfold State.doHaulierDrop
  split
  · exact h
  · split
    · exact h
    · split
      · exact h
      · split
        · exact h
        · split
          · exact h
          · exact h.putHaulier _ _

theorem State.Keeps.doTermsBegin (h : s.Keeps t) (p : Port) : s.Keeps (t.doTermsBegin p).1 := by
  unfold State.doTermsBegin
  split
  · exact h
  · exact h.putTerms t.hauliers t.active t.generation _

theorem State.Keeps.doTermsBlock (h : s.Keeps t) (p : Port) (c i : Byte) (x : BlockContent) (d : BitVec 16) :
    s.Keeps (t.doTermsBlock p c i x d).1 := by
  unfold State.doTermsBlock
  split
  · exact h
  · exact h
  · exact h.putTerms t.hauliers t.active t.generation _

theorem State.Keeps.doTermsCommit (h : s.Keeps t) (p : Port) : s.Keeps (t.doTermsCommit p).1 := by
  unfold State.doTermsCommit
  split
  · exact h
  · exact h
  · split
    · exact h
    · exact (h.putTerms t.hauliers _ _ none).requestPass

theorem State.Keeps.doTermsAbandon (h : s.Keeps t) (p : Port) : s.Keeps (t.doTermsAbandon p).1 := by
  unfold State.doTermsAbandon
  split
  · exact h
  · exact h
  · exact h.putTerms t.hauliers t.active t.generation none

theorem State.Keeps.doBayAbort (h : s.Keeps t) (n : Nat) : s.Keeps (t.doBayAbort n).1 := by
  unfold State.doBayAbort
  split
  · exact h
  · split
    · exact h.abortWash _ _
    · exact h

theorem State.Keeps.doBayRelease (h : s.Keeps t) (n : Nat) : s.Keeps (t.doBayRelease n).1 := by
  unfold State.doBayRelease
  split
  · exact h
  · split
    · exact (h.modBay _ _ (by exact fun _ => id)).openNotice _
    · exact h

theorem State.Keeps.sendTank (h : s.Keeps t) (n : Nat) (st : TankState) (c : TankCause) :
    s.Keeps (t.sendTank n st c).1 := by
  unfold State.sendTank
  split
  · exact h
  · dsimp only
    split
    · exact h
    · exact (h.modTank _ _).moveTank _ _ _

theorem State.Keeps.doTankResume (h : s.Keeps t) (n : Nat) : s.Keeps (t.doTankResume n).1 := by
  unfold State.doTankResume
  split
  · exact h
  · split
    · exact h.setTank _ _
    · exact h

theorem State.Keeps.doTankServe (h : s.Keeps t) (n : Nat) : s.Keeps (t.doTankServe n).1 := by
  unfold State.doTankServe
  split
  · exact h
  · split
    · exact (h.takeService _).noteService _ _
    · exact h

theorem State.Keeps.doSpotSample (h : s.Keeps t) (p : Port) (n : Nat) : s.Keeps (t.doSpotSample p n).1 := by
  unfold State.doSpotSample
  split
  · exact h
  · exact h.request _ _

/-! ### Journal requests (R153 to R159) -/

theorem State.Keeps.putTagging (h : s.Keeps t) (x : Tagging) : s.Keeps (t.modJournal fun j => { j with tagging := x }) :=
  h.modJournal _ (by exact fun hj => hj.congr rfl rfl)

theorem State.Keeps.untag (h : s.Keeps t) : s.Keeps t.untag :=
  h.putTagging _

theorem State.Keeps.cancelling (h : s.Keeps t) (c : Bool) {f : State → State × Reply}
    (hf : ∀ {t}, s.Keeps t → s.Keeps (f t).1) : s.Keeps (t.cancelling c f).1 := by
  unfold State.cancelling
  split
  · exact hf h.untag
  · exact hf h

theorem State.Keeps.putCursor (h : s.Keeps t) (p : Port) (c : Cursor) : s.Keeps (t.putCursor p c) :=
  h.modJournal _ (by exact fun hj => hj.congr rfl rfl)

theorem State.Keeps.openExport (h : s.Keeps t) (p : Port) (n : Nat) : s.Keeps (t.openExport p n).1 := by
  unfold State.openExport
  split
  · exact h
  · dsimp only
    split
    · exact h
    · exact h.putCursor _ _

/-- A page read out, or held, has its records still, and is OPEN or FREE only where it was. -/
theorem Journal.Sound.putSame {j k : Journal} (h : j.Sound) {i : PageNo} {pg : JournalPage}
    (hp : k.pages = putAt j.pages i pg) (hn : k.newest = j.newest) (hr : pg.records = j.pages[i].records)
    (ho : pg.state = .opened → j.pages[i].state = .opened) (hf : pg.state = .free → j.pages[i].state = .free) :
    k.Sound := by
  obtain ⟨hopen, hfree⟩ := Journal.sound_iff.1 h
  refine h.putPage hp hn (fun hi hpg => ?_) fun hpg => hr ▸ hfree i (hf hpg)
  subst hi
  exact hr ▸ hopen (ho hpg)

theorem State.Keeps.readSlot (h : s.Keeps t) (p : Port) (i : PageNo) (n : Nat) : s.Keeps (t.readSlot p i n).1 := by
  have hread : ∀ (pg : JournalPage), pg.readOut.records = pg.records ∧
      (pg.readOut.state = .opened → pg.state = .opened) ∧ (pg.readOut.state = .free → pg.state = .free) := fun pg => by
    unfold JournalPage.readOut
    split
    · exact ⟨rfl, nofun, nofun⟩
    · exact ⟨rfl, id, id⟩
  obtain ⟨hr, ho, hf⟩ := hread t.journal.pages[i]
  unfold State.readSlot
  dsimp only
  split
  · exact h
  · split
    · exact h.putCursor _ _
    · exact (h.modJournal _ fun hj => hj.putSame rfl rfl hr ho hf).putCursor _ _

theorem State.Keeps.nextExport (h : s.Keeps t) (p : Port) : s.Keeps (t.nextExport p).1 := by
  unfold State.nextExport
  dsimp only
  split
  · exact h.putCursor _ _
  · split
    · exact h
    · exact h
    · exact h.readSlot _ _ _

theorem State.Keeps.holdPage (h : s.Keeps t) (i : PageNo) (b : Bool) :
    s.Keeps (t.modJournal fun j => { j with pages := putAt j.pages i { t.journal.pages[i] with hold := b } }) :=
  h.modJournal _ fun hj => hj.putSame rfl rfl rfl id id

theorem State.Keeps.putHold (h : s.Keeps t) (p : Port) (n : Nat) (b : Bool) : s.Keeps (t.putHold p n b).1 := by
  unfold State.putHold
  split
  · exact h
  · split
    · exact h
    · split
      · exact h
      · dsimp only
        split
        · exact h
        · exact h.holdPage _ _

theorem State.Keeps.tagPage (h : s.Keeps t) (p : Port) (n : Nat) {f : PageNo → JournalPage → State × Reply}
    (hf : ∀ i pg, s.Keeps (f i pg).1) : s.Keeps (t.tagPage p n f).1 := by
  unfold State.tagPage
  split
  · exact h
  · split
    · exact h
    · split
      · exact h
      · split
        · exact h
        · exact hf _ _

theorem State.Keeps.doReleaseLast (h : s.Keeps t) (p : Port) (n : Nat) : s.Keeps (t.doReleaseLast p n).1 := by
  refine h.tagPage p n fun i pg => ?_
  split
  · exact h
  · exact h.putTagging _
  · exact h.putTagging _

theorem State.Keeps.doReleaseGo (h : s.Keeps t) (p : Port) : s.Keeps (t.doReleaseGo p).1 := by
  unfold State.doReleaseGo
  split
  · exact h
  · split
    · exact h
    · split
      · exact h
      · exact h
      · split
        · exact h.untag
        · split
          · exact h.untag
          · exact h.untag.modJournal (fun j => { j with walk := some _ }) fun hj => hj.congr rfl rfl

/-! ### The ports (chapter 11) -/

theorem Link.follows_follow (l : Link) : l.follow.Follows := rfl

theorem State.Keeps.changeMask (h : s.Keeps t) (p : Port) (m : BitVec 32) (f : BitVec 29 → BitVec 29 → BitVec 29) :
    s.Keeps (t.changeMask p m f).1 := by
  unfold State.changeMask
  split
  · exact h
  · dsimp only
    exact h.modLink p _ (by exact fun _ => Link.follows_follow _)

theorem State.Keeps.doCheckMode (h : s.Keeps t) (p : Port) (n : Nat) : s.Keeps (t.doCheckMode p n).1 := by
  unfold State.doCheckMode
  split
  · exact h
  · exact h.modLink p (fun l => { l with checkOn := _ }) (by exact id)

/-- A reset that is to follow the reply is none of the attention line's concern. -/
theorem State.Keeps.resetAfter (h : s.Keeps t) (p : Port) (c : ResetCause) :
    s.Keeps (t.modLink p fun l => { l with resetAfter := some c }) :=
  h.modLink p _ (by exact id)

theorem State.Keeps.doClearStore (h : s.Keeps t) (p : Port) : s.Keeps (t.doClearStore p).1 := by
  unfold State.doClearStore
  split
  · exact h.resetAfter p _
  · exact h

theorem State.Keeps.serve (h : s.Keeps t) (p : Port) (r : Request) : s.Keeps (t.serve p r).1 := by
  cases r with
  | plate v f => exact h.doPlate _ _
  | identify v a b c => exact h.doIdentify _ _ _ _
  | enqueue a b c tag f => exact h.doEnqueue _ _ _ _ _
  | removeVisit v => exact h.doRemoveVisit _
  | vehiclePut tag a b f c => exact h.doVehiclePut _ _ _ _ _
  | vehicleDrop tag => exact h.doVehicleDrop _
  | haulierPut a b c d e => exact h.doHaulierPut _ _ _ _ _ _
  | haulierDrop a => exact h.doHaulierDrop _ _
  | termsBegin => exact h.doTermsBegin p
  | termsBlock c i x d => exact h.doTermsBlock p c i x d
  | termsCommit => exact h.doTermsCommit p
  | termsAbandon => exact h.doTermsAbandon p
  | bayAbort b => exact h.doBayAbort _
  | bayRelease b => exact h.doBayRelease _
  | swap r e n => exact h.doSwap _ _ _ _
  | allowanceSet n => exact h.doAllowanceSet _
  | tankDump n => exact h.sendTank _ _ _
  | tankHold n => exact h.sendTank _ _ _
  | tankResume n => exact h.doTankResume _
  | tankServe n => exact h.doTankServe _
  | spotSample x => exact h.doSpotSample _ _
  | exportOpen i => exact h.cancelling _ fun ht => ht.openExport _ _
  | exportNext => exact h.cancelling _ fun ht => ht.nextExport _
  | exportStop => exact h.cancelling _ fun ht => ht.putCursor _ _
  | holdSet i => exact h.cancelling _ fun ht => ht.putHold _ _ _
  | holdClear i => exact h.cancelling _ fun ht => ht.putHold _ _ _
  | releaseFirst i => exact h.tagPage _ _ fun i _ => h.putTagging (.firstTagged i)
  | releaseLast i => exact h.doReleaseLast _ _
  | releaseGo => exact h.doReleaseGo p
  | journalStatus => exact h.cancelling _ fun ht => ht
  | timeSet d x => exact h.doTimeSet _ _ _
  | status => exact h.modLink p (fun l => l.clearKinds _) fun _ => Link.follows_follow _
  | checkMode m => exact h.doCheckMode _ _
  | attentionSet m => exact h.changeMask _ _ _
  | attentionClear m => exact h.changeMask _ _ _
  | reset => exact h.resetAfter p _
  | clearStore => exact h.doClearStore p
  | queueList | visitRead | vehicleGet | haulierGet | termsCount | termsRead | bayStatus | waterStatus | tankStatus
  | timeRead | identity => exact h

theorem State.Keeps.respond (h : s.Keeps t) (p : Port) (f : Frame) : s.Keeps (t.respond p f).1 := by
  unfold State.respond
  split
  · exact h
  · split
    · exact h
    · split
      · exact h
      · split
        · exact h
        · split
          · exact h
          · exact h.serve p _

theorem State.Keeps.takeRequest (h : s.Keeps t) (p : Port) (f : Frame) : s.Keeps (t.takeRequest p f) := by
  unfold State.takeRequest
  exact (h.respond p f).modLink p _ (by exact id)

theorem State.Keeps.receive (h : s.Keeps t) (p : Port) (f : Frame) : s.Keeps (t.receive p f) := by
  unfold State.receive
  dsimp only
  split
  · exact h
  · exact h.modLink p _ (by exact id)
  · exact h.takeRequest p f

theorem State.Keeps.abandonFrame (h : s.Keeps t) (p : Port) : s.Keeps (t.abandonFrame p) :=
  h.modLink p _ (by exact id)

theorem State.Keeps.frameArrives (h : s.Keeps t) (p : Port) (f : Frame) : s.Keeps (t.frameArrives p f) :=
  (h.abandonFrame p).receive p f

theorem State.Keeps.frameByte (h : s.Keeps t) (p : Port) (b : Byte) : s.Keeps (t.frameByte p b) := by
  unfold State.frameByte
  dsimp only
  split
  · exact h.modLink p _ (by exact id)
  · exact (h.modLink p _ (by exact id)).receive p _

/-! ### Resets and start-up (chapter 12) -/

/-- The part's progress and the store are none of the invariants' concern. -/
theorem State.Keeps.putPart (h : s.Keeps t) (x : Part) (k : StoreChecks) : s.Keeps { t with part := x, store := k } :=
  h.trans (.of_eq rfl rfl rfl rfl rfl rfl rfl rfl rfl rfl)

theorem State.Keeps.stopAll (h : s.Keeps t) : s.Keeps t.stopAll :=
  h.trans ⟨rfl, fun hw => hw, fun ⟨_, hreg, _⟩ => ⟨Nat.zero_le _, hreg, Nat.zero_le _, Nat.zero_le _, Nat.zero_le _⟩,
    fun hj => hj.congr rfl rfl,
    visitsDistinct_of_shrink (List.nil_sublist _) fun b _ => by cases b <;> exact id, fun _ p => by cases p <;> rfl⟩

theorem State.Keeps.takeReset (h : s.Keeps t) (c : ResetCause) : s.Keeps (t.takeReset c) :=
  h.stopAll.putPart _ _

theorem State.Keeps.loseMain (h : s.Keeps t) : s.Keeps t.loseMain :=
  (h.stopAll.putPart _ t.stopAll.store).modDisp _ (by exact le_rfl)

theorem State.Keeps.replyEnds (h : s.Keeps t) (p : Port) : s.Keeps (t.replyEnds p) := by
  unfold State.replyEnds
  dsimp only
  split
  · exact h
  · split
    · exact h.takeReset _
    · split
      · exact h.modLink p _ (by exact id)
      · exact (h.modLink p _ (by exact id)).takeRequest p _

theorem held_bayClosed : bayClosed.held = none := rfl

theorem State.Keeps.loadFactory (h : s.Keeps t) : s.Keeps t.loadFactory :=
  h.trans ⟨rfl, fun _ => ⟨Nat.zero_le _, Nat.zero_le _, Nat.zero_le _⟩, fun ⟨hq, _, hrest⟩ => ⟨hq, Nat.zero_le _, hrest⟩,
    fun _ => Journal.sound_journalFactory,
    visitsDistinct_of_shrink (.refl _) fun b n hn => by simp [State.loadFactory, held_bayClosed] at hn, id⟩

theorem State.Keeps.rebuild (h : s.Keeps t) : s.Keeps t.rebuild :=
  h.trans ⟨rfl, fun hw => hw, fun ⟨_, hreg, _, _, hd⟩ => ⟨Nat.zero_le _, hreg, Nat.zero_le _, Nat.zero_le _, hd⟩,
    fun hj => hj.congr rfl rfl,
    visitsDistinct_of_shrink (List.nil_sublist _) fun b n hn => by simp [State.rebuild, held_bayClosed] at hn, id⟩

theorem State.Keeps.recoverWash (h : s.Keeps t) {b : Bay} {r : WorkRecord} (hr : t.record b = some r) :
    s.Keeps (t.recoverWash b r) := by
  have hcut : s.Keeps (t.modRecord b fun _ => r.cutOff) := by
    refine h.modBay b _ fun n hn => ?_
    have hu : (t.bays.get b).record = some r := hr
    rw [← hn]
    simp [BayUnit.held, hu, WorkRecord.cutOff, WorkRecord.modEntry]
  unfold State.recoverWash
  exact (((hcut.settleClaim b _ _).appendCharge _).latch _).modBay b _ (by exact held_none_imp rfl)

theorem State.Keeps.recoverBay (h : s.Keeps t) (b : Bay) : s.Keeps (t.recoverBay b) := by
  unfold State.recoverBay
  split
  next r _ hr => exact (h.recoverWash hr).putPart _ _
  next => exact h.modBay b _ (by exact held_none_imp rfl)

theorem State.Keeps.recoverWashes (h : s.Keeps t) : s.Keeps t.recoverWashes :=
  .foldl (fun _ b ht => ht.recoverBay b) _ _ (h.modJournal (fun j => { j with reserved := t.washingBays }) (by exact fun hj => hj.congr rfl rfl))

theorem recomputeBalances_pages (j : Journal) : j.recomputeBalances.pages = j.pages := by
  unfold Journal.recomputeBalances
  rfl

theorem recomputeBalances_newest (j : Journal) : j.recomputeBalances.newest = j.newest := by
  unfold Journal.recomputeBalances
  rfl

theorem State.Keeps.finishJournal (h : s.Keeps t) : s.Keeps t.finishJournal := by
  unfold State.finishJournal
  exact ((h.putPart { t.part with walkFinished := t.journal.walk.isSome } t.store).finishWalk 64).modJournal _
    (by exact fun hj => hj.congr (recomputeBalances_pages _) (recomputeBalances_newest _))

/-- The tanks are none of the invariants' concern. -/
theorem State.Keeps.putTanks (h : s.Keeps t) (x : PerTank TankUnit) : s.Keeps { t with tanks := x } :=
  h.trans (.of_eq rfl rfl rfl rfl rfl rfl rfl rfl rfl rfl)

theorem State.Keeps.checkStore (h : s.Keeps t) : s.Keeps t.checkStore := by
  unfold State.checkStore
  split
  · exact (h.putPart { t.part with startKind := .warm, phase := .starting } t.store).recoverWashes.rebuild.finishJournal.putTanks _
  · exact (h.putPart { t.part with startKind := .cold, phase := .starting } t.store).loadFactory.rebuild

theorem State.Keeps.startTank (h : s.Keeps t) (i : Tank) : s.Keeps (t.startTank i) := by
  unfold State.startTank
  dsimp only
  split
  · exact h.modTank i _
  · exact h.setTank i _

theorem State.Keeps.startBay (h : s.Keeps t) (b : Bay) : s.Keeps (t.startBay b) := by
  unfold State.startBay
  split
  · exact h.eStopAsserted b
  · exact h

theorem State.Keeps.beginWork (h : s.Keeps t) : s.Keeps t.beginWork := by
  have h₁ := ((((h.modJournal (fun j => { j with lowArmed := true }) (by exact fun hj => hj.congr rfl rfl)).startTank .a).startTank .b).writePendingClose)
  exact (State.Keeps.foldl (fun _ b ht => ht.startBay b) allBays _ h₁).requestPass.recomputeStatus.sendSign

theorem State.Keeps.endStartUp (h : s.Keeps t) : s.Keeps t.endStartUp := by
  have hroll : s.Keeps (if t.clock.behind then t.rollover else t) := by
    split
    · exact h.rollover
    · exact h
  have hstarted : s.Keeps ((if t.clock.behind then t.rollover else t).latchStarted t.clock.behind) := hroll.latch _
  exact (hstarted.putPart _ _).beginWork

/-! ### Every command and every step -/

/-- An event of the field wiring whose rule keeps. -/
theorem exec_keeps_of_event {c : Instr} {f : State → State} (hc : exec c s = t.event f) (h : s.Keeps t)
    (hf : s.Keeps (f t)) : ∃ u, exec c s = .next u ∧ s.Keeps u := by
  refine ⟨_, hc, ?_⟩
  split
  · exact hf.settleSign t
  · exact h

/-- A command of a port whose rule keeps. -/
theorem exec_keeps_of_portCommand {c : Instr} {f : State → State} (hc : exec c s = s.portCommand f)
    (hf : s.Keeps (f s)) : ∃ u, exec c s = .next u ∧ s.Keeps u := by
  refine ⟨_, hc, ?_⟩
  split
  · exact .refl s
  · exact hf.settleSign s

/-- A command that acts only in one phase of the part. -/
theorem exec_keeps_of_ite {c : Instr} {p : Prop} [Decidable p] (hc : exec c s = .next (if p then t else u))
    (ht : s.Keeps t) (hu : s.Keeps u) : ∃ x, exec c s = .next x ∧ s.Keeps x := by
  refine ⟨_, hc, ?_⟩
  split
  · exact ht
  · exact hu

/-- Every command answers a next state, and nothing that is to be kept is lost. -/
theorem exec_keeps (c : Instr) (s : State) : ∃ t, exec c s = .next t ∧ s.Keeps t := by
  have h := State.Keeps.refl s
  cases hc : c.request with
  | some x => exact exec_keeps_of_portCommand (exec_request c s x.1 x.2 hc) (h.frameArrives x.1 _)
  | none =>
    cases c with
    | aOn => exact exec_keeps_of_event (exec_aOn s) h h.aOn
    | aOff => exact exec_keeps_of_event (exec_aOff s) h h.aOff
    | bOn => exact exec_keeps_of_event (exec_bOn s) h h.bOn
    | bOff => exact ⟨s, exec_bOff s, h⟩
    | treadleEdge => exact exec_keeps_of_event (exec_treadleEdge s) h (h.modMeas _)
    | tagFrame tag check => exact exec_keeps_of_event (exec_tagFrame tag check s) h ((h.modLane _ (by exact id) (by exact id)).takeTagFrame tag check)
    | tagFrameGap => exact exec_keeps_of_event (exec_tagFrameGap s) h (h.modLane _ (by exact id) (by exact id))
    | tagReadChancePassed k => exact exec_keeps_of_event (exec_tagReadChancePassed k s) h (h.chancePassed k)
    | transitTimeout => exact exec_keeps_of_event (exec_transitTimeout s) h h.transitExpired
    | stuckTimeout => exact exec_keeps_of_event (exec_stuckTimeout s) h h.stuckExpired
    | tagWindowExpiry k => exact exec_keeps_of_event (exec_tagWindowExpiry k s) h (h.windowExpired k)
    | identTimerExpiry n => exact exec_keeps_of_event (exec_identTimerExpiry n s) h (h.identExpired n)
    | dispatchPass => exact exec_keeps_of_event (exec_dispatchPass s) h h.dispatchPass
    | signMessageSent => exact ⟨_, exec_signMessageSent s, h.signSent⟩
    | presenceAssert b => exact exec_keeps_of_event (exec_presenceAssert b s) (h.modLines _) ((h.modLines _).presenceAsserted b)
    | presenceClear b => exact exec_keeps_of_event (exec_presenceClear b s) (h.modLines _) ((h.modLines _).presenceCleared b)
    | entrySettleExpiry b => exact exec_keeps_of_event (exec_entrySettleExpiry b s) h (h.settleExpired b)
    | callTimerExpiry b => exact exec_keeps_of_event (exec_callTimerExpiry b s) h (h.callExpired b)
    | eStopAssert b => exact exec_keeps_of_event (exec_eStopAssert b s) (h.modLines _) ((h.modLines _).eStopAsserted b)
    | eStopClear b => exact ⟨_, exec_eStopClear b s, h.modLines _⟩
    | flowPulse b => exact exec_keeps_of_event (exec_flowPulse b s) h (h.flowPulse b)
    | timeLimitExpiry b => exact exec_keeps_of_event (exec_timeLimitExpiry b s) h (h.limitExpired b)
    | waterWaitExpiry b => exact exec_keeps_of_event (exec_waterWaitExpiry b s) h (h.waitExpired b)
    | runOnExpiry b => exact exec_keeps_of_event (exec_runOnExpiry b s) h (h.runOnExpired b)
    | exitTimerExpiry b => exact exec_keeps_of_event (exec_exitTimerExpiry b s) h (h.exitExpired b)
    | supplyLowAssert => exact exec_keeps_of_event (exec_supplyLowAssert s) (h.modLines _) ((h.modLines _).latch _)
    | supplyLowClear => exact ⟨_, exec_supplyLowClear s, h.modLines _⟩
    | pumpCycleEnd b => exact exec_keeps_of_event (exec_pumpCycleEnd b s) h (h.pumpCycle b)
    | lowSwitchAssert i => exact exec_keeps_of_event (exec_lowSwitchAssert i s) (h.modLines _) ((h.modLines _).lowAsserted i)
    | lowSwitchClear i => exact ⟨_, exec_lowSwitchClear i s, h.modLines _⟩
    | highSwitchAssert i => exact exec_keeps_of_event (exec_highSwitchAssert i s) (h.modLines _) ((h.modLines _).highAsserted i)
    | highSwitchClear i => exact ⟨_, exec_highSwitchClear i s, h.modLines _⟩
    | tankSettleExpiry i => exact exec_keeps_of_event (exec_tankSettleExpiry i s) h (h.tankSettled i)
    | resampleExpiry i => exact exec_keeps_of_event (exec_resampleExpiry i s) h (h.resampleDue i)
    | referenceCountDone => exact exec_keeps_of_event (exec_referenceCountDone s) h (h.modConv _)
    | conversionEnd n => exact exec_keeps_of_event (exec_conversionEnd n s) h (h.conversionEnd n)
    | span => exact exec_keeps_of_event (exec_span s) h h.spanEnd
    | releaseWalkStep => exact exec_keeps_of_event (exec_releaseWalkStep s) h h.stepWalk
    | midnightPassage => exact exec_keeps_of_ite (exec_midnightPassage s) (h.passMidnight.settleSign s) h
    | unknownKind p k => exact exec_keeps_of_portCommand (exec_unknownKind p k s) (h.frameArrives p _)
    | frameGap p => exact exec_keeps_of_portCommand (exec_frameGap p s) (h.abandonFrame p)
    | replySent p => exact exec_keeps_of_portCommand (exec_replySent p s) (h.replyEnds p)
    | powerOn kept => exact ⟨_, exec_powerOn kept s, (h.putPart s.part _).takeReset _⟩
    | resetLine => exact exec_keeps_of_ite (exec_resetLine s) h (h.takeReset _)
    | storeCheck => exact exec_keeps_of_ite (exec_storeCheck s) h.checkStore h
    | startUpEnd => exact exec_keeps_of_ite (exec_startUpEnd s) h.endStartUp h
    | claimAnswer b => exact exec_keeps_of_event (exec_claimAnswer b s) h (h.claimAnswer b)
    | powerLoss => exact exec_keeps_of_ite (exec_powerLoss s) h h.loseMain
    | frameByte p b => exact exec_keeps_of_portCommand (exec_frameByte p b s) (h.frameByte p b)
    | missingStopBit p => exact exec_keeps_of_portCommand (exec_missingStopBit p s) (h.abandonFrame p)
    | tagByte b => exact exec_keeps_of_event (exec_tagByte b s) h (h.tagByte b)
    | _ => exact absurd hc (by simp [Instr.request])

theorem keeps_of_exec {c : Instr} (h : exec c s = .next t) : s.Keeps t := by
  obtain ⟨u, hu, hk⟩ := exec_keeps c s
  rw [hu] at h
  injection h with h
  exact h ▸ hk

/-- A tick keeps all that a command keeps. -/
theorem State.Keeps.tick (h : s.Keeps t) : s.Keeps t.tick := by
  have h₁ : s.Keeps { t with timebase := t.timebase + 1, clock := t.clock.tick } :=
    h.trans (.of_eq rfl rfl rfl rfl rfl rfl rfl rfl rfl rfl)
  unfold State.tick
  dsimp only
  split
  · refine (State.Keeps.foldl (fun t b ht => ?_) _ _ h₁).modConv _
    unfold State.tickBay
    split
    · exact ht.modBay b _ (by exact fun _ => id)
    · exact ht
  · exact h₁

/-! ### The step -/

theorem pick_mem (s : State) (c d : Instr) (l : List Instr) : s.pick c d l ∈ c :: d :: l := by
  unfold State.pick
  have hlt : Config.dueChoice s.timebase (l.length + 2) % (l.length + 2) < (c :: d :: l).length :=
    Nat.mod_lt _ (Nat.succ_pos _)
  rw [List.getD_eq_getElem _ _ hlt]
  exact List.getElem_mem _

/-- With nothing due an idle part lets a tick pass. -/
theorem idleStep_of_none_due (h : s.due = []) : idleStep s = .next s.tick := by
  unfold idleStep
  rw [h]

/-- An idle part takes one of the events that are due. -/
theorem idleStep_of_due (h : s.due ≠ []) : ∃ c ∈ s.due, idleStep s = exec c s := by
  unfold idleStep
  split
  next hnone => exact absurd hnone h
  next c hone => exact ⟨c, by simp [hone], rfl⟩
  next c d l hmany => exact ⟨s.pick c d l, hmany ▸ pick_mem s c d l, rfl⟩

theorem step_of_pending {c : Instr} {rest : List Instr} (h : s.pending = c :: rest) :
    step s = exec c { s with pending := rest } := by
  unfold step
  rw [h]

theorem step_of_idle (h : s.pending = []) : step s = idleStep s := by
  unfold step
  rw [h]

/-- What a step can do: the command at the front of the queue is taken, or one that is due, or a tick passes. -/
theorem step_cases (h : step s = .next t) :
    (∃ c rest, s.pending = c :: rest ∧ exec c { s with pending := rest } = .next t) ∨
      (∃ c ∈ s.due, exec c s = .next t) ∨ t = s.tick := by
  cases hp : s.pending with
  | cons c rest => exact .inl ⟨c, rest, rfl, step_of_pending hp ▸ h⟩
  | nil =>
    rw [step_of_idle hp] at h
    by_cases hd : s.due = []
    · rw [idleStep_of_none_due hd] at h
      injection h with h
      exact .inr (.inr h.symm)
    · obtain ⟨c, hc, hstep⟩ := idleStep_of_due hd
      exact .inr (.inl ⟨c, hc, hstep ▸ h⟩)

/-- A property that no waiting command enters, kept by every command and by the tick, is kept by every step. -/
theorem step_invariant {P : State → Prop} (hpending : ∀ {s : State} (l : List Instr), P s → P { s with pending := l })
    (hexec : ∀ {c : Instr} {s t : State}, exec c s = .next t → P s → P t) (htick : ∀ {s : State}, P s → P s.tick)
    (h : P s) (hstep : step s = .next t) : P t := by
  rcases step_cases hstep with ⟨c, rest, _, hc⟩ | ⟨c, _, hc⟩ | rfl
  · exact hexec hc (hpending rest h)
  · exact hexec hc h
  · exact htick h

/-! ### The obligations -/

/-- Settles O1: the step's own equation at a queue that is not empty. -/
theorem stepRunsFrontCommand : Obligations.StepRunsFrontCommand :=
  fun _ _ _ h => step_of_pending h

/-- Settles O3: every command answers a next state, and the waiting commands are among what it keeps. -/
theorem commandsCompleteAndKeepQueue : Obligations.CommandsCompleteAndKeepQueue := by
  intro c s
  obtain ⟨t, ht, hk⟩ := exec_keeps c s
  exact ⟨t, ht, hk.pending⟩

/-- Settles O6: bounds, capacities and sound pages are kept by every command and by the tick. -/
theorem boundsAndCapacitiesKept : Obligations.BoundsAndCapacitiesKept := by
  refine ⟨fun s t h hstep => ?water, fun s t h hstep => ?capacity, fun s t h hstep => ?pages⟩
  case water =>
    exact step_invariant (P := State.WaterBounded) (fun _ h => h) (fun hc => (keeps_of_exec hc).water)
      (State.Keeps.tick (.refl _)).water h hstep
  case capacity =>
    exact step_invariant (P := State.WithinCapacity) (fun _ h => h) (fun hc => (keeps_of_exec hc).capacity)
      (State.Keeps.tick (.refl _)).capacity h hstep
  case pages =>
    exact step_invariant (P := State.PagesSound) (fun _ h => h) (fun hc => (keeps_of_exec hc).pages)
      (State.Keeps.tick (.refl _)).pages h hstep

/-- Settles O11: of 22 numbers one is free, and every command and the tick keep the numbers distinct. -/
theorem nextNumberIsFree : Obligations.NextNumberIsFree :=
  ⟨fun _ => nextNumber_fresh, fun _ _ h hstep =>
    step_invariant (P := State.VisitsDistinct) (fun _ h => h) (fun hc => (keeps_of_exec hc).visits)
      (State.Keeps.tick (.refl _)).visits h hstep⟩

end Sys2Proof.Machine
end

section
/-! The part as a whole: attention lines, the state after a reset, the resets themselves, the end of a sign message,
and the step on an empty queue. -/

namespace Sys2Proof.Machine

variable {s t : State}

/-! ### Attention (R180, R182) -/

/-- Settles O8: every command keeps the lines following, and the latch entry is what `latchAgain` makes of the old. -/
theorem attentionLinesKept : Obligations.AttentionLinesKept := by
  refine ⟨fun s t h hstep => ?follows, fun s e p x l hx hl => ?latched⟩
  case follows =>
    exact step_invariant (P := State.AttentionFollows) (fun _ h => h)
      (fun hc h => attentionFollows_iff.2 ((keeps_of_exec hc).links (attentionFollows_iff.1 h)))
      (fun h => attentionFollows_iff.2 ((State.Keeps.refl _).tick.links (attentionFollows_iff.1 h))) h hstep
  case latched =>
    subst hl hx
    refine ⟨?_, fun k hk => latched_latch_other e p hk, by cases p <;> rfl, rfl⟩
    rw [latched_latch]
    cases (s.links.get p).latched e.kind <;> rfl

/-! ### The state after reset (log 5) -/

/-- Settles O5: every collection is empty, every counter 0 and every bay closed. -/
theorem invariantsAtReset : Obligations.InvariantsAtReset := by
  refine ⟨?water, ?capacity, ?visits, ?sign, ?attention, Journal.sound_journalFactory⟩
  case water => exact ⟨Nat.zero_le _, Nat.zero_le _, Nat.zero_le _⟩
  case capacity => exact ⟨Nat.zero_le _, Nat.zero_le _, Nat.zero_le _, Nat.zero_le _, Nat.zero_le _⟩
  case visits => exact List.nodup_nil
  case sign => exact ⟨rfl, .inr rfl⟩
  case attention => exact attentionFollows_iff.2 fun p => by cases p <;> rfl

/-! ### The sign's message (R75) -/

theorem length_lineFields (s : State) : s.lineFields.length = 15 := by
  simp only [State.lineFields, List.length_take, List.length_append, List.length_replicate]
  omega

/-- Settles O31: by the message in sending and the mark of a change. -/
theorem signMessageSentEndsMessage : Obligations.SignMessageSentEndsMessage := by
  refine fun s => ⟨fun hnone => ?_, fun m hm => ⟨fun hagain => ?_, fun hagain => ⟨?_, ?_⟩⟩⟩
  · simp [exec_signMessageSent, State.signSent, hnone]
  · simp [exec_signMessageSent, State.signSent, hm, hagain, State.modDisp]
  · simp [exec_signMessageSent, State.signSent, hm, hagain, State.beginSign, State.modDisp]
  · simp [State.signBytes, length_lineFields]

/-! ### Resets (R187, R188) -/

/-- What each of the four resets answers: every block stopped, the part before its store check, or off. -/
theorem exec_of_reset {c : Instr} {cause : ResetCause} {k : StoreChecks}
    (h : c = .powerOn k ∧ cause = .powerOn ∨ c = .resetLine ∧ cause = .resetLine ∧ s.part.phase ≠ .off ∨
      c = .powerLoss ∧ cause = .powerOn ∧ s.part.phase ≠ .off ∨
      s.part.phase ≠ .off ∧ ∃ p x, c = .replySent p ∧ (s.links.get p).reply = some x ∧
        (s.links.get p).resetAfter = some cause) :
    ∃ store, exec c s = .next { s.stopAll with
        part := { partAt cause with phase := if c = .powerLoss then .off else .checking }, store := store
        disp := { dispatcherReset s.timebase with
          sending := if c = .powerLoss then none else some { bytes := blankSign, began := s.timebase } } } ∧
      (c = .powerOn k → store = checksBoth s.store k) ∧ (c ≠ .powerOn k → cause ≠ .clearStore → store = s.store) ∧
      (cause = .clearStore → checksValid store = false) := by
  rcases h with ⟨rfl, rfl⟩ | ⟨rfl, rfl, hoff⟩ | ⟨rfl, rfl, hoff⟩ | ⟨hoff, p, x, rfl, hreply, hreset⟩
  · exact ⟨_, rfl, fun _ => rfl, fun hne => absurd rfl hne, nofun⟩
  · exact ⟨s.store, by rw [exec_resetLine, if_neg hoff]; rfl, nofun, fun _ _ => rfl, nofun⟩
  · exact ⟨s.store, by rw [exec_powerLoss, if_neg hoff]; rfl, nofun, fun _ _ => rfl, nofun⟩
  · refine ⟨storeAfter cause s.store, ?_, nofun, fun _ hcause => ?_, fun hcause => hcause ▸ rfl⟩
    · have hends : s.replyEnds p = s.takeReset cause := by simp [State.replyEnds, hreply, hreset]
      have hidle : (s.takeReset cause).running = false := rfl
      rw [exec_replySent, portCommand_powered hoff, hends, State.settleSign, hidle]
      simp only [Bool.and_false, Bool.false_eq_true, if_false]
      rfl
    · cases cause <;> first | rfl | exact absurd rfl hcause

/-- Settles O57: the state a reset answers, read field by field. -/
theorem resetsStopEveryBlock : Obligations.ResetsStopEveryBlock := by
  refine ⟨fun s hoff => ⟨?_, ?_⟩, fun s c cause k h => ?_⟩
  · rw [exec_resetLine, if_pos hoff]
  · rw [exec_powerLoss, if_pos hoff]
  · obtain ⟨store, hexec, hkept, hsame, hclear⟩ := exec_of_reset h
    refine ⟨_, hexec, rfl, rfl, rfl, rfl, hkept, hsame, hclear, rfl, rfl, rfl, rfl, rfl, rfl, rfl, rfl, fun b => ?bays,
      fun i => ?tanks, rfl, rfl, rfl, rfl, rfl, rfl, rfl⟩
    case bays => simp [State.stopAll, BayUnit.quiet]
    case tanks => cases i <;> simp only [State.stopAll, PerTank.map, PerTank.get, TankUnit.quiet] <;> split <;> simp [*]

/-! ### The step on an empty queue (log 2) -/

/-- Over a tick the clock counts on, and stands at the end of a day (R166, log 4). -/
theorem tick_clock (s : State) : s.tick.clock = s.clock.tick := by
  unfold State.tick
  dsimp only
  split
  · simp only [State.tickConv, State.modConv]
    exact keep_foldl State.clock (fun s b => State.tickBay s b) (fun t x => by simp) _ _
  · rfl

/-- The clock within a centisecond. -/
theorem Clock.tick_within {k : Clock} (h : k.sub + 1 < 1000) : k.tick = { k with sub := k.sub + 1 } :=
  if_pos h

/-- The clock at the end of a centisecond that is not the last of its day. -/
theorem Clock.tick_carry {k : Clock} (h : 1000 ≤ k.sub + 1) (hl : k.time.lastOfDay = false) :
    k.tick = { k with sub := 0, time := k.time.nextCs } := by
  have hsub : ¬ k.sub + 1 < Config.ticksPerCs := Nat.not_lt.2 h
  simp [Clock.tick, hsub, hl]

/-- The clock at the end of a day. -/
theorem Clock.tick_end {k : Clock} (h : 1000 ≤ k.sub + 1) (hl : k.time.lastOfDay = true) :
    k.tick = { k with sub := 1000 } := by
  have hsub : ¬ k.sub + 1 < Config.ticksPerCs := Nat.not_lt.2 h
  rw [Clock.tick, if_neg hsub, if_pos hl]
  rfl

/-- What a tick makes of a bay. -/
def BayUnit.ticked (run : Bool) (u : BayUnit) : BayUnit :=
  if run then { u with pumpPos := u.pumpPos + 1 } else u

theorem tickBay_bays (s : State) (b c : Bay) :
    (s.tickBay b).bays.get c =
      if c = b then (s.bays.get c).ticked (s.subState c == .run) else s.bays.get c := by
  unfold State.tickBay BayUnit.ticked
  by_cases hc : c = b
  · subst hc
    by_cases hr : s.subState c = .run <;> simp [hr, State.modBay]
  · by_cases hr : s.subState b = .run <;> simp [hr, hc, State.modBay]

theorem subState_tickBay_ne (s : State) {b c : Bay} (h : c ≠ b) : (s.tickBay b).subState c = s.subState c := by
  simp [State.subState, State.record, tickBay_bays, h]

/-- Ticks of a list of different bays move the pump cycle of those in RUN. -/
theorem foldl_tickBay_bays (l : List Bay) (hl : l.Nodup) (s : State) (c : Bay) :
    (l.foldl (fun s b => s.tickBay b) s).bays.get c =
      if c ∈ l then (s.bays.get c).ticked (s.subState c == .run) else s.bays.get c := by
  induction l generalizing s with
  | nil => simp
  | cons b l ih =>
    obtain ⟨hb, hl⟩ := List.nodup_cons.1 hl
    rw [List.foldl_cons, ih hl]
    by_cases hc : c = b
    · subst hc
      simp [hb, tickBay_bays]
    · simp [tickBay_bays, hc, subState_tickBay_ne s hc]

/-- A running part's tick: the pump cycles of the bays in RUN. -/
theorem tick_bays (h : s.part.phase = .running) (b : Bay) :
    s.tick.bays.get b = (s.bays.get b).ticked (s.subState b == .run) := by
  unfold State.tick
  dsimp only
  rw [if_pos (running_iff.2 h)]
  simp only [State.tickConv, State.modConv]
  rw [foldl_tickBay_bays allBays (by decide) _ b, if_pos (mem_allBays b)]
  rfl

theorem foldl_tickBay_conv (s : State) : (allBays.foldl (fun s b => State.tickBay s b) s).conv = s.conv :=
  keep_foldl State.conv (fun s b => State.tickBay s b) (fun t x => by simp) _ _

/-- A running part's tick: the converter, with the periods that end in the tick. -/
theorem tick_conv (h : s.part.phase = .running) : ∃ reference probe, s.tick.conv = s.conv.tick reference probe := by
  unfold State.tick
  dsimp only
  rw [if_pos (running_iff.2 h)]
  simp only [State.tickConv, State.modConv, foldl_tickBay_conv]
  exact ⟨_, _, rfl⟩

/-- A part that is not running lets the clock alone count on. -/
theorem tick_of_not_running (h : s.part.phase ≠ .running) :
    s.tick = { s with timebase := s.timebase + 1, clock := s.clock.tick } := by
  unfold State.tick
  dsimp only
  rw [if_neg (mt running_iff.1 h)]

/-- The up-counter in REFERENCE comes to 0 or counts on (R126). -/
theorem Converter.tickReference_up (c : Converter) (n : Nat) :
    (c.tickReference n).up = 0 ∨ c.up.toNat ≤ (c.tickReference n).up.toNat := by
  unfold Converter.tickReference
  dsimp only
  split
  · exact .inl rfl
  · right
    simp only [BitVec.toNat_add, BitVec.toNat_ofNat]
    omega

/-- The up-counter in PROBE counts on, and past 65,535 stays there with the flag set (R126, R127). -/
theorem Converter.tickProbe_up (c : Converter) (n : Nat) :
    c.up.toNat ≤ (c.tickProbe n).up.toNat ∧ (c.saturated = true → (c.tickProbe n).saturated = true) ∧
      ((c.tickProbe n).saturated = true → c.saturated = false → (c.tickProbe n).up = 65535) := by
  unfold Converter.tickProbe
  dsimp only
  have := c.up.isLt
  refine ⟨?_, fun h => by simp [h], fun h hc => ?_⟩
  · simp only [BitVec.toNat_ofNat]
    omega
  · simp only [hc, Bool.false_or, decide_eq_true_iff] at h
    rw [Nat.min_eq_left h.le]
    rfl

/-- With nothing due the converter of a running part is at no end of a phase. -/
theorem conv_not_over (hd : s.due = []) (h : s.part.phase = .running) :
    s.conv.referenceOver = false ∧ s.conv.spanOver = false ∧ s.conv.probeOver = false := by
  have hdue : ∀ {b : Bool} {c : Instr}, dueIf b c = [] → b = false := fun {b c} hb => by
    cases b
    · rfl
    · simp [dueIf] at hb
  simp only [State.due, State.dueOther, running_iff.2 h, if_true, List.append_eq_nil_iff] at hd
  obtain ⟨_, _, ⟨⟨⟨_, _⟩, hr⟩, hs⟩, hp⟩ := hd
  exact ⟨hdue hr, hdue hs, hdue hp⟩

/-- Settles O2: an event that is due is taken; otherwise the tick, read at the clock, the bays and the converter. -/
theorem idleStepTakesDueOrTicks : Obligations.IdleStepTakesDueOrTicks := by
  intro s hs
  rw [step_of_idle hs]
  refine ⟨idleStep_of_due, fun hd => ⟨s.tick, idleStep_of_none_due hd, tick_timebase s, ?_⟩⟩
  rw [tick_clock]
  refine ⟨Clock.tick_within, fun hsub => ⟨fun hcs => ?_, fun hcs hsecs => ?_, fun hcs hsecs => ?_⟩, fun hidle => ?_,
    fun hrun => ⟨fun b => ?_, fun hphase => ?_, fun hphase => ?_, fun hphase => ?_⟩, ?_⟩
  · rw [Clock.tick_carry hsub (by simp [DepotTime.lastOfDay]; omega), DepotTime.nextCs, if_pos hcs]
  · rw [Clock.tick_carry hsub (by simp [DepotTime.lastOfDay]; omega), DepotTime.nextCs, if_neg (by omega)]
  · exact Clock.tick_end hsub (by simp [DepotTime.lastOfDay]; omega)
  · rw [tick_of_not_running hidle]
    exact ⟨rfl, rfl⟩
  · rw [tick_bays hrun]
    by_cases hsub : s.subState b = .run <;> simp [BayUnit.ticked, hsub]
  · obtain ⟨n, k, hconv⟩ := tick_conv hrun
    rw [hconv, Converter.tick, hphase]
  · obtain ⟨n, k, hconv⟩ := tick_conv hrun
    obtain ⟨hr, hsp, _⟩ := conv_not_over hd hrun
    refine ⟨(s.conv.tickReference n).up, ?_, s.conv.tickReference_up n⟩
    rw [hconv, Converter.tick, hphase]
    simp only [hr, hsp, Bool.or_self, Bool.false_eq_true, if_false]
    rfl
  · obtain ⟨n, k, hconv⟩ := tick_conv hrun
    obtain ⟨_, _, hp⟩ := conv_not_over hd hrun
    refine ⟨(s.conv.tickProbe k).up, (s.conv.tickProbe k).saturated, ?_, s.conv.tickProbe_up k⟩
    rw [hconv, Converter.tick, hphase]
    simp only [hp, Bool.false_eq_true, if_false]
    rfl
  · obtain ⟨hpe, hpa, hli, hla, hq, hn, hre, hh, ha, hg, hst, hdi, hw, ht, hse, hj, hl, hsto⟩ := tick_frame s
    exact State.ext hpe rfl hpa hli hla hq hn hre hh ha hg hst hdi rfl hw ht hse rfl hj (tick_clock s) hl hsto

end Sys2Proof.Machine
end

section
/-! A request's bytes (R186): the round trip of every request, field by field. -/

namespace Sys2Proof.Machine

/-- A field of single bytes reads back as it was. -/
theorem bytesAt_of_drop {n off : Nat} {l rest : List Byte} (x : Vector Byte n) (h : l.drop off = x.toList ++ rest) :
    bytesAt n l off = x := by
  ext i hi
  have hi' : i < x.toList.length := by simpa using hi
  have hget : l[off + i]? = some x[i] := by
    rw [← List.getElem?_drop, h, List.getElem?_append_left hi', List.getElem?_eq_getElem hi', Vector.getElem_toList]
  simp [bytesAt, List.getD, hget]

/-- Settles O4: each field is read at the place where it was written. -/
theorem requestDecodeEncode : Obligations.RequestDecodeEncode := by
  intro r
  cases r with
  | plate v p =>
    exact congrArg some (congr (congrArg Request.plate (bitsAt_of_drop (k := 2) v rfl rfl))
      (bytesAt_of_drop p (List.append_nil _).symm))
  | identify v h g c =>
    refine congrArg some ((Request.identify.injEq ..).mpr ⟨bitsAt_of_drop (k := 2) v rfl rfl, ?_, ?_, ?_⟩)
    · exact bitsAt_byte h rfl
    · exact bitsAt_byte g rfl
    · exact bitsAt_byte c rfl
  | enqueue h g c t p =>
    refine congrArg some ((Request.enqueue.injEq ..).mpr ⟨?_, ?_, ?_, ?_, ?_⟩)
    · exact bitsAt_byte h rfl
    · exact bitsAt_byte g rfl
    · exact bitsAt_byte c rfl
    · exact bitsAt_of_drop (k := 5) t rfl rfl
    · exact bytesAt_of_drop p (List.append_nil _).symm
  | vehiclePut t h g p b =>
    refine congrArg some ((Request.vehiclePut.injEq ..).mpr ⟨bitsAt_of_drop (k := 5) t rfl rfl, ?_, ?_, ?_, ?_⟩)
    · exact bitsAt_byte h rfl
    · exact bitsAt_byte g rfl
    · exact bytesAt_of_drop p rfl
    · exact bitsAt_byte (rest := []) b (List.drop_left' (by simp [Laws.RequestLength.be_length]))
  | termsBlock c i content d =>
    refine congrArg some ((Request.termsBlock.injEq ..).mpr ⟨bitsAt_byte c rfl, bitsAt_byte i rfl, ?_, ?_⟩)
    · exact bytesAt_of_drop content rfl
    · exact bitsAt_of_drop (k := 2) (rest := []) d rfl ((List.drop_left' (by simp)).trans (List.append_nil _).symm)
  | swap x e n =>
    refine congrArg some ((Request.swap.injEq ..).mpr ⟨bitsAt_byte x rfl, ?_, ?_⟩)
    · exact bitsAt_of_drop (k := 3) e rfl rfl
    · exact bitsAt_of_drop (k := 3) n rfl rfl
  | timeSet d x =>
    refine congrArg some ((Request.timeSet.injEq ..).mpr ⟨?_, ?_⟩)
    · exact bitsAt_of_drop (k := 2) d rfl rfl
    · exact bitsAt_of_drop (k := 3) x rfl rfl
  | haulierPut h st d l q => exact requestOf_haulierPut h st d l q
  | termsRead c i => exact congrArg some (congr (congrArg Request.termsRead (bitsAt_byte c rfl)) (bitsAt_byte i rfl))
  | removeVisit v => exact congrArg (fun x => some (Request.removeVisit x)) (bitsAt_of_drop (k := 2) v rfl rfl)
  | visitRead v => exact congrArg (fun x => some (Request.visitRead x)) (bitsAt_of_drop (k := 2) v rfl rfl)
  | vehicleDrop t => exact congrArg (fun x => some (Request.vehicleDrop x)) (bitsAt_of_drop (k := 5) t rfl rfl)
  | vehicleGet t => exact congrArg (fun x => some (Request.vehicleGet x)) (bitsAt_of_drop (k := 5) t rfl rfl)
  | allowanceSet n => exact congrArg (fun x => some (Request.allowanceSet x)) (bitsAt_of_drop (k := 3) n rfl rfl)
  | attentionSet m => exact congrArg (fun x => some (Request.attentionSet x)) (bitsAt_of_drop (k := 4) m rfl rfl)
  | attentionClear m => exact congrArg (fun x => some (Request.attentionClear x)) (bitsAt_of_drop (k := 4) m rfl rfl)
  | haulierDrop b => exact congrArg (fun x => some (Request.haulierDrop x)) (bitsAt_byte b rfl)
  | haulierGet b => exact congrArg (fun x => some (Request.haulierGet x)) (bitsAt_byte b rfl)
  | bayStatus b => exact congrArg (fun x => some (Request.bayStatus x)) (bitsAt_byte b rfl)
  | bayAbort b => exact congrArg (fun x => some (Request.bayAbort x)) (bitsAt_byte b rfl)
  | bayRelease b => exact congrArg (fun x => some (Request.bayRelease x)) (bitsAt_byte b rfl)
  | tankDump b => exact congrArg (fun x => some (Request.tankDump x)) (bitsAt_byte b rfl)
  | tankHold b => exact congrArg (fun x => some (Request.tankHold x)) (bitsAt_byte b rfl)
  | tankResume b => exact congrArg (fun x => some (Request.tankResume x)) (bitsAt_byte b rfl)
  | tankServe b => exact congrArg (fun x => some (Request.tankServe x)) (bitsAt_byte b rfl)
  | spotSample b => exact congrArg (fun x => some (Request.spotSample x)) (bitsAt_byte b rfl)
  | exportOpen b => exact congrArg (fun x => some (Request.exportOpen x)) (bitsAt_byte b rfl)
  | holdSet b => exact congrArg (fun x => some (Request.holdSet x)) (bitsAt_byte b rfl)
  | holdClear b => exact congrArg (fun x => some (Request.holdClear x)) (bitsAt_byte b rfl)
  | releaseFirst b => exact congrArg (fun x => some (Request.releaseFirst x)) (bitsAt_byte b rfl)
  | releaseLast b => exact congrArg (fun x => some (Request.releaseLast x)) (bitsAt_byte b rfl)
  | checkMode b => exact congrArg (fun x => some (Request.checkMode x)) (bitsAt_byte b rfl)
  | queueList | termsBegin | termsCount | termsCommit | termsAbandon | waterStatus | tankStatus | exportNext
  | exportStop | releaseGo | journalStatus | timeRead | status | identity | reset | clearStore => rfl

end Sys2Proof.Machine
end

section
/-! The sign's status line (R73): what a dispatch pass, a request and the ports leave of its inputs, and that every
step leaves it current. -/

namespace Sys2Proof.Machine

variable {s t : State}

/-! ### What keeps the part's progress -/

theorem firstFitting_part (b : Bay) (l : List Visit) (s : State) : (State.firstFitting b l s).1.part = s.part := by
  induction l generalizing s with
  | nil => rfl
  | cons v l ih =>
    unfold State.firstFitting
    split
    · split
      · rfl
      · rw [ih]
        simp
    · exact ih s

theorem choose_part (s : State) (b : Bay) : (s.choose b).1.part = s.part := by
  unfold State.choose
  dsimp only
  split
  · exact firstFitting_part ..
  · split
    · exact (firstFitting_part ..).trans (firstFitting_part ..)
    · exact firstFitting_part ..

theorem walkBays_part (l : List Bay) (s : State) : (State.walkBays l s).part = s.part := by
  induction l generalizing s with
  | nil => rfl
  | cons b l ih =>
    have hc := choose_part s b
    unfold State.walkBays
    dsimp only
    split
    · split
      · rw [ih, hc]
      · split
        · rw [ih, hc]
        · split
          · rw [ih, (callVisit_frame ..).2.2.1, hc]
          · exact hc
    · exact ih s

@[simp] theorem dispatchPass_part (s : State) : s.dispatchPass.part = s.part := by
  unfold State.dispatchPass
  split
  · rw [walkBays_part]
    simp
  · rfl

@[simp] theorem putHaulier_part (s : State) (i : Haulier) (e : HaulierEntry) : (s.putHaulier i e).part = s.part := rfl

@[simp] theorem putCursor_part (s : State) (p : Port) (c : Cursor) : (s.putCursor p c).part = s.part := rfl

@[simp] theorem untag_part (s : State) : s.untag.part = s.part := rfl

@[simp] theorem commit_part (s : State) (b : Bank) : (s.commit b).part = s.part := rfl

theorem cancelling_part {c : Bool} {f : State → State × Reply} (hf : ∀ t : State, (f t).1.part = t.part) :
    (s.cancelling c f).1.part = s.part := by
  unfold State.cancelling
  split
  · exact (hf _).trans (untag_part s)
  · exact hf s

theorem openExport_part (p : Port) (n : Nat) (s : State) : (s.openExport p n).1.part = s.part := by
  unfold State.openExport
  dsimp only
  repeat' split
  all_goals rfl

theorem nextExport_part (p : Port) (s : State) : (s.nextExport p).1.part = s.part := by
  unfold State.nextExport State.readSlot
  dsimp only
  repeat' split
  all_goals rfl

theorem putHold_part (p : Port) (n : Nat) (b : Bool) (s : State) : (s.putHold p n b).1.part = s.part := by
  unfold State.putHold
  dsimp only
  repeat' split
  all_goals rfl

theorem tagPage_part (p : Port) (n : Nat) {f : PageNo → JournalPage → State × Reply}
    (hf : ∀ i g, (f i g).1.part = s.part) : (s.tagPage p n f).1.part = s.part := by
  unfold State.tagPage
  repeat' split
  all_goals first | rfl | exact hf _ _

/-- No request takes the part out of its phase: a requested reset follows the reply (R184, R185). -/
@[simp] theorem serve_part (s : State) (p : Port) (r : Request) : (s.serve p r).1.part = s.part := by
  cases r with
  | exportOpen i => exact cancelling_part (openExport_part p i.toNat)
  | exportNext => exact cancelling_part (nextExport_part p)
  | exportStop => exact cancelling_part fun t => putCursor_part t p _
  | holdSet i => exact cancelling_part (putHold_part p i.toNat true)
  | holdClear i => exact cancelling_part (putHold_part p i.toNat false)
  | releaseFirst i => exact tagPage_part p i.toNat fun _ _ => rfl
  | releaseLast i => exact tagPage_part p i.toNat fun _ _ => by split <;> rfl
  | journalStatus => exact cancelling_part fun _ => rfl
  | _ =>
    simp only [State.serve, State.unchanged, State.doPlate, State.doIdentify, State.doEnqueue, State.doRemoveVisit,
      State.doVehiclePut, State.doVehicleDrop, State.doHaulierPut, State.doHaulierDrop, State.doTermsBegin,
      State.doTermsBlock, State.doTermsCommit, State.doTermsAbandon, State.doBayAbort, State.doBayRelease,
      State.doSwap, State.doAllowanceSet, State.doTankDump, State.doTankHold, State.sendTank, State.doTankResume,
      State.doTankServe, State.doSpotSample, State.doReleaseGo, State.doTimeSet, State.doStatus, State.doCheckMode,
      State.doAttentionSet, State.doAttentionClear, State.changeMask, State.doReset, State.doClearStore]
    repeat' split
    all_goals simp

@[simp] theorem respond_part (s : State) (p : Port) (f : Frame) : (s.respond p f).1.part = s.part := by
  unfold State.respond
  repeat' split
  all_goals simp

@[simp] theorem takeRequest_part (s : State) (p : Port) (f : Frame) : (s.takeRequest p f).part = s.part := by
  simp [State.takeRequest]

@[simp] theorem receive_part (s : State) (p : Port) (f : Frame) : (s.receive p f).part = s.part := by
  unfold State.receive
  dsimp only
  split <;> simp

@[simp] theorem abandonFrame_part (s : State) (p : Port) : (s.abandonFrame p).part = s.part := rfl

@[simp] theorem frameArrives_part (s : State) (p : Port) (f : Frame) : (s.frameArrives p f).part = s.part := by
  simp [State.frameArrives]

@[simp] theorem frameByte_part (s : State) (p : Port) (b : Byte) : (s.frameByte p b).part = s.part := by
  unfold State.frameByte
  dsimp only
  split <;> simp

/-! ### The ports in start-up (R176) -/

theorem startingUp_of_phase (hoff : s.part.phase ≠ .off) (hp : s.part.phase ≠ .running) : s.startingUp = true := by
  unfold State.startingUp
  generalize s.part.phase = x at hoff hp
  cases x with
  | checking | starting => rfl
  | running => exact absurd rfl hp
  | off => exact absurd rfl hoff

/-- The kinds answered in start-up spell STATUS and IDENTITY. -/
theorem requestOf_startUpKind {k : Byte} {l : List Byte} {r : Request} (hk : startUpKind k = true)
    (hr : requestOf k l = some r) : r = .status ∨ r = .identity := by
  simp only [startUpKind, Bool.or_eq_true, decide_eq_true_eq] at hk
  rcases hk with rfl | rfl
  · exact .inl (Option.some.inj hr).symm
  · exact .inr (Option.some.inj hr).symm

/-- In start-up a frame changes nothing but its port. -/
theorem respond_startingUp (h : s.startingUp = true) (p : Port) (f : Frame) :
    (s.respond p f).1 = { s with links := (s.respond p f).1.links } := by
  unfold State.respond
  split
  · rfl
  · split
    · rfl
    · split
      · rfl
      next hkind =>
        simp only [h, Bool.true_and, Bool.not_eq_true', Bool.not_eq_false] at hkind
        split
        · rfl
        · split
          · rfl
          next r hr => rcases requestOf_startUpKind hkind hr with rfl | rfl <;> rfl

theorem takeRequest_startingUp (h : s.startingUp = true) (p : Port) (f : Frame) :
    s.takeRequest p f = { s with links := (s.takeRequest p f).links } := by
  unfold State.takeRequest
  dsimp only
  rw [respond_startingUp h]
  rfl

theorem receive_startingUp (h : s.startingUp = true) (p : Port) (f : Frame) :
    s.receive p f = { s with links := (s.receive p f).links } := by
  unfold State.receive
  dsimp only
  split
  · rfl
  · rfl
  · exact takeRequest_startingUp h p f

/-! ### The status line -/

theorem signCurrent_of_closed (hb : t.water.bayOpen = 0) (hs : t.disp.status = .closed) : t.SignCurrent :=
  ⟨by rw [hs, State.signStatus, if_pos hb], .inr hb⟩

/-- While the part does not run, every bay is closed and the sign says so. -/
theorem State.SignCurrent.closed (h : s.SignCurrent) (hp : s.part.phase ≠ .running) :
    s.water.bayOpen = 0 ∧ s.disp.status = .closed := by
  obtain ⟨hstatus, hopen⟩ := h
  have hb := hopen.resolve_left hp
  exact ⟨hb, by rw [hstatus, State.signStatus, if_pos hb]⟩

theorem signCurrent_of_status (hp : t.part.phase = .running) (h : t.disp.status = t.signStatus) : t.SignCurrent :=
  ⟨h, .inl hp⟩

@[simp] theorem sendSign_status (s : State) : s.sendSign.disp.status = s.disp.status := by
  unfold State.sendSign State.beginSign
  split <;> rfl

@[simp] theorem sendSign_signStatus (s : State) : s.sendSign.signStatus = s.signStatus :=
  signStatus_congr (by simp) (by simp) (by simp)

/-- A step of the running part ends with the status line as its inputs give it. -/
theorem signCurrent_settleSign (hs : s.part.phase = .running) (hp : t.part = s.part) : (s.settleSign t).SignCurrent := by
  have hr := running_iff.2 hs
  have ht : t.part.phase = .running := hp ▸ hs
  have hr' := running_iff.2 ht
  unfold State.settleSign
  dsimp only
  rw [if_pos (by simp [hr, hr'])]
  split
  · exact signCurrent_of_status ht rfl
  · exact signCurrent_of_status (by simpa using ht) (by rw [sendSign_status, sendSign_signStatus]; rfl)

/-- A change of no input of the status line. -/
theorem State.SignCurrent.congr (h : s.SignCurrent) (hp : t.part = s.part) (hw : t.water = s.water)
    (hd : t.disp.status = s.disp.status) (hst : t.signStatus = s.signStatus) : t.SignCurrent := by
  obtain ⟨hstatus, hopen⟩ := h
  exact ⟨by rw [hd, hst, hstatus], by rw [hp, hw]; exact hopen⟩

/-- Outside the running part what keeps BAY_OPEN and the status line keeps them current. -/
theorem State.SignCurrent.of_idle (h : s.SignCurrent) (hp : s.part.phase ≠ .running)
    (hb : s.water.bayOpen = 0 → t.water.bayOpen = 0) (hd : t.disp.status = s.disp.status) : t.SignCurrent := by
  obtain ⟨hopen, hstatus⟩ := h.closed hp
  exact signCurrent_of_closed (hb hopen) (hd.trans hstatus)

/-- A reset closes every bay. -/
theorem signCurrent_takeReset (s : State) (c : ResetCause) : (s.takeReset c).SignCurrent :=
  signCurrent_of_closed rfl rfl

/-! ### Commands -/

theorem signCurrent_of_event {c : Instr} {f : State → State} (hc : exec c s = t.event f) (h : t.SignCurrent)
    (hf : (f t).part = t.part) : ∃ u, exec c s = .next u ∧ u.SignCurrent := by
  by_cases hp : t.part.phase = .running
  · exact ⟨_, hc.trans (event_running hp), signCurrent_settleSign hp hf⟩
  · exact ⟨_, hc.trans (event_idle hp), h⟩

/-- A command of a port: while the part runs the status line is judged, and in start-up the port alone changes. -/
theorem signCurrent_of_portCommand {c : Instr} {f : State → State} (hc : exec c s = s.portCommand f)
    (h : s.SignCurrent) (hf : (f s).part = s.part)
    (hup : s.startingUp = true → f s = { s with links := (f s).links }) : ∃ u, exec c s = .next u ∧ u.SignCurrent := by
  by_cases hoff : s.part.phase = .off
  · exact ⟨s, by rw [hc, State.portCommand, if_pos hoff], h⟩
  · refine ⟨_, hc.trans (portCommand_powered hoff), ?_⟩
    by_cases hp : s.part.phase = .running
    · exact signCurrent_settleSign hp hf
    · have hstart := startingUp_of_phase hoff hp
      have hidle : s.running = false := by simp [State.running, hp]
      rw [State.settleSign, hidle, Bool.false_and, if_neg Bool.false_ne_true, hup hstart]
      exact h

theorem signSent_signCurrent (h : s.SignCurrent) : s.signSent.SignCurrent := by
  unfold State.signSent
  split
  · exact h
  · split <;> exact h

/-- Midnight: the running part judges the sign, and otherwise the clock alone changes (R166). -/
theorem passMidnight_signCurrent (h : s.SignCurrent) : (s.settleSign s.passMidnight).SignCurrent := by
  by_cases hp : s.part.phase = .running
  · exact signCurrent_settleSign hp (by simp)
  · have hidle : s.running = false := by simp [State.running, hp]
    have hclock : s.passMidnight = s.modClock fun k => { k with time := k.time.nextDay, sub := 0 } := by
      simp [State.passMidnight, State.running, hp]
    rw [State.settleSign, hidle, Bool.false_and, if_neg Bool.false_ne_true, hclock]
    exact h

/-- The end of a reply: a reset, or a held request. -/
theorem replyEnds_signCurrent (h : s.SignCurrent) (p : Port) (hoff : s.part.phase ≠ .off) :
    ∃ u, exec (.replySent p) s = .next u ∧ u.SignCurrent := by
  cases hreply : (s.links.get p).reply with
  | none =>
    have hends : s.replyEnds p = s := by simp [State.replyEnds, hreply]
    exact signCurrent_of_portCommand (exec_replySent p s) h (by rw [hends]) fun _ => by rw [hends]
  | some x =>
    cases hreset : (s.links.get p).resetAfter with
    | some cause =>
      have hends : s.replyEnds p = s.takeReset cause := by simp [State.replyEnds, hreply, hreset]
      have hidle : (s.takeReset cause).running = false := rfl
      refine ⟨_, (exec_replySent p s).trans (portCommand_powered hoff), ?_⟩
      rw [hends, State.settleSign, hidle, Bool.and_false, if_neg Bool.false_ne_true]
      exact signCurrent_takeReset s cause
    | none =>
      refine signCurrent_of_portCommand (exec_replySent p s) h ?_ fun hup => ?_
      · simp only [State.replyEnds, hreply, hreset]
        split <;> simp
      · simp only [State.replyEnds, hreply, hreset]
        split
        · rfl
        · exact takeRequest_startingUp (s := s.modLink p _) (by exact hup) p _

/-! ### Start-up -/

theorem finishWalk_frame (n : Nat) (s : State) :
    (State.finishWalk n s).water = s.water ∧ (State.finishWalk n s).disp.status = s.disp.status := by
  induction n generalizing s with
  | zero => exact ⟨rfl, rfl⟩
  | succ n ih =>
    unfold State.finishWalk
    split
    · exact ⟨rfl, rfl⟩
    next w _ =>
      obtain ⟨hw, hd⟩ := ih (s.walkStep w false)
      refine ⟨hw.trans (by simp), hd.trans ?_⟩
      simp only [State.walkStep, State.endWalk, Bool.false_eq_true, if_false]
      split <;> simp

theorem finishJournal_frame (s : State) :
    s.finishJournal.water = s.water ∧ s.finishJournal.disp.status = s.disp.status := by
  unfold State.finishJournal
  simp only [modJournal_water, modJournal_disp, finishWalk_frame, and_self]

theorem recoverBay_status (s : State) (b : Bay) : (s.recoverBay b).disp.status = s.disp.status := by
  unfold State.recoverBay
  split
  · simp [State.recoverWash]
  · rfl

/-- The store check closes every bay and leaves the status line. -/
theorem checkStore_frame (s : State) :
    s.checkStore.water.bayOpen = 0 ∧ s.checkStore.disp.status = s.disp.status := by
  unfold State.checkStore
  split
  · unfold State.warmStart
    dsimp only
    obtain ⟨hw, hd⟩ := finishJournal_frame
      { s with part := { s.part with startKind := .warm, phase := .starting } }.recoverWashes.rebuild
    refine ⟨hw ▸ rfl, hd.trans ?_⟩
    exact keep_foldl (fun s => s.disp.status) (fun s b => State.recoverBay s b) recoverBay_status _ _
  · exact ⟨rfl, rfl⟩

/-- The blocks' own work ends with the status line as its inputs give it (R193). -/
theorem beginWork_status (s : State) : s.beginWork.disp.status = s.beginWork.signStatus := by
  unfold State.beginWork
  dsimp only
  rw [sendSign_status, sendSign_signStatus]
  rfl

theorem startBay_part (s : State) (b : Bay) : (s.startBay b).part = s.part := by
  unfold State.startBay
  split <;> simp

theorem startTank_part (s : State) (i : Tank) : (s.startTank i).part = s.part := by
  unfold State.startTank
  dsimp only
  split <;> simp

theorem beginWork_part (s : State) : s.beginWork.part = s.part := by
  unfold State.beginWork
  simp only [sendSign_frame]
  refine (keep_foldl State.part (fun s b => State.startBay s b) startBay_part _ _).trans ?_
  simp [startTank_part]

theorem endStartUp_signCurrent (s : State) : s.endStartUp.SignCurrent := by
  unfold State.endStartUp
  dsimp only
  exact signCurrent_of_status (by rw [beginWork_part]) (beginWork_status _)

/-! ### Every command and every step -/

theorem exec_signCurrent (c : Instr) (h : s.SignCurrent) : ∃ u, exec c s = .next u ∧ u.SignCurrent := by
  cases hc : c.request with
  | some x =>
    exact signCurrent_of_portCommand (exec_request c s x.1 x.2 hc) h (by simp)
      fun hup => receive_startingUp (s := s.abandonFrame x.1) hup x.1 _
  | none =>
    cases c with
    | aOn => exact signCurrent_of_event (exec_aOn s) h (by simp)
    | aOff => exact signCurrent_of_event (exec_aOff s) h (by simp)
    | bOn => exact signCurrent_of_event (exec_bOn s) h (by simp)
    | bOff => exact ⟨s, exec_bOff s, h⟩
    | treadleEdge => exact signCurrent_of_event (exec_treadleEdge s) h (by simp)
    | tagFrame tag check => exact signCurrent_of_event (exec_tagFrame tag check s) h (by simp)
    | tagFrameGap => exact signCurrent_of_event (exec_tagFrameGap s) h (by simp)
    | tagReadChancePassed k => exact signCurrent_of_event (exec_tagReadChancePassed k s) h (by simp)
    | transitTimeout => exact signCurrent_of_event (exec_transitTimeout s) h (by simp)
    | stuckTimeout => exact signCurrent_of_event (exec_stuckTimeout s) h (by simp)
    | tagWindowExpiry k => exact signCurrent_of_event (exec_tagWindowExpiry k s) h (by simp)
    | identTimerExpiry n => exact signCurrent_of_event (exec_identTimerExpiry n s) h (by simp)
    | dispatchPass => exact signCurrent_of_event (exec_dispatchPass s) h (by simp)
    | signMessageSent => exact ⟨_, exec_signMessageSent s, signSent_signCurrent h⟩
    | presenceAssert b => exact signCurrent_of_event (exec_presenceAssert b s) h (by simp)
    | presenceClear b => exact signCurrent_of_event (exec_presenceClear b s) h (by simp)
    | entrySettleExpiry b => exact signCurrent_of_event (exec_entrySettleExpiry b s) h (by simp)
    | callTimerExpiry b => exact signCurrent_of_event (exec_callTimerExpiry b s) h (by simp)
    | eStopAssert b => exact signCurrent_of_event (exec_eStopAssert b s) h (by simp)
    | eStopClear b => exact ⟨_, exec_eStopClear b s, h⟩
    | flowPulse b => exact signCurrent_of_event (exec_flowPulse b s) h (by simp)
    | timeLimitExpiry b => exact signCurrent_of_event (exec_timeLimitExpiry b s) h (by simp)
    | waterWaitExpiry b => exact signCurrent_of_event (exec_waterWaitExpiry b s) h (by simp)
    | runOnExpiry b => exact signCurrent_of_event (exec_runOnExpiry b s) h (by simp)
    | exitTimerExpiry b => exact signCurrent_of_event (exec_exitTimerExpiry b s) h (by simp)
    | supplyLowAssert => exact signCurrent_of_event (exec_supplyLowAssert s) h (by simp)
    | supplyLowClear => exact ⟨_, exec_supplyLowClear s, h⟩
    | pumpCycleEnd b => exact signCurrent_of_event (exec_pumpCycleEnd b s) h (by simp)
    | lowSwitchAssert i => exact signCurrent_of_event (exec_lowSwitchAssert i s) h (by simp)
    | lowSwitchClear i => exact ⟨_, exec_lowSwitchClear i s, h⟩
    | highSwitchAssert i => exact signCurrent_of_event (exec_highSwitchAssert i s) h (by simp)
    | highSwitchClear i => exact ⟨_, exec_highSwitchClear i s, h⟩
    | tankSettleExpiry i => exact signCurrent_of_event (exec_tankSettleExpiry i s) h (by simp)
    | resampleExpiry i => exact signCurrent_of_event (exec_resampleExpiry i s) h (by simp)
    | referenceCountDone => exact signCurrent_of_event (exec_referenceCountDone s) h (by simp)
    | conversionEnd n => exact signCurrent_of_event (exec_conversionEnd n s) h (by simp)
    | span => exact signCurrent_of_event (exec_span s) h (by simp)
    | releaseWalkStep => exact signCurrent_of_event (exec_releaseWalkStep s) h (by simp)
    | midnightPassage =>
      refine ⟨_, exec_midnightPassage s, ?_⟩
      split
      · exact passMidnight_signCurrent h
      · exact h
    | unknownKind p k =>
      exact signCurrent_of_portCommand (exec_unknownKind p k s) h (by simp)
        fun hup => receive_startingUp (s := s.abandonFrame p) hup p _
    | frameGap p => exact signCurrent_of_portCommand (exec_frameGap p s) h rfl fun _ => rfl
    | replySent p =>
      by_cases hoff : s.part.phase = .off
      · exact ⟨s, by rw [exec_replySent, State.portCommand, if_pos hoff], h⟩
      · exact replyEnds_signCurrent h p hoff
    | powerOn kept => exact ⟨_, exec_powerOn kept s, signCurrent_takeReset _ _⟩
    | resetLine =>
      refine ⟨_, exec_resetLine s, ?_⟩
      split
      · exact h
      · exact signCurrent_takeReset s _
    | storeCheck =>
      refine ⟨_, exec_storeCheck s, ?_⟩
      split
      next hp =>
        obtain ⟨hb, hd⟩ := checkStore_frame s
        exact h.of_idle (by simp [hp]) (fun _ => hb) hd
      next => exact h
    | startUpEnd =>
      refine ⟨_, exec_startUpEnd s, ?_⟩
      split
      · exact endStartUp_signCurrent s
      · exact h
    | claimAnswer b => exact signCurrent_of_event (exec_claimAnswer b s) h (by simp)
    | powerLoss =>
      refine ⟨_, exec_powerLoss s, ?_⟩
      split
      · exact h
      · exact signCurrent_of_closed rfl rfl
    | frameByte p b =>
      refine signCurrent_of_portCommand (exec_frameByte p b s) h (by simp) fun hup => ?_
      unfold State.frameByte
      dsimp only
      split
      · rfl
      · exact receive_startingUp (s := s.modLink p _) (by exact hup) p _
    | missingStopBit p => exact signCurrent_of_portCommand (exec_missingStopBit p s) h rfl fun _ => rfl
    | tagByte b => exact signCurrent_of_event (exec_tagByte b s) h (by simp)
    | _ => exact absurd hc (by simp [Instr.request])

/-- Settles O7: each command ends in the judgement of the sign or changes none of its inputs, and a tick changes none. -/
theorem signStatusKept : Obligations.SignStatusKept := by
  refine fun s t h hstep => step_invariant (P := State.SignCurrent) (fun _ h => h) (fun {c s t} hc h => ?_)
    (fun {s} h => ?_) h hstep
  · obtain ⟨u, hu, hcur⟩ := exec_signCurrent c h
    rw [hu] at hc
    injection hc with hc
    exact hc ▸ hcur
  · exact h.congr (by simp) (by simp) (by simp) (signStatus_congr (by simp) (by simp) (by simp))

end Sys2Proof.Machine
end

section
/-! What later proofs use of every block: what a latched event leaves (R180), how the sign's judgement at the end of a
step is framed (R73), how a request is answered at a ready port (R176, R177), and how a queued visit changes (R29,
R30). -/

namespace Sys2Proof.Machine

variable {s t u : State} {e : Event} {k : EventKind}

/-! ### Latched events (R180) -/

theorem shows_latch (s : State) (e : Event) : (s.latch e).Shows e := fun p =>
  let ⟨x, hx, he, _⟩ := latched_latch_self (s := s) e p
  ⟨x, hx, he⟩

theorem State.KeepsLatch.refl (s : State) (k : EventKind) : s.KeepsLatch s k := fun _ => rfl

theorem State.KeepsLatch.trans (h : s.KeepsLatch t k) (h' : t.KeepsLatch u k) : s.KeepsLatch u k := fun p =>
  (h' p).trans (h p)

/-- What leaves the links alone latches nothing. -/
theorem keepsLatch_of_links (h : t.links = s.links) (k : EventKind) : s.KeepsLatch t k := fun p => by rw [h]

/-- An event of another kind. -/
theorem keepsLatch_latch (s : State) (h : k ≠ e.kind) : s.KeepsLatch (s.latch e) k := fun p =>
  latched_latch_other e p h

/-- A change of a port that leaves its latch alone. -/
theorem keepsLatch_modLink (s : State) (p : Port) {f : Link → Link} (h : ∀ l, (f l).latch = l.latch) (k : EventKind) :
    s.KeepsLatch (s.modLink p f) k := fun q => by
  cases p <;> cases q <;> simp [State.modLink, PerPort.set, PerPort.get, Link.latched, h]

/-- A shown event stays the newest of its kind while nothing of the kind is latched. -/
theorem State.Shows.keep (h : s.Shows e) (hk : s.KeepsLatch t e.kind) : t.Shows e := fun p =>
  let ⟨x, hx, he⟩ := h p
  ⟨x, (hk p).trans hx, he⟩

theorem State.Shows.latch (h : s.Shows e) {e' : Event} (hk : e.kind ≠ e'.kind) : (s.latch e').Shows e :=
  h.keep (keepsLatch_latch s hk)

/-! ### The sign's judgement at the end of a step (R73) -/

/-- The judgement of the sign changes the status line and the sign port alone. -/
theorem settleSign_frame (s t : State) : ∃ d, s.settleSign t = { t with disp := d } ∧
    d = { t.disp with status := d.status, sending := d.sending, again := d.again } := by
  refine ⟨(s.settleSign t).disp, ?_⟩
  unfold State.settleSign
  dsimp only
  split
  · split
    · exact ⟨rfl, rfl⟩
    · unfold State.sendSign
      split <;> exact ⟨rfl, rfl⟩
  · exact ⟨rfl, rfl⟩

/-- An event of the running part. -/
theorem event_answers {c : Instr} {f : State → State} (hc : exec c s = t.event f) (hs : t.part.phase = .running) :
    ∃ d, exec c s = .next { f t with disp := d } ∧
      d = { (f t).disp with status := d.status, sending := d.sending, again := d.again } := by
  obtain ⟨d, hd, hkept⟩ := settleSign_frame t (f t)
  exact ⟨d, by rw [hc, event_running hs, hd], hkept⟩

/-- An event whose rule leaves the call lines, the status line and its inputs alone. -/
theorem event_quiet {c : Instr} {f : State → State} (hc : exec c s = s.event f) (hs : s.Running)
    (hl : (f s).disp.lines = s.disp.lines) (hst : (f s).disp.status = s.disp.status)
    (hsign : (f s).signStatus = s.signStatus) : exec c s = .next (f s) := by
  rw [hc, event_running hs.1, settleSign_same hl hst (hst.trans (hs.2.trans hsign.symm))]

/-! ### Requests at a ready port (R176, R177) -/

/-- The state in which the rule of a request finds a ready port: its receiver in HUNT. -/
theorem exec_of_ready {c : Instr} {p : Port} {r : Request} (hc : c.request = some (p, r)) (hs : s.Ready p) :
    exec c s = .next (s.settleSign (((s.abandonFrame p).serve p r).1.modLink p fun l =>
      { l with reply := some { bytes := replyFrame r.kind ((s.abandonFrame p).serve p r).2, began := s.timebase } })) := by
  obtain ⟨hrun, hreply, hheld, _⟩ := hs
  have hon : s.part.phase ≠ .off := by rw [hrun]; decide
  have hresp : (s.abandonFrame p).respond p (rightFrame r.kind r.payload) = (s.abandonFrame p).serve p r :=
    respond_rightFrame (by exact hrun) (requestDecodeEncode r)
  rw [exec_request c s p r hc, State.hostRequest, portCommand_powered hon, frameArrives_of_idle _ hreply hheld]
  simp only [State.takeRequest, hresp]
  rfl

/-- A request at a ready port: its rule's state with the reply begun, the sign judged, and nothing latched beyond what
the rule latches. -/
theorem exec_answered {c : Instr} {p : Port} {r : Request} {a : Reply} (hc : c.request = some (p, r)) (hs : s.Ready p)
    (hserve : (s.abandonFrame p).serve p r = (u, a)) :
    ∃ d l, exec c s = .next { u with disp := d, links := l } ∧
      d = { u.disp with status := d.status, sending := d.sending, again := d.again } ∧
      (l.get p).reply = some { bytes := replyFrame r.kind a, began := s.timebase } ∧
      ∀ k, u.KeepsLatch { u with disp := d, links := l } k := by
  have hexec := exec_of_ready hc hs
  rw [hserve] at hexec
  obtain ⟨d, hd, hkept⟩ := settleSign_frame s (u.modLink p fun l =>
    { l with reply := some { bytes := replyFrame r.kind a, began := s.timebase } })
  rw [hd] at hexec
  exact ⟨d, _, hexec, hkept, by cases p <;> rfl, fun k =>
    keepsLatch_modLink u p (f := fun l => { l with
      reply := some { bytes := replyFrame r.kind a, began := s.timebase } }) (fun _ => rfl) k⟩

/-- The receiver given up, nothing else of a state has changed. -/
theorem abandonFrame_eq (s : State) (p : Port) : s.abandonFrame p = { s with links := (s.abandonFrame p).links } := rfl

theorem keepsLatch_abandonFrame (s : State) (p : Port) (k : EventKind) : s.KeepsLatch (s.abandonFrame p) k :=
  keepsLatch_modLink s p (f := fun l => { l with rx := .hunt }) (fun _ => rfl) k

/-- A request that is refused, or only read, at a ready port. -/
theorem exec_of_unchanged {c : Instr} {p : Port} {r : Request} {a : Reply} (hc : c.request = some (p, r))
    (hs : s.Ready p) (hserve : (s.abandonFrame p).serve p r = (s.abandonFrame p, a)) :
    exec c s = .next (s.replying p r a) :=
  exec_of_serve_same hc hs (requestDecodeEncode r) hserve

/-! ### The identification hold (R29) -/

theorem identHold_eq (v : Visit) : v.identHold =
    if v.blocked = true then .blocked
    else if v.verdict = .measure then .measure
    else if v.verdict = .oversize then .oversize
    else if v.ident = .matched ∧ v.programme = none then .noProgram
    else .noHold := by
  unfold Visit.identHold
  cases v.verdict <;> rfl

theorem HoldReason.fromIdent_iff (h : HoldReason) :
    h.fromIdent = true ↔ h ∈ [HoldReason.blocked, .measure, .oversize, .noProgram] := by
  cases h <;> decide

/-- A recomputed hold is what the visit's marks give beside the one it showed. -/
theorem rehold_eq (v : Visit) : v.rehold = { v with hold := v.heldAs v.hold } := by
  unfold Visit.rehold Visit.heldAs
  rw [identHold_eq]
  by_cases hb : v.blocked = true
  · simp [hb]
  · by_cases hm : v.verdict = .measure
    · simp [hb, hm]
    · by_cases ho : v.verdict = .oversize
      · simp [hb, ho]
      · by_cases hp : v.ident = .matched ∧ v.programme = none
        · simp [hb, hm, ho, hp]
        · simp [hb, hm, ho, hp, HoldReason.fromIdent_iff]

/-- What a hold is recomputed from. -/
theorem heldAs_congr {v w : Visit} (hb : w.blocked = v.blocked) (hv : w.verdict = v.verdict) (hi : w.ident = v.ident)
    (hp : w.programme = v.programme) (h : HoldReason) : w.heldAs h = v.heldAs h := by
  simp only [Visit.heldAs, hb, hv, hi, hp]

/-- A recomputed visit shows the hold its own marks give. -/
theorem rehold_hold (v : Visit) : v.rehold.hold = v.rehold.heldAs v.hold := by
  rw [rehold_eq]
  exact (heldAs_congr rfl rfl rfl rfl _).symm

/-! ### A queued visit changed (R30) -/

theorem becameHeld_iff (v w : Visit) : v.becameHeld w = true ↔
    v.ident ≠ w.ident ∧ (w.ident = .unknown ∨ w.ident = .conflict) ∨ v.hold = .noHold ∧ w.hold ≠ .noHold := by
  simp [Visit.becameHeld]

theorem State.HeldShown.congr {s' t' : State} {v w : Visit} (h : s.HeldShown t v w)
    (hs : s'.KeepsLatch s .visitHeld) (ht : t.KeepsLatch t' .visitHeld) : s'.HeldShown t' v w := by
  unfold State.HeldShown at h ⊢
  split
  next hheld =>
    rw [if_pos hheld] at h
    exact h.keep ht
  next hfree =>
    rw [if_neg hfree] at h
    exact (hs.trans h).trans ht

/-- VISIT-HELD is latched where R30 asks for it. -/
theorem heldShown_noteHeld (s : State) (v w : Visit) : s.HeldShown (s.noteHeld v w) v w := by
  unfold State.HeldShown State.noteHeld
  by_cases hb : v.becameHeld w = true
  · rw [if_pos ((becameHeld_iff v w).1 hb), if_pos hb]
    exact shows_latch s _
  · rw [if_neg (mt (becameHeld_iff v w).2 hb), if_neg hb]
    exact .refl s _

theorem keepsLatch_noteHeld (s : State) (v w : Visit) (h : k ≠ .visitHeld) : s.KeepsLatch (s.noteHeld v w) k := by
  unfold State.noteHeld
  split
  · exact keepsLatch_latch s h
  · exact .refl s k

theorem noteChange_links (s : State) (v w : Visit) : (s.noteChange v w).links = s.links := by
  simp

theorem visitOf_number {n : Nat} {v : Visit} (h : s.visitOf n = some v) : v.number = n := by
  simpa using List.find?_some h

theorem visitOf_mem {n : Nat} {v : Visit} (h : s.visitOf n = some v) : v ∈ s.queue :=
  List.mem_of_find?_eq_some h

/-- The visit found after the visits of its number have been replaced. -/
theorem find?_replace {l : List Visit} {n : Nat} {v w : Visit} (h : l.find? (fun x => x.number == n) = some v)
    (hw : w.number = n) :
    (l.map fun x => if x.number = n then w else x).find? (fun x => x.number == n) = some w := by
  induction l with
  | nil => simp at h
  | cons x l ih =>
    by_cases hx : x.number = n
    · simp [hx, hw]
    · rw [List.find?_cons_of_neg (by simpa using hx)] at h
      simpa [hx] using ih h

/-- A queued visit changed by a rule that keeps its number. -/
theorem changeVisit_eq {n : Nat} {v w : Visit} {f : Visit → Visit} (h : s.visitOf n = some v)
    (hw : { f v with number := n } = w) : s.changeVisit n f = ((s.putVisit w).noteChange v w).noteHeld v w := by
  subst hw
  simp only [State.changeVisit, h]

section
variable {n : Nat} {v w : Visit} {f : Visit → Visit}

theorem changeVisit_queue (h : s.visitOf n = some v) (hw : { f v with number := n } = w) :
    (s.changeVisit n f).queue = s.queue.map fun x => if x.number = n then w else x := by
  rw [changeVisit_eq h hw]
  subst hw
  simp [State.putVisit]

theorem visitOf_changeVisit (h : s.visitOf n = some v) (hw : { f v with number := n } = w) :
    (s.changeVisit n f).visitOf n = some w := by
  rw [State.visitOf, changeVisit_queue h hw]
  exact find?_replace h (by rw [← hw])

theorem mem_changeVisit (h : s.visitOf n = some v) {x : Visit} (hx : x ∈ s.queue) (hn : x.number ≠ n) :
    x ∈ (s.changeVisit n f).queue := by
  rw [changeVisit_queue h rfl]
  exact List.mem_map.2 ⟨x, hx, if_neg hn⟩

theorem heldShown_changeVisit (h : s.visitOf n = some v) (hw : { f v with number := n } = w) :
    s.HeldShown (s.changeVisit n f) v w := by
  rw [changeVisit_eq h hw]
  exact (heldShown_noteHeld _ v w).congr (keepsLatch_of_links (by simp) _) (.refl _ _)

theorem keepsLatch_changeVisit (s : State) (n : Nat) (f : Visit → Visit) (hk : k ≠ .visitHeld) :
    s.KeepsLatch (s.changeVisit n f) k := by
  unfold State.changeVisit
  split
  · exact .refl s k
  · exact (keepsLatch_of_links (by simp) k).trans (keepsLatch_noteHeld _ _ _ hk)

/-- The queue keeps its length and the Dispatcher its lines and its status. -/
theorem changeVisit_length (s : State) (n : Nat) (f : Visit → Visit) :
    (s.changeVisit n f).queue.length = s.queue.length := by
  unfold State.changeVisit
  split
  · rfl
  · simp [State.putVisit]

theorem noteChange_disp (s : State) (v w : Visit) :
    (s.noteChange v w).disp = { s.disp with mark := s.disp.mark || v.changed w } := by
  unfold State.noteChange
  split <;> simp [State.requestPass, *]

theorem changeVisit_disp (s : State) (n : Nat) (f : Visit → Visit) :
    (s.changeVisit n f).disp.lines = s.disp.lines ∧ (s.changeVisit n f).disp.status = s.disp.status := by
  unfold State.changeVisit
  split
  · exact ⟨rfl, rfl⟩
  · simp [noteChange_disp]

theorem changeVisit_signStatus (s : State) (n : Nat) (f : Visit → Visit) :
    (s.changeVisit n f).signStatus = s.signStatus :=
  signStatus_congr (by simp) (changeVisit_length s n f) (by simp)

end

end Sys2Proof.Machine
end

section
/-! The requests on visits and the ident timer (R28, R34 to R36). -/

namespace Sys2Proof.Machine

variable {s : State} {p : Port}

/-! ### What a ready port's rule reads (R177) -/

@[simp] theorem abandonFrame_visitOf (s : State) (p : Port) (n : Nat) : (s.abandonFrame p).visitOf n = s.visitOf n := rfl

@[simp] theorem abandonFrame_refuseVisit (s : State) (p : Port) (n : Nat) :
    (s.abandonFrame p).refuseVisit n = s.refuseVisit n := rfl

theorem refuseVisit_eq (s : State) (n : Nat) :
    s.refuseVisit n = refuse (if (s.bayHolding n).isSome then .refusedState else .badArgument) := by
  unfold State.refuseVisit
  split <;> rfl

/-! ### IDENT_TIMER_EXPIRY -/

/-- An ident timer that expires (R28). -/
theorem identExpired_eq {n d : Nat} {v : Visit} (h : s.visitOf n = some v) (hi : v.ident = .pending)
    (ht : v.identTimer = some d) :
    s.identExpired n = State.latch
      { s with
        queue := s.queue.map fun x => if x.number = n then { v with ident := .unknown, identTimer := none } else x,
        disp := { s.disp with mark := true } }
      (.visitHeld n .unknown v.hold) := by
  have hn := visitOf_number h
  rw [State.identExpired, changeVisit_eq h (w := { v with ident := .unknown, identTimer := none }) (by simp [ht, hn])]
  simp [State.noteHeld, State.noteChange, Visit.becameHeld, Visit.changed, hi, State.putVisit, State.requestPass, hn]

/-- Settles O19: the visit found by its number changes, and with none nothing does. -/
theorem identTimerExpiryMakesUnknown : Obligations.IdentTimerExpiryMakesUnknown := by
  intro n s hs
  obtain ⟨hl, hst⟩ := changeVisit_disp s n fun v =>
    match v.identTimer with
    | some _ => { v with ident := .unknown, identTimer := none }
    | none => v
  rw [event_quiet (exec_identTimerExpiry n s) hs hl hst (changeVisit_signStatus s n _)]
  refine ⟨fun hnone => ?_, fun v d hv hi ht => ?_⟩
  · rw [State.identExpired, State.changeVisit, hnone]
  · rw [identExpired_eq hv hi ht]

/-! ### Changed by a request -/

/-- A request that changes a queued visit and answers what the visit then shows. -/
theorem exec_changeVisit {c : Instr} {r : Request} {n : Nat} {v w : Visit} {f : Visit → Visit} {a : Reply}
    (hc : c.request = some (p, r)) (hs : s.Ready p) (hv : s.visitOf n = some v) (hw : { f v with number := n } = w)
    (hserve : (s.abandonFrame p).serve p r = ((s.abandonFrame p).changeVisit n f, a)) :
    ∃ t, exec c s = .next t ∧ t.visitOf n = some w ∧ s.Answered t p r a ∧ s.HeldShown t v w ∧
      (∀ x ∈ s.queue, x.number ≠ n → x ∈ t.queue) ∧
      t = { s with queue := t.queue, disp := t.disp, links := t.links } := by
  have hv' : (s.abandonFrame p).visitOf n = some v := hv
  obtain ⟨d, l, hexec, _, hreply, hlatch⟩ := exec_answered hc hs hserve
  refine ⟨_, hexec, visitOf_changeVisit hv' hw, hreply, ?_, fun x hx hn => mem_changeVisit hv' hx hn, ?_⟩
  · exact (heldShown_changeVisit hv' hw).congr (keepsLatch_abandonFrame s p _) (hlatch _)
  · simp [State.abandonFrame]

/-! ### PLATE -/

/-- A visit after PLATE, by its ident state and the entries with its plate (R34). -/
theorem plateVisit_kept {g : Plate} {v : Visit}
    (h : v.ident = .matched ∨ v.ident = .conflict ∨ s.register.filter (fun e => e.plate == some g) = []) :
    s.plateVisit g v = Visit.rehold { v with plate := some g } := by
  unfold State.plateVisit
  rcases h with h | h | h
  · rw [h]
  · rw [h]
  · rw [h]
    cases v.ident <;> rfl

theorem plateVisit_match {g : Plate} {v : Visit} {e : VehicleEntry} (hm : v.ident ≠ .matched) (hc : v.ident ≠ .conflict)
    (h : s.register.filter (fun e => e.plate == some g) = [e]) :
    s.plateVisit g v = ({ v with plate := some g }.takeMatch e).rehold := by
  unfold State.plateVisit
  rw [h]
  cases hi : v.ident <;> first | rfl | exact absurd hi hm | exact absurd hi hc

theorem plateVisit_conflict {g : Plate} {v : Visit} (hm : v.ident ≠ .matched) (hc : v.ident ≠ .conflict)
    (h : 2 ≤ (s.register.filter fun e => e.plate == some g).length) :
    s.plateVisit g v = Visit.rehold { v with plate := some g }.toConflict := by
  unfold State.plateVisit
  obtain ⟨e, e', l, hl⟩ : ∃ e e' l, (s.register.filter fun e => e.plate == some g) = e :: e' :: l := by
    revert h
    generalize (s.register.filter fun e => e.plate == some g) = l
    match l with
    | [] | [_] => simp
    | e :: e' :: l => exact fun _ => ⟨e, e', l, rfl⟩
  rw [hl]
  cases hi : v.ident <;> first | rfl | exact absurd hi hm | exact absurd hi hc

theorem plateVisit_cases (s : State) (g : Plate) (v : Visit) : ∃ x : Visit, s.plateVisit g v = x.rehold ∧
    x.hold = v.hold ∧ x.number = v.number := by
  unfold State.plateVisit
  dsimp only
  split <;> exact ⟨_, rfl, rfl, rfl⟩

theorem identOf_eq {n : Nat} {v : Visit} (h : s.visitOf n = some v) : s.identOf n = v.ident.ctorIdx := by
  simp [State.identOf, h]

theorem holdOf_eq {n : Nat} {v : Visit} (h : s.visitOf n = some v) : s.holdOf n = v.hold.ctorIdx := by
  simp [State.holdOf, h]

theorem beq_plate (s : State) (g : Plate) :
    (s.register.filter fun e => e.plate == some g) = s.register.filter fun e => e.plate = some g := by
  simp only [beq_eq_decide]

/-- PLATE's refusals: a plate that is none, or a visit not in the queue. -/
theorem doPlate_refused {n : Nat} {f : PlateField} {c : ReplyCode}
    (h : (∀ g, plateOf f ≠ some (some g)) ∧ c = .badArgument ∨
      (∃ g, plateOf f = some (some g)) ∧ s.visitOf n = none ∧
        c = if (s.bayHolding n).isSome then .refusedState else .badArgument) : s.doPlate n f = (s, refuse c) := by
  unfold State.doPlate
  rcases h with ⟨hf, rfl⟩ | ⟨⟨g, hf⟩, hv, rfl⟩
  · split
    next g hg => exact absurd hg (hf g)
    next => rfl
  · rw [hf]
    simp only [hv, refuseVisit_eq]

/-- Settles O20: by the plate, the visit and the entries that carry the plate. -/
theorem plateMatches : Obligations.PlateMatches := by
  refine fun p n f s hs => ⟨fun c h => exec_of_unchanged rfl hs (doPlate_refused h), fun g v hf hv => ?_⟩
  obtain ⟨x, hx, hold, hnum⟩ := plateVisit_cases s g v
  have hn := visitOf_number hv
  have hw : { s.plateVisit g v with number := n.toNat } = x.rehold := by
    rw [hx, rehold_eq, ← hn, ← hnum]
  have hafter := visitOf_changeVisit (s := s.abandonFrame p) hv (f := (s.abandonFrame p).plateVisit g) hw
  have hserve : (s.abandonFrame p).serve p (.plate n f) =
      ((s.abandonFrame p).changeVisit n.toNat ((s.abandonFrame p).plateVisit g),
        accept (be 1 x.rehold.ident.ctorIdx)) := by
    simp only [State.serve, State.doPlate, hf, abandonFrame_visitOf, hv, identOf_eq hafter]
  obtain ⟨t, hexec, hvt, hans, hheld, hother, hframe⟩ := exec_changeVisit (c := .plate p n f) rfl hs hv hw hserve
  refine ⟨t, x.rehold, hexec, hvt, hans, fun hkept => ?_, fun hm hc => ⟨fun e he => ?_, fun he => ?_⟩,
    hold ▸ rehold_hold x, hheld, hother, hframe⟩
  · rw [← beq_plate] at hkept
    rw [← hx, plateVisit_kept hkept, rehold_eq]
  · rw [← beq_plate] at he
    rw [← hx, plateVisit_match hm hc he, rehold_eq]
    rfl
  · rw [← beq_plate] at he
    rw [← hx, plateVisit_conflict hm hc he, rehold_eq]
    rfl

/-! ### IDENTIFY -/

theorem programmeOf_of_range {n : Nat} (h₁ : 1 ≤ n) (h₂ : n ≤ 12) : programmeOf n = some n :=
  if_pos ⟨h₁, h₂⟩

theorem programmeOf_eq_none {n : Nat} (h : n = 0 ∨ 12 < n) : programmeOf n = none :=
  if_neg (by omega)

theorem classOf_of_range {n : Nat} (h₁ : 1 ≤ n) (h₂ : n ≤ 6) : classOf n = some n :=
  if_pos ⟨h₁, h₂⟩

theorem classOf_eq_none {n : Nat} (h : n = 0 ∨ 6 < n) : classOf n = none :=
  if_neg (by omega)

/-- A class that may be left out: 0 is none. -/
theorem optionalOf_classOf {n : Nat} (h : n ≤ 6) : optionalOf classOf n = some (if n = 0 then none else some n) := by
  unfold optionalOf
  by_cases h0 : n = 0
  · simp [h0]
  · simp [h0, classOf_of_range (Nat.one_le_iff_ne_zero.2 h0) h]

theorem optionalOf_classOf_eq_none {n : Nat} (h : 6 < n) : optionalOf classOf n = none := by
  simp [optionalOf, classOf_eq_none (.inr h), show n ≠ 0 by omega]

theorem doIdentify_badArgument {n h g c : Nat} (hr : 64 ≤ h ∨ g = 0 ∨ 12 < g ∨ 6 < c) :
    s.doIdentify n h g c = (s, refuse .badArgument) := by
  unfold State.doIdentify
  split
  next hh hg hc =>
    rcases hr with hr | hr | hr | hr
    · simp [haulierOf_of_ge hr] at hh
    · simp [programmeOf_eq_none (.inl hr)] at hg
    · simp [programmeOf_eq_none (.inr hr)] at hg
    · simp [optionalOf_classOf_eq_none hr] at hc
  next => rfl

/-- Settles O21: by the ranges of the fields, then by where the visit stands, its call and its ident state. -/
theorem identifyMatches : Obligations.IdentifyMatches := by
  refine fun p n h g c s hs => ⟨fun hr => exec_of_unchanged rfl hs (doIdentify_badArgument hr),
    fun hh hg₁ hg₂ hc hv => exec_of_unchanged rfl hs ?_, fun v hh hg₁ hg₂ hc hv => ⟨fun hr => ?_, fun hcall hm => ?_⟩⟩
  · simp only [State.serve, State.doIdentify, haulierOf_of_lt hh, programmeOf_of_range hg₁ hg₂, optionalOf_classOf hc,
      abandonFrame_visitOf, hv, abandonFrame_refuseVisit]
    rw [refuseVisit_eq]
  · refine exec_of_unchanged rfl hs ?_
    simp only [State.serve, State.doIdentify, haulierOf_of_lt hh, programmeOf_of_range hg₁ hg₂, optionalOf_classOf hc,
      abandonFrame_visitOf, hv, hr, if_true]
  · have hn := visitOf_number hv
    let w := v.identify ⟨h.toNat, hh⟩ g.toNat (if c.toNat = 0 then none else some c.toNat)
    have hw : { w with number := n.toNat } = w := by
      simp only [w, Visit.identify, rehold_eq, hn]
    have hafter := visitOf_changeVisit (s := s.abandonFrame p) hv
      (f := fun v => v.identify ⟨h.toNat, hh⟩ g.toNat (if c.toNat = 0 then none else some c.toNat)) hw
    have hserve : (s.abandonFrame p).serve p (.identify n h g c) =
        ((s.abandonFrame p).changeVisit n.toNat fun v =>
            v.identify ⟨h.toNat, hh⟩ g.toNat (if c.toNat = 0 then none else some c.toNat),
          accept (be 1 w.hold.ctorIdx)) := by
      simp only [State.serve, State.doIdentify, haulierOf_of_lt hh, programmeOf_of_range hg₁ hg₂,
        optionalOf_classOf hc, abandonFrame_visitOf, hv, hcall, hm, Option.isSome_none, Bool.false_eq_true, or_self,
        if_false, holdOf_eq hafter]
    obtain ⟨t, hexec, hvt, hans, hheld, hother, hframe⟩ := exec_changeVisit (c := .identify p n h g c) rfl hs hv hw hserve
    have hcls : w.cls = if c.toNat = 0 then v.cls else some c.toNat := by
      simp only [w, Visit.identify, rehold_eq]
      split <;> rfl
    refine ⟨t, w, hexec, hvt, hans, ?_, ?_, hcls, ?_, ?_, ?_, rehold_hold _, hheld, hother, hframe⟩
    · simp [w, Visit.identify, rehold_eq]
    · simp [w, Visit.identify, rehold_eq]
    · simp [w, Visit.identify, rehold_eq]
    · simp [w, Visit.identify, rehold_eq, Fin.ext_iff]
    · simp [w, Visit.identify, rehold_eq]

/-! ### ENQUEUE -/

theorem doEnqueue_badArgument {h g c : Nat} {tag : TagId} {f : PlateField}
    (hr : 64 ≤ h ∨ g = 0 ∨ 12 < g ∨ c = 0 ∨ 6 < c ∨ plateOf f = none) :
    s.doEnqueue h g c tag f = (s, refuse .badArgument) := by
  unfold State.doEnqueue
  split
  next hh hg hc hf =>
    rcases hr with hr | hr | hr | hr | hr | hr
    · simp [haulierOf_of_ge hr] at hh
    · simp [programmeOf_eq_none (.inl hr)] at hg
    · simp [programmeOf_eq_none (.inr hr)] at hg
    · simp [classOf_eq_none (.inl hr)] at hc
    · simp [classOf_eq_none (.inr hr)] at hc
    · simp [hr] at hf
  next => rfl

theorem queueIsFull_iff (s : State) : s.queueIsFull = true ↔ 16 ≤ s.queue.length :=
  decide_eq_true_iff

/-- A tag that another held visit carries. -/
theorem carrier_isSome_iff (s : State) (n : Nat) (tag : TagId) :
    (s.carrier n tag).isSome = true ↔ ∃ v ∈ s.heldVisits, v.number ≠ n ∧ tag ∈ v.tags := by
  simp [State.carrier, List.find?_isSome]

/-- ENQUEUE with every field in range: QUEUE-FULL, then IN-USE, and otherwise a new visit at the tail (R36). -/
theorem doEnqueue_eq {h : Haulier} {g c : Nat} {tag : TagId} {f : PlateField} {pl : Option Plate} (hg₁ : 1 ≤ g)
    (hg₂ : g ≤ 12) (hc₁ : 1 ≤ c) (hc₂ : c ≤ 6) (hf : plateOf f = some pl) :
    s.doEnqueue h.val g c tag f =
      if s.queueIsFull then (s, refuse .queueFull)
      else if tag ≠ 0 ∧ (s.carrier 0 tag).isSome then (s, refuse .inUse)
      else ((s.joinQueue (enqueuedVisit s.nextNumber s.clock.time h g c tag pl)).requestPass,
        accept (be 2 s.nextNumber)) := by
  simp only [State.doEnqueue, haulierOf_of_lt h.isLt, programmeOf_of_range hg₁ hg₂, classOf_of_range hc₁ hc₂, hf]

theorem toNat_ofNat_haulier (h : Haulier) : (BitVec.ofNat 8 h.val).toNat = h.val := by
  rw [BitVec.toNat_ofNat]
  omega

/-- Settles O22: by the ranges of the fields, the room in the queue and the tag. -/
theorem enqueueCreatesVisit : Obligations.EnqueueCreatesVisit := by
  refine ⟨fun p h g c tag f s hs hr => exec_of_unchanged rfl hs (doEnqueue_badArgument hr),
    fun p h g c tag f pl s r hs hg₁ hg₂ hc₁ hc₂ hf hr => ?_⟩
  subst hr
  have hserve := doEnqueue_eq (s := s.abandonFrame p) (h := h) (tag := tag) hg₁ hg₂ hc₁ hc₂ hf
  rw [← toNat_ofNat_haulier h] at hserve
  refine ⟨fun hfull => exec_of_unchanged rfl hs (hserve.trans (if_pos ((queueIsFull_iff _).2 hfull))),
    fun hroom htag hused => exec_of_unchanged rfl hs ?_, fun hroom htag => ?_⟩
  · refine (hserve.trans (if_neg (mt (queueIsFull_iff _).1 (Nat.not_le.2 hroom)))).trans (if_pos ⟨htag, ?_⟩)
    exact (carrier_isSome_iff _ 0 tag).2 hused
  · have hfree : ¬ (tag ≠ 0 ∧ ((s.abandonFrame p).carrier 0 tag).isSome = true) := by
      rintro ⟨hne, hsome⟩
      obtain ⟨v, hv, _, hmem⟩ := (carrier_isSome_iff _ 0 tag).1 hsome
      exact (htag.resolve_left hne) v hv hmem
    obtain ⟨d, l, hexec, hd, hreply, _⟩ := exec_answered (c := .enqueue p (BitVec.ofNat 8 h.val) g c tag f) rfl hs
      ((hserve.trans (if_neg (mt (queueIsFull_iff _).1 (Nat.not_le.2 hroom)))).trans (if_neg hfree))
    exact ⟨_, hexec, hreply, rfl, rfl, hd ▸ rfl, rfl⟩

end Sys2Proof.Machine
end

section
/-! The tag reader line, the tag read buffer and the tag windows (R15 to R18, R25 to R27). -/

namespace Sys2Proof.Machine

variable {s t u : State}

/-! ### What leaves the sign alone -/

/-- From one state to another neither the call lines, nor the status line, nor its inputs have changed. -/
structure State.SameSign (s t : State) : Prop where
  lines : t.disp.lines = s.disp.lines
  status : t.disp.status = s.disp.status
  inputs : t.signStatus = s.signStatus

theorem State.SameSign.refl (s : State) : s.SameSign s := ⟨rfl, rfl, rfl⟩

theorem State.SameSign.trans (h : s.SameSign t) (h' : t.SameSign u) : s.SameSign u :=
  ⟨h'.lines.trans h.lines, h'.status.trans h.status, h'.inputs.trans h.inputs⟩

/-- An event whose rule leaves the sign alone. -/
theorem event_sameSign {c : Instr} {f : State → State} (hc : exec c s = s.event f) (hs : s.Running)
    (h : s.SameSign (f s)) : exec c s = .next (f s) :=
  event_quiet hc hs h.lines h.status h.inputs

theorem sameSign_latch (s : State) (e : Event) : s.SameSign (s.latch e) := ⟨rfl, rfl, rfl⟩

theorem sameSign_modLane (s : State) (f : Lane → Lane) : s.SameSign (s.modLane f) := ⟨rfl, rfl, rfl⟩

theorem sameSign_modMeas (s : State) (f : Measurement → Measurement) : s.SameSign (s.modMeas f) := ⟨rfl, rfl, rfl⟩

theorem sameSign_changeVisit (s : State) (n : Nat) (f : Visit → Visit) : s.SameSign (s.changeVisit n f) :=
  ⟨(changeVisit_disp s n f).1, (changeVisit_disp s n f).2, changeVisit_signStatus s n f⟩

theorem sameSign_offerQueued (s : State) (v : Visit) (tag : TagId) : s.SameSign (s.offerQueued v tag) := by
  unfold State.offerQueued
  split
  · exact .refl s
  · split
    · exact (sameSign_changeVisit ..).trans (sameSign_latch ..)
    · exact sameSign_changeVisit ..
    · exact (sameSign_changeVisit ..).trans (sameSign_latch ..)
    · exact (sameSign_changeVisit ..).trans (sameSign_latch ..)

theorem sameSign_offerCalled (s : State) (v : Visit) (tag : TagId) {adopt : State → State}
    (h : s.SameSign (adopt s)) : s.SameSign (s.offerCalled v tag adopt) := by
  unfold State.offerCalled
  split
  · exact .refl s
  · split
    · exact h
    · exact sameSign_latch ..
    · exact sameSign_latch ..

theorem sameSign_offerRead (s : State) (n : Nat) (tag : TagId) : s.SameSign (s.offerRead n tag) := by
  unfold State.offerRead
  split
  · split
    · exact sameSign_offerQueued ..
    · exact sameSign_offerCalled _ _ _ (sameSign_changeVisit ..)
  · split
    · exact .refl s
    · split
      · exact .refl s
      · exact sameSign_offerCalled _ _ _ ⟨rfl, rfl, rfl⟩

theorem sameSign_bufferRead (s : State) (tag : TagId) : s.SameSign (s.bufferRead tag) := by
  unfold State.bufferRead
  dsimp only
  split
  · exact sameSign_latch ..
  · split
    · exact sameSign_modLane ..
    · split
      · exact (sameSign_modLane ..).trans (sameSign_latch ..)
      · exact sameSign_modLane ..

theorem sameSign_takeTagFrame (s : State) (tag : TagId) (check : Byte) : s.SameSign (s.takeTagFrame tag check) := by
  unfold State.takeTagFrame State.takeRead
  split
  · split
    · unfold State.windowTakes
      split
      · exact .refl s
      · exact sameSign_offerRead ..
    · exact sameSign_bufferRead ..
  · exact .refl s

theorem sameSign_windowClosed (s : State) (n : Nat) : s.SameSign (s.windowClosed n) :=
  sameSign_changeVisit ..

/-! ### A read offered to a visit (R25, R26) -/

/-- A queued visit's tags changed: nothing of R30 follows. -/
theorem changeVisit_tags {n : Nat} {v : Visit} (h : s.visitOf n = some v) (l : List TagId) :
    (s.changeVisit n fun v => { v with tags := l }) =
      { s with queue := s.queue.map fun x => if x.number = n then { v with tags := l } else x } := by
  have hn := visitOf_number h
  rw [changeVisit_eq h (w := { v with tags := l }) (by simp [hn])]
  simp [State.noteHeld, State.noteChange, Visit.becameHeld, Visit.changed, State.putVisit, hn]

/-- A queued visit gone to CONFLICT: VISIT-HELD and a pass, unless it was in CONFLICT (R25, R30). -/
theorem changeVisit_conflict {n : Nat} {v : Visit} (h : s.visitOf n = some v) {f : Visit → Visit} {l : List TagId}
    (hf : f v = { v with tags := l, ident := .conflict, identTimer := none }) :
    s.changeVisit n f =
      let t := { s with queue := s.queue.map fun x =>
        if x.number = n then { v with tags := l, ident := .conflict, identTimer := none } else x }
      if v.ident = .conflict then t
      else State.latch { t with disp := { t.disp with mark := true } } (.visitHeld n .conflict v.hold) := by
  have hn := visitOf_number h
  rw [changeVisit_eq h (w := { v with tags := l, ident := .conflict, identTimer := none }) (by rw [hf]; simp [hn])]
  by_cases hi : v.ident = .conflict <;>
    simp [State.noteHeld, State.noteChange, Visit.becameHeld, Visit.changed, State.putVisit, State.requestPass, hn, hi]

/-- The visit that another visit's ID conflicts with. -/
theorem carrier_eq (s : State) (n : Nat) (tag : TagId) :
    s.carrier n tag = (s.heldVisits.find? fun x => decide (x.number ≠ n) && x.tags.contains tag).map (·.number) := rfl

/-- The event of a read that conflicts: IN-USE with the visit that carries the ID, or SECOND-ID (R25). -/
def conflictOf (n : Nat) (tag : TagId) (o : Option Visit) : Event :=
  .tagConflict n tag (if o.isSome then .inUse else .secondId) (o.map (·.number))

/-- A read offered to a queued visit without a call (R25). -/
theorem offerQueued_eq {n : Nat} {v : Visit} {tag : TagId} {o : Option Visit} (h : s.visitOf n = some v)
    (ho : o = s.heldVisits.find? fun x => decide (x.number ≠ n) && x.tags.contains tag) :
    s.offerQueued v tag =
      if tag ∈ v.tags then s
      else if o = none ∧ v.tags = [] then
        { s with queue := s.queue.map fun x => if x.number = n then { v with tags := [tag] } else x }
      else State.latch (
        let t := { s with queue := s.queue.map fun x => if x.number = n then
          { v with tags := if o = none ∧ v.tags.length = 1 then v.tags ++ [tag] else v.tags, ident := .conflict
                   identTimer := none } else x }
        if v.ident = .conflict then t
        else State.latch { t with disp := { t.disp with mark := true } } (.visitHeld n .conflict v.hold))
          (conflictOf n tag o) := by
  obtain rfl := visitOf_number h
  unfold State.offerQueued
  rw [carrier_eq, ← ho]
  by_cases hmem : tag ∈ v.tags
  · simp [hmem]
  · have hcontains : v.tags.contains tag = false := by simpa using hmem
    simp only [hcontains, Bool.false_eq_true, if_false, hmem]
    cases o with
    | some o => simp [conflictOf, changeVisit_conflict h (f := Visit.toConflict) (l := v.tags) rfl]
    | none =>
      match htags : v.tags with
      | [] => simp [changeVisit_tags h]
      | [x] => simp [conflictOf, changeVisit_conflict h (f := fun v => { v with tags := [x, tag] }.toConflict) rfl]
      | x :: y :: l =>
        simp [conflictOf, changeVisit_conflict h (f := Visit.toConflict) (l := v.tags) rfl, htags]

/-- A read offered to a visit that is called or in its bay (R26). -/
theorem offerCalled_eq {v : Visit} {tag : TagId} {o : Option Visit} {adopt : State → State}
    (ho : o = s.heldVisits.find? fun x => decide (x.number ≠ v.number) && x.tags.contains tag) :
    s.offerCalled v tag adopt =
      if tag ∈ v.tags then s else if o = none ∧ v.tags = [] then adopt s else s.latch (conflictOf v.number tag o) := by
  unfold State.offerCalled
  rw [carrier_eq, ← ho]
  by_cases hmem : tag ∈ v.tags
  · simp [hmem]
  · have hcontains : v.tags.contains tag = false := by simpa using hmem
    simp only [hcontains, Bool.false_eq_true, if_false, hmem]
    cases o with
    | some o => simp [conflictOf]
    | none =>
      match v.tags with
      | [] => simp
      | x :: l => simp [conflictOf]

/-- The number of the visit that a bay's record holds, where the bay was found by it. -/
theorem bayHolding_number {n : Nat} {b : Bay} {r : WorkRecord} {v : Visit} (h : s.bayHolding n = some b)
    (hr : s.record b = some r) (hv : r.visit = some v) : v.number = n := by
  have hb := List.find?_some h
  simpa [State.recordVisit, hr, hv] using hb

/-! ### TAG_FRAME -/

/-- An accepted frame's read. -/
theorem takeTagFrame_accepted {tag : TagId} {check : Byte} (hc : check = xorAll (be 5 tag.toNat)) (hid : tag ≠ 0) :
    s.takeTagFrame tag check = s.takeRead tag :=
  if_pos ⟨hc, hid⟩

/-- A frame that is discarded. -/
theorem takeTagFrame_discarded {tag : TagId} {check : Byte} (h : check ≠ xorAll (be 5 tag.toNat) ∨ tag = 0) :
    s.takeTagFrame tag check = s :=
  if_neg fun ⟨hc, hid⟩ => h.elim (fun h => h hc) hid

/-- A read with no window open is buffered. -/
theorem takeRead_noWindow {tag : TagId} (h : s.lane.windows = []) : s.takeRead tag = s.bufferRead tag := by
  simp [State.takeRead, h]

/-- A read with a window open is offered to the newest. -/
theorem takeRead_window {tag : TagId} {w : TagWindow} (h : s.lane.windows.getLast? = some w) :
    s.takeRead tag = s.windowTakes w.visit tag := by
  simp [State.takeRead, h]

/-- Settles O16: by the frame, the newest window, and where its visit stands. -/
theorem tagFrameIsRead : Obligations.TagFrameIsRead := by
  intro tag check s s' hs hs'
  have hexec : exec (.tagFrame tag check) s = .next (s'.takeTagFrame tag check) := by
    subst hs'
    exact event_sameSign (exec_tagFrame tag check s) hs
      ((sameSign_modLane s fun l => { l with frame := none }).trans (sameSign_takeTagFrame _ tag check))
  rw [hexec]
  refine ⟨fun h => congrArg _ (takeTagFrame_discarded h), fun hc hid => ?_⟩
  rw [takeTagFrame_accepted hc hid]
  have hwin : s'.lane.windows = s.lane.windows := hs' ▸ rfl
  refine ⟨fun w hw hnone => ?_, fun w n o e hw hn ho he => ?_, fun hw h0 => ?_, fun r hw h0 hr => ?_⟩
  · rw [takeRead_window (hwin ▸ hw), hnone]
    rfl
  · rw [takeRead_window (hwin ▸ hw), hn]
    have hvisit : s'.visitOf n = s.visitOf n := by rw [hs']; rfl
    have ho' : o = s'.heldVisits.find? fun x => decide (x.number ≠ n) && x.tags.contains tag := by
      rw [ho, hs']
      rfl
    have hqueue : s'.queue = s.queue := by rw [hs']
    have he' : e = conflictOf n tag o := he
    subst he'
    refine ⟨fun v q hv hcall hq => ?_, fun v adopted hv => congrArg _ ?_, fun hv hb => ?_⟩
    · subst hq
      have hv' := hvisit.trans hv
      have hoffer : s'.windowTakes (some n) tag = s'.offerQueued v tag := by
        simp only [State.windowTakes, State.offerRead, hv', hcall]
      rw [hoffer, offerQueued_eq hv' ho', hqueue]
    · rcases hv with ⟨b, hv, hcall, hadopt⟩ | ⟨b, r, hv, hb, hr, hrv, hadopt⟩
      · have hv' := hvisit.trans hv
        obtain rfl := visitOf_number hv
        have htaken : (s'.changeVisit v.number fun v => { v with tags := [tag] }) = adopted := by
          rw [changeVisit_tags hv', hadopt, hqueue]
        simp only [State.windowTakes, State.offerRead, hv', hcall]
        rw [offerCalled_eq ho', htaken]
      · have hv' := hvisit.trans hv
        have hb' : s'.bayHolding n = some b := by rw [hs']; exact hb
        have hr' : s'.record b = some r := by rw [hs']; exact hr
        obtain rfl := bayHolding_number hb hr hrv
        have htaken : s'.adoptInBay b tag = adopted := by
          have hr'' : (s.bays.get b).record = some r := hr
          rw [hadopt, State.adoptInBay, State.modRecord, State.modBay, hs']
          simp [hr'', hrv]
        simp only [State.windowTakes, State.offerRead, hv', hb', hr', Option.bind_some, hrv]
        rw [offerCalled_eq ho', htaken]
    · have hv' := hvisit.trans hv
      have hb' : s'.bayHolding n = none := by rw [hs']; exact hb
      simp only [State.windowTakes, State.offerRead, hv', hb']
  · have hw' : s'.lane.windows = [] := hwin.trans hw
    have hwidth : s'.active.tagWidth = 0 := by rw [hs']; exact h0
    have hclock : s'.clock = s.clock := by rw [hs']
    simp [takeRead_noWindow hw', State.bufferRead, hwidth, State.strayRead, hclock]
  · have hw' : s'.lane.windows = [] := hwin.trans hw
    have hreads : s'.lane.reads = s.lane.reads := by rw [hs']
    have hwidth : s'.active.tagWidth ≠ 0 := by rw [hs']; exact h0
    have hread : (⟨tag, s'.laneTime, s'.clock.time, s'.active.tagWidth⟩ : TagRead) = r := by
      rw [hr, hs']
      rfl
    rw [takeRead_noWindow hw']
    refine ⟨fun hlen => congrArg _ ?_, fun o l hl hlen => congrArg _ ?_⟩
    · unfold State.bufferRead
      simp only [hwidth, if_false, hread, hreads]
      match hl : s.lane.reads with
      | [] => rfl
      | o :: l =>
        have hlt : ¬ Config.readCapacity ≤ (o :: l).length := by
          rw [← hl]
          exact Nat.not_le.2 hlen
        simp only [hlt, if_false]
        simp only [State.modLane, hreads, hl]
    · have hge : Config.readCapacity ≤ (o :: l).length := hl ▸ hlen
      unfold State.bufferRead
      simp only [hwidth, if_false, hread, hreads, hl, hge, if_true, State.modLane, State.strayRead]

/-! ### TAG_BYTE, TAG_FRAME_GAP, TAG_READ_CHANCE_PASSED -/

/-- The five bytes of an ID and a sixth read back as the ID (R15). -/
theorem field_of_tag (tag : TagId) (b : Byte) : BitVec.ofNat 40 (field (be 5 tag.toNat ++ [b]) 0 5) = tag :=
  bitsAt_of_drop (w := 40) (k := 5) (rest := [b]) tag rfl rfl

theorem tagByte_sameSign (s : State) (b : Byte) : s.SameSign (s.tagByte b) := by
  unfold State.tagByte
  split
  · exact sameSign_modLane ..
  · dsimp only
    split
    · exact (sameSign_modLane ..).trans (sameSign_takeTagFrame ..)
    · exact sameSign_modLane ..

/-- Settles O17: by the partial frame as the line's time finds it, and a read by its place. -/
theorem tagLineBytes : Obligations.TagLineBytes := by
  refine ⟨fun b s f hs hf => ?_, fun s hs => ⟨?_, fun place => ⟨fun hplace => ?_, fun r hr => ?_⟩⟩⟩
  · have hpartial : s.lane.partialFrame s.timebase = f := hf.symm
    rw [event_sameSign (exec_tagByte b s) hs (tagByte_sameSign s b)]
    refine ⟨fun hnone hb => ?_, fun hnone hb => ?_, fun l hl hlen => ?_, fun tag htag => ?_⟩
    · simp only [State.tagByte, hpartial, hnone, State.modLane, if_neg hb]
    · simp only [State.tagByte, hpartial, hnone, State.modLane, if_pos hb]
    · have hshort : ¬ (l ++ [b]).length = 6 := by simp; omega
      simp only [State.tagByte, hpartial, hl, hshort, if_false, State.modLane]
    · have hlen : (be 5 tag.toNat ++ [b]).length = 6 := rfl
      refine Eq.trans (congrArg _ ?_) (event_sameSign (exec_tagFrame tag b _) (by exact hs)
        ((sameSign_modLane _ _).trans (sameSign_takeTagFrame _ tag b))).symm
      simp only [State.tagByte, hpartial, htag, hlen, if_true, field_of_tag]
      rfl
  · exact event_sameSign (exec_tagFrameGap s) hs (sameSign_modLane ..)
  · have hnone : s.lane.reads[place]? = none := List.getElem?_eq_none hplace
    have hsame : s.chancePassed place = s := by simp [State.chancePassed, hnone]
    rw [event_sameSign (exec_tagReadChancePassed place s) hs (by rw [hsame]; exact .refl s), hsame]
  · have hstray : s.chancePassed place =
        (s.modLane fun l => { l with reads := l.reads.eraseIdx place }).strayRead r := by
      simp [State.chancePassed, hr]
    rw [event_sameSign (exec_tagReadChancePassed place s) hs
      (by rw [hstray]; exact (sameSign_modLane ..).trans (sameSign_latch ..)), hstray]
    rfl

/-! ### The window-close notice (R18, R27) -/

theorem closedVisit_number (s : State) (v : Visit) : (s.closedVisit v).number = v.number := by
  unfold State.closedVisit State.startIdentTimer
  split
  · split
    · rw [rehold_eq]
      rfl
    · split <;> rw [rehold_eq]
  · rfl

/-- What the window-close notice makes of a visit depends on the register, the terms and the lane time. -/
theorem closedVisit_congr (hr : t.register = s.register) (ha : t.active = s.active) (ht : t.timebase = s.timebase) :
    t.closedVisit = s.closedVisit := by
  funext v
  simp only [State.closedVisit, State.entryFor, State.lookup, State.startIdentTimer, State.afterSeconds,
    State.laneTime, hr, ha, ht]

theorem entryFor_of_tag {v : Visit} {g : TagId} (h : v.tags = [g]) : s.entryFor v = s.lookup g := by
  simp [State.entryFor, h]

theorem entryFor_eq_none {v : Visit} (h : ∀ g e, v.tags = [g] → s.lookup g ≠ some e) : s.entryFor v = none := by
  unfold State.entryFor
  split
  next g hg => exact Option.eq_none_iff_forall_ne_some.2 fun e => h g e hg
  next => rfl

theorem noticeTaken_closedVisit (s : State) (v : Visit) : s.NoticeTaken v (s.closedVisit v) := by
  refine ⟨fun hp => if_neg hp, fun hp => ?_⟩
  unfold State.closedVisit
  rw [if_pos hp]
  refine ⟨?_, fun g e hg he => ?_, fun hnone => ⟨fun h0 => ?_, fun h0 => ?_⟩⟩
  · split
    · exact rehold_hold _
    · unfold State.startIdentTimer
      split <;> exact rehold_hold _
  · rw [entryFor_of_tag hg, he]
    simp only [rehold_eq]
    rfl
  · rw [entryFor_eq_none hnone]
    simp only [State.startIdentTimer, h0, if_true, rehold_eq]
  · rw [entryFor_eq_none hnone]
    simp only [State.startIdentTimer, h0, if_false, rehold_eq]
    rfl

/-- A queued visit takes its window-close notice. -/
theorem windowClosed_notice {n : Nat} {v : Visit} (h : s.visitOf n = some v) :
    (s.windowClosed n).visitOf n = some (s.closedVisit v) :=
  visitOf_changeVisit h (by rw [← visitOf_number h, ← closedVisit_number s v])

theorem windowClosed_heldShown {n : Nat} {v : Visit} (h : s.visitOf n = some v) :
    s.HeldShown (s.windowClosed n) v (s.closedVisit v) :=
  heldShown_changeVisit h (by rw [← visitOf_number h, ← closedVisit_number s v])

theorem measuring_iff (s : State) (n : Nat) :
    s.measuring n = true ↔ ∃ m, s.lane.meas = some m ∧ m.binding = .bound n ∧ m.stuck = false := by
  unfold State.measuring
  cases s.lane.meas <;> simp

/-! ### TAG_WINDOW_EXPIRY -/

/-- A window that has its A-off time expires: it leaves the list and gives its notice. -/
theorem windowExpired_eq {place : Nat} {w : TagWindow} (hw : s.lane.windows[place]? = some w)
    (ho : w.aOff.isSome = true) : s.windowExpired place =
      State.closeNotice { s with lane := { s.lane with windows := s.lane.windows.eraseIdx place } } w := by
  simp only [State.windowExpired, hw, ho, if_true, State.closeWindow, State.modLane]

/-- Settles O18: by the window's visit and whether it is still measured. -/
theorem tagWindowExpires : Obligations.TagWindowExpires := by
  intro place s s' w hs hw ho hs'
  have hexpired : s.windowExpired place = s'.closeNotice w := hs' ▸ windowExpired_eq hw ho
  refine ⟨fun hnone => ?_, fun n m hn hm hb hst => ?_, fun n v hn hm hv => ?_⟩
  · have hsame : s'.closeNotice w = s' := by simp [State.closeNotice, hnone]
    rw [event_sameSign (exec_tagWindowExpiry place s) hs (by rw [hexpired, hsame, hs']; exact ⟨rfl, rfl, rfl⟩),
      hexpired, hsame]
  · have hmeas : s'.measuring n = true := (measuring_iff s' n).2 ⟨m, hs' ▸ hm, hb, hst⟩
    have hheld : s'.closeNotice w = s'.modMeas fun m => { m with heldNotice := true } := by
      simp [State.closeNotice, hn, hmeas]
    have hm' : s'.lane.meas = some m := hs' ▸ hm
    rw [event_sameSign (exec_tagWindowExpiry place s) hs (by rw [hexpired, hheld, hs']; exact ⟨rfl, rfl, rfl⟩),
      hexpired, hheld]
    simp [State.modMeas, hm']
  · have hmeas : ¬ s'.measuring n = true := fun h => by
      obtain ⟨m, hm', hb, hst⟩ := (measuring_iff s' n).1 h
      subst hs'
      exact (hm m hm').elim (fun h => h hb) fun h => by simp [h] at hst
    have hclose : s'.closeNotice w = s'.windowClosed n := by simp [State.closeNotice, hn, hmeas]
    have hv' : s'.visitOf n = some v := hs' ▸ hv
    have hcl : s'.closedVisit v = s.closedVisit v := by
      rw [closedVisit_congr (s := s) (by rw [hs']) (by rw [hs']) (by rw [hs'])]
    obtain ⟨d, hd, _⟩ := event_answers (exec_tagWindowExpiry place s) hs.1
    rw [hexpired, hclose] at hd
    refine ⟨_, _, hd, by simp [State.windowClosed], windowClosed_notice hv', ?_, ?_, fun y hy hne => ?_, ?_⟩
    · exact hcl ▸ noticeTaken_closedVisit s v
    · exact (windowClosed_heldShown hv').congr (keepsLatch_of_links (by rw [hs']) _) (keepsLatch_of_links rfl _)
    · exact mem_changeVisit hv' (by rw [hs']; exact hy) hne
    · simp [State.windowClosed, hs']

end Sys2Proof.Machine
end

section
/-! The measurement and its ends (R5 to R14, R18, R23): what a hand-over makes of a visit, what a report latches, and the
commands of loop B and of the lane's timers. -/

namespace Sys2Proof.Machine

variable {s t u : State} {k : EventKind}

/-! ### What changes no latch -/

theorem State.KeepsLatch.modJournal (h : s.KeepsLatch t k) (f : Journal → Journal) : s.KeepsLatch (t.modJournal f) k := h

theorem State.KeepsLatch.modBay (h : s.KeepsLatch t k) (b : Bay) (f : BayUnit → BayUnit) :
    s.KeepsLatch (t.modBay b f) k := h

theorem State.KeepsLatch.modRecord (h : s.KeepsLatch t k) (b : Bay) (f : WorkRecord → WorkRecord) :
    s.KeepsLatch (t.modRecord b f) k := h

theorem State.KeepsLatch.modWater (h : s.KeepsLatch t k) (f : Resources → Resources) : s.KeepsLatch (t.modWater f) k := h

theorem State.KeepsLatch.modDisp (h : s.KeepsLatch t k) (f : Dispatcher → Dispatcher) : s.KeepsLatch (t.modDisp f) k := h

theorem State.KeepsLatch.modClock (h : s.KeepsLatch t k) (f : Clock → Clock) : s.KeepsLatch (t.modClock f) k := h

theorem State.KeepsLatch.requestPass (h : s.KeepsLatch t k) : s.KeepsLatch t.requestPass k := h

theorem State.KeepsLatch.latch (h : s.KeepsLatch t k) (e : Event) (hk : k ≠ e.kind) : s.KeepsLatch (t.latch e) k :=
  h.trans (keepsLatch_latch t hk)

/-! ### What the journal and the bays latch when a call ends -/

theorem State.KeepsLatch.judgeLow (h : s.KeepsLatch t k) (hl : k ≠ .journalLow) : s.KeepsLatch t.judgeLow k := by
  unfold State.judgeLow
  split
  · exact h
  · split
    · split
      · exact (h.modJournal _).latch _ (by exact hl)
      · exact h
    · exact h.modJournal _

theorem State.KeepsLatch.appendDayClose (h : s.KeepsLatch t k) (d : DayClose) (hl : k ≠ .journalLow)
    (hd : k ≠ .dayClosed) : s.KeepsLatch (t.appendDayClose d) k :=
  ((h.modJournal _).latch _ (by exact hd)).judgeLow hl

theorem State.KeepsLatch.writePendingClose (h : s.KeepsLatch t k) (hl : k ≠ .journalLow) (hd : k ≠ .dayClosed) :
    s.KeepsLatch t.writePendingClose k := by
  unfold State.writePendingClose
  split
  · exact h
  · split
    · exact ((h.appendDayClose _ hl hd).modJournal _).requestPass
    · exact h

theorem State.KeepsLatch.dropReservation (h : s.KeepsLatch t k) (hl : k ≠ .journalLow) (hd : k ≠ .dayClosed) :
    s.KeepsLatch t.dropReservation k :=
  ((h.modJournal _).judgeLow hl).writePendingClose hl hd

theorem State.KeepsLatch.goIdle (h : s.KeepsLatch t k) (b : Bay) (hi : k ≠ .intrusion) :
    s.KeepsLatch (t.goIdle b) k := by
  unfold State.goIdle
  split
  · dsimp only
    split
    · exact (h.modBay b _).requestPass.latch _ (by exact hi)
    · exact (h.modBay b _).requestPass
  · exact h.modBay b _

theorem State.KeepsLatch.endCall (h : s.KeepsLatch t k) (b : Bay) (hl : k ≠ .journalLow) (hd : k ≠ .dayClosed) :
    s.KeepsLatch (t.endCall b) k :=
  ((h.modBay b _).dropReservation hl hd).modDisp _

theorem State.KeepsLatch.dropVisit (h : s.KeepsLatch t k) (n : Nat) : s.KeepsLatch (t.dropVisit n) k := h

theorem State.KeepsLatch.removeVisit (h : s.KeepsLatch t k) (n : Nat) (hl : k ≠ .journalLow) (hd : k ≠ .dayClosed)
    (hi : k ≠ .intrusion) : s.KeepsLatch (t.removeVisit n) k := by
  unfold State.removeVisit
  split
  · exact h
  · split
    · exact h.dropVisit n
    · exact ((h.dropVisit n).endCall _ hl hd).goIdle _ hi

/-! ### The hand-over (R23) -/

/-- A visit that has taken the hand-over of a measurement's axles, a length, and the class they give. -/
def State.handed (s : State) (m : Measurement) (len : Option Nat) (v : Visit) : Visit :=
  Visit.rehold { v with axles := some m.axles, length := len, cls := (s.active.classify m.axles len).1
                        verdict := (s.active.classify m.axles len).2, ident := v.ident.afterHandOver }

theorem afterHandOver_eq (i : IdentState) : i.afterHandOver = if i = .measuring then .pending else i := by
  cases i <;> rfl

theorem handed_number (s : State) (m : Measurement) (len : Option Nat) (v : Visit) :
    (s.handed m len v).number = v.number := by
  rw [State.handed, rehold_eq]

/-- The hand-over, and then a notice where it is due. -/
theorem handedTo_of_notice {m : Measurement} {len : Option Nat} {notice : Prop} {v w : Visit}
    (hn : ¬ notice → w = s.handed m len v) (hy : notice → w = s.closedVisit (s.handed m len v)) :
    s.HandedTo m len notice v w := by
  have hu : s.handed m len v = (let k := s.active.classify m.axles len
      let x := { v with axles := some m.axles, length := len, cls := k.1, verdict := k.2
                        ident := if v.ident = IdentState.measuring then .pending else v.ident }
      { x with hold := x.heldAs v.hold }) := by
    rw [State.handed, rehold_eq, afterHandOver_eq]
  refine ⟨fun h => (hn h).trans hu, fun h => ?_⟩
  rw [hy h, ← hu]
  exact noticeTaken_closedVisit s _

/-! ### The visits that a change leaves as they are -/

theorem find?_replace_ne {l : List Visit} {n k : Nat} {w : Visit} (hw : w.number = n) (hk : k ≠ n) :
    (l.map fun x => if x.number = n then w else x).find? (fun x => x.number == k) =
      l.find? fun x => x.number == k := by
  induction l with
  | nil => rfl
  | cons x l ih =>
    by_cases hx : x.number = n
    · have hxk : ¬ x.number = k := fun h => hk (h.symm.trans hx)
      simp only [List.map_cons, hx, if_true]
      rw [List.find?_cons_of_neg (by simpa [hw] using hk.symm), List.find?_cons_of_neg (by simpa using hxk), ih]
    · simp only [List.map_cons, hx, if_false]
      by_cases hxk : x.number = k
      · rw [List.find?_cons_of_pos (by simpa using hxk), List.find?_cons_of_pos (by simpa using hxk)]
      · rw [List.find?_cons_of_neg (by simpa using hxk), List.find?_cons_of_neg (by simpa using hxk), ih]

/-- A change of one visit leaves the others where they are found. -/
theorem visitOf_changeVisit_ne (s : State) {n i : Nat} (f : Visit → Visit) (h : i ≠ n) :
    (s.changeVisit n f).visitOf i = s.visitOf i := by
  cases hv : s.visitOf n with
  | none => rw [State.changeVisit, hv]
  | some v =>
    rw [State.visitOf, changeVisit_queue hv rfl]
    exact find?_replace_ne rfl h

theorem mem_changeVisit_ne (s : State) {n : Nat} (f : Visit → Visit) {x : Visit} (hx : x ∈ s.queue)
    (hn : x.number ≠ n) : x ∈ (s.changeVisit n f).queue := by
  cases hv : s.visitOf n with
  | none =>
    rw [State.changeVisit, hv]
    exact hx
  | some v => exact mem_changeVisit hv hx hn

theorem changeVisit_numbers (s : State) (n : Nat) (f : Visit → Visit) :
    (s.changeVisit n f).queue.map (·.number) = s.queue.map (·.number) := by
  cases hv : s.visitOf n with
  | none => rw [State.changeVisit, hv]
  | some v =>
    rw [changeVisit_queue hv rfl, List.map_map]
    refine List.map_congr_left fun x _ => ?_
    by_cases hx : x.number = n <;> simp [hx]

/-! ### The report of a completed measurement (R9, R14) -/

section
variable {m : Measurement} {len : Option Nat} {n : Nat} {v : Visit}

theorem report_refused (h : m.binding = .refused) :
    s.report m len = s.latch (.arrivalRefused m.arrival (some m.axles) len (s.active.classify m.axles len).1) := by
  simp [State.report, h]

theorem report_lost (h : m.binding = .lost) : s.report m len = s := by
  simp [State.report, h]

theorem report_bound (h : m.binding = .bound n) : s.report m len =
    (s.changeVisit n (s.handed m len)).giveHeldNotice m n := by
  simp only [State.report, h]
  rfl

/-- A queued visit takes the hand-over, and the notice that was held back. -/
theorem report_handed (h : m.binding = .bound n) (hv : s.visitOf n = some v) :
    (s.report m len).visitOf n =
      some (if m.heldNotice then s.closedVisit (s.handed m len v) else s.handed m len v) := by
  have hafter : (s.changeVisit n (s.handed m len)).visitOf n = some (s.handed m len v) :=
    visitOf_changeVisit hv (by rw [← visitOf_number hv, ← handed_number s m len v])
  rw [report_bound h, State.giveHeldNotice]
  split
  · rw [windowClosed_notice hafter, closedVisit_congr (s := s) (by simp) (by simp) (by simp)]
  · exact hafter

theorem report_handedTo (h : m.binding = .bound n) (hv : s.visitOf n = some v) :
    ∃ w, (s.report m len).visitOf n = some w ∧ s.HandedTo m len (m.heldNotice = true) v w ∧
      (m.heldNotice = false → s.HeldShown (s.report m len) v w) := by
  refine ⟨_, report_handed h hv, handedTo_of_notice (fun hn => if_neg hn) fun hy => if_pos hy, fun hn => ?_⟩
  have hw : { s.handed m len v with number := n } = s.handed m len v := by
    rw [← visitOf_number hv, ← handed_number s m len v]
  have hsame : s.report m len = s.changeVisit n (s.handed m len) := by
    rw [report_bound h, State.giveHeldNotice, hn]
    rfl
  rw [hsame, hn]
  exact heldShown_changeVisit hv hw

/-- A report leaves the visits it does not hand over to. -/
theorem visitOf_report_ne (h : m.binding ≠ .bound n) : (s.report m len).visitOf n = s.visitOf n := by
  cases hb : m.binding with
  | bound i =>
    have hne : n ≠ i := fun hni => h (hni ▸ hb)
    rw [report_bound hb, State.giveHeldNotice]
    split
    · rw [State.windowClosed, visitOf_changeVisit_ne _ _ hne, visitOf_changeVisit_ne _ _ hne]
    · rw [visitOf_changeVisit_ne _ _ hne]
  | refused => rw [report_refused hb]; rfl
  | lost => rw [report_lost hb]

theorem mem_report {x : Visit} (hx : x ∈ s.queue) (h : m.binding ≠ .bound x.number) : x ∈ (s.report m len).queue := by
  cases hb : m.binding with
  | bound i =>
    have hne : x.number ≠ i := fun hni => h (hni ▸ hb)
    rw [report_bound hb, State.giveHeldNotice]
    split
    · exact mem_changeVisit_ne _ _ (mem_changeVisit_ne s _ hx hne) hne
    · exact mem_changeVisit_ne s _ hx hne
  | refused => rw [report_refused hb]; exact hx
  | lost => rwa [report_lost hb]

theorem report_numbers (s : State) (m : Measurement) (len : Option Nat) :
    (s.report m len).queue.map (·.number) = s.queue.map (·.number) := by
  cases hb : m.binding with
  | bound i =>
    rw [report_bound hb, State.giveHeldNotice]
    split
    · rw [State.windowClosed, changeVisit_numbers, changeVisit_numbers]
    · rw [changeVisit_numbers]
  | refused => rw [report_refused hb]; rfl
  | lost => rw [report_lost hb]

theorem keepsLatch_windowClosed (s : State) (n : Nat) (hk : k ≠ .visitHeld) : s.KeepsLatch (s.windowClosed n) k :=
  keepsLatch_changeVisit s n _ hk

/-- A report latches VISIT-HELD, and ARRIVAL-REFUSED for a REFUSED measurement. -/
theorem keepsLatch_report (s : State) (m : Measurement) (len : Option Nat) (hk : k ≠ .visitHeld)
    (hr : m.binding = .refused → k ≠ .arrivalRefused) : s.KeepsLatch (s.report m len) k := by
  cases hb : m.binding with
  | bound i =>
    rw [report_bound hb, State.giveHeldNotice]
    split
    · exact (keepsLatch_changeVisit s _ _ hk).trans (keepsLatch_windowClosed _ _ hk)
    · exact keepsLatch_changeVisit s _ _ hk
  | refused => rw [report_refused hb]; exact keepsLatch_latch s (hr hb)
  | lost => rw [report_lost hb]; exact .refl s k

theorem sameSign_report (s : State) (m : Measurement) (len : Option Nat) : s.SameSign (s.report m len) := by
  cases hb : m.binding with
  | bound i =>
    rw [report_bound hb, State.giveHeldNotice]
    split
    · exact (sameSign_changeVisit ..).trans (sameSign_windowClosed ..)
    · exact sameSign_changeVisit ..
  | refused => rw [report_refused hb]; exact sameSign_latch ..
  | lost => rw [report_lost hb]; exact .refl s

end

/-! ### The Class Table (R10) -/

theorem classify_none (k : Bank) (axles : Nat) : k.classify axles none = (none, .measure) := rfl

/-- The row of the Class Table that a search from the lowest finds. -/
theorem classFor_eq {k : Bank} {axles len c : Nat} (hc : 1 ≤ c ∧ c ≤ 6)
    (ha : axles ≤ k.maxAxles c ∧ len ≤ k.maxLength c)
    (hlow : ∀ i, 1 ≤ i → i < c → ¬ (axles ≤ k.maxAxles i ∧ len ≤ k.maxLength i)) :
    k.classFor axles len = some c := by
  have hfind : (List.range 6).find? (fun i => axles ≤ k.maxAxles (i + 1) && len ≤ k.maxLength (i + 1)) =
      some (c - 1) := by
    rw [List.find?_range_eq_some]
    have hcc : c - 1 + 1 = c := by omega
    refine ⟨by simpa [hcc] using ha, by simp; omega, fun j hj => ?_⟩
    have := hlow (j + 1) (by omega) (by omega)
    rw [Bool.not_eq_true', Bool.eq_false_iff]
    simpa using this
  rw [Bank.classFor, hfind]
  simp
  omega

theorem classFor_eq_none {k : Bank} {axles len : Nat}
    (h : ∀ c, 1 ≤ c → c ≤ 6 → ¬ (axles ≤ k.maxAxles c ∧ len ≤ k.maxLength c)) : k.classFor axles len = none := by
  rw [Bank.classFor, Option.map_eq_none_iff, List.find?_eq_none]
  intro i hi
  have := h (i + 1) (by omega) (by have := List.mem_range.1 hi; omega)
  simpa using this

/-! ### B_ON (R7) -/

/-- A measurement that completes: the report, and the unit ARMED (R9). -/
theorem complete_eq (s : State) (m : Measurement) (len : Option Nat) :
    s.complete m len = { s.report m len with lane := { (s.report m len).lane with meas := none } } := rfl

theorem sameSign_complete (s : State) (m : Measurement) (len : Option Nat) : s.SameSign (s.complete m len) :=
  (sameSign_report s m len).trans ⟨rfl, rfl, rfl⟩

/-- What the first B-on of a measurement does (R7, R8). -/
theorem bOn_eq {m : Measurement} {e : Nat} {len : Option Nat} (hm : s.lane.meas = some m) (hst : m.stuck = false)
    (htab : m.tab = none) (he : e = elapsed s.laneTime m.t0)
    (hlen : len = if e = 65535 then none else m.ta.map fun a => min 65535 (s.active.laneSpacing * a / e)) :
    s.bOn = if m.ta.isSome = true ∨ e = 65535 then
        s.complete (if e = 65535 then m else { m with tab := some e }) len
      else s.modMeas fun m => { m with tab := some e } := by
  have hmax : Config.maxElapsed = 65535 := rfl
  simp only [State.bOn, hm, hst, htab, ← he, hmax, hlen]
  by_cases h : e = 65535
  · simp [h]
  · cases hta : m.ta <;> simp [h, vehicleLength]

/-- Settles O13: by the Class Table's rows, then by what is known of the measurement and its binding. -/
theorem bOnTimes : Obligations.BOnTimes := by
  refine ⟨exec_bOff, fun k axles len admits hadmits => ⟨classify_none k axles, fun h => ?_, fun h₁ h₂ => ?_,
    fun c h₁ h₂ hc₁ hc₂ ha hlow => ?_, fun h₁ h₂ hnone => ?_⟩, fun s hs => ⟨fun h => ?_, fun m e len hm hst htab he hlen => ?_⟩⟩
  · simp [Bank.classify, h]
  · simp [Bank.classify, show ¬ axles ≤ 1 by omega, h₂]
  · subst hadmits
    simp [Bank.classify, show ¬ axles ≤ 1 by omega, show ¬ 3000 < len by omega, classFor_eq ⟨hc₁, hc₂⟩ ha hlow]
  · subst hadmits
    simp [Bank.classify, show ¬ axles ≤ 1 by omega, show ¬ 3000 < len by omega, classFor_eq_none hnone]
  · have hsame : s.bOn = s := by
      unfold State.bOn
      rcases h with h | ⟨m, hm, h⟩
      · rw [h]
      · simp only [hm]
        rw [if_pos h]
    rw [event_sameSign (exec_bOn s) hs (by rw [hsame]; exact .refl s), hsame]
  · have hbon := bOn_eq hm hst htab he hlen
    refine ⟨fun hta hne => ?_, fun hdone => ?_⟩
    · rw [if_neg (by simp [hta, hne])] at hbon
      rw [event_sameSign (exec_bOn s) hs (by rw [hbon]; exact sameSign_modMeas ..), hbon]
      simp [State.modMeas, hm]
    · rw [if_pos hdone] at hbon
      have hexec := event_sameSign (exec_bOn s) hs (by rw [hbon]; exact sameSign_complete ..)
      rw [hbon, complete_eq] at hexec
      generalize hm' : (if e = 65535 then m else { m with tab := some e }) = m' at hexec
      have hbind : m'.binding = m.binding := by rw [← hm']; split <;> rfl
      have hheld : m'.heldNotice = m.heldNotice := by rw [← hm']; split <;> rfl
      have haxles : m'.axles = m.axles := by rw [← hm']; split <;> rfl
      have harr : m'.arrival = m.arrival := by rw [← hm']; split <;> rfl
      refine ⟨fun n v hb hv => ?_, fun hb => ?_, fun hb => ?_⟩
      · obtain ⟨w, hw, hto, hshown⟩ := report_handedTo (len := len) (hbind.trans hb) hv
        refine ⟨_, w, hexec, by simp, hw, ?_, fun hn => ?_, fun x hx hne => ?_, by simp⟩
        · simpa only [State.HandedTo, haxles, hheld] using hto
        · exact (hshown (hheld.trans hn)).congr (.refl s _) (keepsLatch_of_links rfl _)
        · exact mem_report hx fun h => hne (by
            rw [hbind, hb] at h
            injection h with h
            exact h.symm)
      · rw [hexec, report_refused (hbind.trans hb), haxles, harr]
        rfl
      · rw [hexec, report_lost (hbind.trans hb)]

end Sys2Proof.Machine
end

section
/-! The lane's other commands: the tailgate (R13), the timers (R11, R12), A-off (R8) and A-on (R5, R17). -/

namespace Sys2Proof.Machine

variable {s t u : State} {k : EventKind}

/-! ### A new visit's number (R21) -/

theorem freeNumber_congr (h : t.heldVisits = s.heldVisits) (k n : Nat) : t.freeNumber k n = s.freeNumber k n := by
  induction k generalizing n with
  | zero => rfl
  | succ k ih => simp only [State.freeNumber, h, ih]

theorem nextNumber_congr (hq : t.queue = s.queue) (hb : t.bays = s.bays) (hn : t.nextVisit = s.nextVisit) :
    t.nextNumber = s.nextNumber := by
  have hheld : t.heldVisits = s.heldVisits := by
    simp only [State.heldVisits, State.bayVisits, State.record, hq, hb]
  rw [State.nextNumber, freeNumber_congr hheld, hn, State.nextNumber]

/-- A visit just joined is found by its number, where no other has it. -/
theorem visitOf_joinQueue {w : Visit} (h : ∀ v ∈ s.queue, v.number ≠ w.number) :
    (s.joinQueue w).visitOf w.number = some w := by
  rw [State.visitOf, State.joinQueue, List.find?_append, List.find?_eq_none.2 (by simpa using h)]
  simp

/-- A change of the visit at the tail. -/
theorem map_replace_append {l : List Visit} {n : Nat} {v w : Visit} (h : ∀ x ∈ l, x.number ≠ n) (hv : v.number = n) :
    ((l ++ [v]).map fun x => if x.number = n then w else x) = l ++ [w] := by
  rw [List.map_append, List.map_singleton, if_pos hv]
  congr 1
  calc l.map (fun x => if x.number = n then w else x) = l.map id := List.map_congr_left fun x hx => if_neg (h x hx)
    _ = l := List.map_id l

/-! ### A tailgate (R13) -/

/-- A window opens with room in the list and no buffered read (R17). -/
theorem openWindow_eq {visit : Option Nat} (hw : s.lane.windows.length < 4) (hr : s.lane.reads = []) :
    s.openWindow visit = { s with lane := { s.lane with
      windows := s.lane.windows ++ [{ visit := visit, aOn := s.laneTime, aOff := none, width := s.active.tagWidth }] } } := by
  have hroom : ¬ Config.windowCapacity ≤ s.lane.windows.length := Nat.not_le.2 hw
  simp [State.openWindow, hroom, hr, State.modLane]

/-- The second vehicle's visit, its hand-over taken: PENDING, its hold MEASURE (R13). -/
def tailgateVisit (n : Nat) (arrival : DepotTime) : Visit :=
  { newVisit n arrival with ident := .pending, hold := .measure, verdict := .measure }

/-- The second vehicle's visit joins the queue and takes its hand-over at once. -/
theorem handOver_joined {n : Nat} {arrival : DepotTime} (h : ∀ v ∈ s.queue, v.number ≠ n) (e : Event) :
    (((s.joinQueue (newVisit n arrival)).latch e).handOver n none none none .measure).queue =
      s.queue ++ [tailgateVisit n arrival] := by
  have hv : ((s.joinQueue (newVisit n arrival)).latch e).visitOf n = some (newVisit n arrival) :=
    visitOf_joinQueue (w := newVisit n arrival) h
  exact (changeVisit_queue hv rfl).trans (map_replace_append h rfl)

/-- The state in which a tailgate asks for the second vehicle's visit: the flag ON, counting FROZEN. -/
def State.frozenAt (s : State) (m : Measurement) : State :=
  { s with lane := { s.lane with occupied := true, meas := some { m with frozen := true } } }

/-- A tailgate with room in the queue. -/
theorem aOn_tailgate_room {m : Measurement} (hocc : s.lane.occupied = false) (hm : s.lane.meas = some m)
    (hroom : s.queue.length < 16) : s.aOn =
      ((((s.frozenAt m).joinQueue (newVisit s.nextNumber s.clock.time)).latch
        (.tailgate m.binding.visit (some s.nextNumber))).handOver s.nextNumber none none none .measure).openWindow
          (some s.nextNumber) := by
  have hmod : ((s.modLane fun l => { l with occupied := true }).modMeas fun m => { m with frozen := true }) =
      s.frozenAt m := by simp [State.modLane, State.modMeas, hm, State.frozenAt]
  have hfull : ¬ (s.frozenAt m).queueIsFull = true := fun h => absurd ((queueIsFull_iff _).1 h) (Nat.not_le.2 hroom)
  have hnum : (s.frozenAt m).nextNumber = s.nextNumber := nextNumber_congr rfl rfl rfl
  simp only [State.aOn, hocc, Bool.false_eq_true, if_false, hm, State.tailgate, State.createVisit, hmod, hfull, hnum]
  rfl

/-- A tailgate with the queue full. -/
theorem aOn_tailgate_full {m : Measurement} (hocc : s.lane.occupied = false) (hm : s.lane.meas = some m)
    (hfull : 16 ≤ s.queue.length) : s.aOn =
      (((s.frozenAt m).latch (.tailgate m.binding.visit none)).latch
        (.arrivalRefused s.clock.time none none none)).openWindow none := by
  have hmod : ((s.modLane fun l => { l with occupied := true }).modMeas fun m => { m with frozen := true }) =
      s.frozenAt m := by simp [State.modLane, State.modMeas, hm, State.frozenAt]
  have hfull' : (s.frozenAt m).queueIsFull = true := (queueIsFull_iff _).2 hfull
  simp only [State.aOn, hocc, Bool.false_eq_true, if_false, hm, State.tailgate, State.createVisit, hmod, hfull', if_true]
  rfl

/-- Settles O12: by the room in the queue. -/
theorem aOnTailgate : Obligations.AOnTailgate := by
  intro s m hs hocc hm hwin hreads hfree
  obtain ⟨d, hexec, _⟩ := event_answers (exec_aOn s) hs.1
  by_cases hroom : s.queue.length < 16
  · rw [aOn_tailgate_room hocc hm hroom, openWindow_eq (by simpa [State.handOver, State.frozenAt, State.joinQueue])
      (by simpa [State.handOver, State.frozenAt, State.joinQueue])] at hexec
    refine ⟨_, hexec, ?lane, ?queue, ?tailgate, fun hfull => absurd hroom (Nat.not_lt.2 hfull), ?frame⟩
    case lane => simp [State.handOver, State.frozenAt, State.joinQueue, hroom, State.laneTime]
    case queue =>
      rw [if_pos hroom]
      exact handOver_joined (s := s.frozenAt m) hfree _
    case tailgate =>
      rw [if_pos hroom]
      exact State.Shows.keep (e := .tailgate _ _) (shows_latch _ _) (keepsLatch_changeVisit _ _ _ nofun)
    case frame => simp [State.handOver, State.frozenAt, State.joinQueue]
  · have hfull := Nat.not_lt.1 hroom
    rw [aOn_tailgate_full hocc hm hfull, openWindow_eq (by simpa [State.frozenAt]) (by simpa [State.frozenAt])] at hexec
    refine ⟨_, hexec, ?lane', ?queue', ?tailgate', fun _ => shows_latch _ _, ?frame'⟩
    case lane' => simp [State.frozenAt, hroom, State.laneTime]
    case queue' => simp [State.frozenAt, hroom]
    case tailgate' =>
      rw [if_neg hroom]
      exact (shows_latch _ _).latch nofun
    case frame' => simp [State.frozenAt]

/-! ### TRANSIT_TIMEOUT and STUCK_TIMEOUT (R11, R12) -/

/-- A queue without a number, filtered of it. -/
theorem filter_of_visitOf_none {n : Nat} (h : s.visitOf n = none) : s.queue.filter (fun v => v.number ≠ n) = s.queue := by
  rw [List.filter_eq_self]
  intro v hv
  have := List.find?_eq_none.1 h v hv
  simpa using this

theorem removeVisit_queue (s : State) (n : Nat) : (s.removeVisit n).queue = s.queue.filter fun v => v.number ≠ n := by
  unfold State.removeVisit
  split
  next h => exact (filter_of_visitOf_none h).symm
  next =>
    split
    · rfl
    · simp [State.dropVisit]

theorem removeVisit_lane (s : State) (n : Nat) : { (s.removeVisit n).lane with meas := none } = { s.lane with meas := none } := by
  unfold State.removeVisit
  split
  · rfl
  · split
    · rfl
    · simp [State.dropVisit, State.modMeas]

/-- A visit without a call leaves bays and journal alone as it goes. -/
theorem removeVisit_uncalled {n : Nat} (h : ∀ v, s.visitOf n = some v → v.call = none) :
    (s.removeVisit n).bays = s.bays ∧ (s.removeVisit n).journal = s.journal := by
  unfold State.removeVisit
  split
  · exact ⟨rfl, rfl⟩
  next v hv =>
    rw [h v hv]
    exact ⟨rfl, rfl⟩

/-- The backout of a measurement (R11). -/
theorem transitExpired_eq {m : Measurement} {d : Nat} (hm : s.lane.meas = some m) (hd : m.transit = some d) :
    s.transitExpired = (match m.binding with
      | .bound n => (s.latch (.backout m.binding.visit m.arrival m.axles)).removeVisit n
      | .refused => s.latch (.backout m.binding.visit m.arrival m.axles)
      | .lost => s.latch (.backout m.binding.visit m.arrival m.axles)).rearm := by
  simp only [State.transitExpired, hm, hd, Option.isSome_some, if_true]
  rfl

/-- The stuck timer's completion (R12). -/
theorem stuckExpired_eq {m : Measurement} {d : Nat} (hm : s.lane.meas = some m) (hd : m.stuckTimer = some d) :
    s.stuckExpired = ((s.latch (.loopStuck m.binding.visit m.axles)).report m none).modMeas Measurement.markStuck := by
  simp only [State.stuckExpired, hm, hd, Option.isSome_some, if_true]
  rfl

theorem binding_visit_eq (b : Binding) (n : Nat) : b.visit = some n ↔ b = .bound n := by
  cases b <;> simp [Binding.visit]

/-- A window-close notice leaves a visit's class and verdict. -/
theorem closedVisit_class (s : State) (v : Visit) :
    (s.closedVisit v).cls = v.cls ∧ (s.closedVisit v).verdict = v.verdict := by
  unfold State.closedVisit State.startIdentTimer
  split
  · split
    · rw [rehold_eq]
      exact ⟨rfl, rfl⟩
    · split <;> rw [rehold_eq] <;> exact ⟨rfl, rfl⟩
  · exact ⟨rfl, rfl⟩

/-- A hand-over gives a visit the class and the verdict of its axles and length. -/
theorem handed_class (s : State) (m : Measurement) (len : Option Nat) (v : Visit) :
    (s.handed m len v).cls = (s.active.classify m.axles len).1 ∧
      (s.handed m len v).verdict = (s.active.classify m.axles len).2 := by
  rw [State.handed, rehold_eq]
  exact ⟨rfl, rfl⟩

/-- HandedTo reads of the state only the register, the terms and the lane time. -/
theorem State.HandedTo.congr {m : Measurement} {len : Option Nat} {notice : Prop} {v w : Visit}
    (h : t.HandedTo m len notice v w) (hr : t.register = s.register) (ha : t.active = s.active)
    (ht : t.timebase = s.timebase) : s.HandedTo m len notice v w := by
  have hlookup : t.lookup = s.lookup := by
    funext g
    simp only [State.lookup, hr]
  simpa only [State.HandedTo, State.NoticeTaken, hlookup, ha, State.laneTime, ht] using h

/-- Settles O15: by the timer, then by the binding. -/
theorem laneTimersExpire : Obligations.LaneTimersExpire := by
  refine ⟨fun s hs => ⟨fun hnone => ?_, fun m d hm hd => ?_⟩, fun s hs => ⟨fun hnone => ?_, fun m d hm hd => ?_⟩⟩
  · have hsame : s.transitExpired = s := by
      unfold State.transitExpired
      split
      · rfl
      next m hm => rw [hnone m hm]; rfl
    rw [event_sameSign (exec_transitTimeout s) hs (by rw [hsame]; exact .refl s), hsame]
  · obtain ⟨x, hexec, _⟩ := event_answers (exec_transitTimeout s) hs.1
    rw [transitExpired_eq hm hd] at hexec
    have hshown := shows_latch s (.backout m.binding.visit m.arrival m.axles)
    refine ⟨_, hexec, ?_, ?_, ?_, fun hcall => ?_, ?_⟩
    · cases m.binding with
      | bound n => exact removeVisit_lane _ n
      | refused => rfl
      | lost => rfl
    · cases m.binding with
      | bound n => exact (removeVisit_queue _ n).trans (List.filter_congr fun v _ => by simp [Binding.visit, eq_comm])
      | refused => exact (List.filter_eq_self.2 fun v _ => by simp [Binding.visit]).symm
      | lost => exact (List.filter_eq_self.2 fun v _ => by simp [Binding.visit]).symm
    · cases hb : m.binding with
      | bound n =>
        rw [hb] at hshown
        exact hshown.keep ((State.KeepsLatch.refl _ _).removeVisit n nofun nofun nofun)
      | refused => rwa [hb] at hshown
      | lost => rwa [hb] at hshown
    · cases hb : m.binding with
      | bound n => exact removeVisit_uncalled (s := s.latch _) fun v hv => hcall n v hb hv
      | refused => exact ⟨rfl, rfl⟩
      | lost => exact ⟨rfl, rfl⟩
    · cases m.binding with
      | bound n => simp [State.rearm]
      | refused => rfl
      | lost => rfl
  · have hsame : s.stuckExpired = s := by
      unfold State.stuckExpired
      split
      · rfl
      next m hm => rw [hnone m hm]; rfl
    rw [event_sameSign (exec_stuckTimeout s) hs (by rw [hsame]; exact .refl s), hsame]
  · obtain ⟨x, hexec, _⟩ := event_answers (exec_stuckTimeout s) hs.1
    rw [stuckExpired_eq hm hd] at hexec
    have hshown := shows_latch s (.loopStuck m.binding.visit m.axles)
    have hkeep : s.KeepsLatch (s.latch (.loopStuck m.binding.visit m.axles)) .arrivalRefused :=
      keepsLatch_latch s nofun
    refine ⟨_, hexec, ?_, ?_, fun n v hb hv => ?_, fun hb => ?_, fun hb => ?_, fun v hv hb => ?_, ?_⟩
    · simp [State.modMeas, hm, Measurement.markStuck]
    · exact hshown.keep (keepsLatch_report _ _ _ nofun fun _ => nofun)
    · have hv' : (s.latch (.loopStuck m.binding.visit m.axles)).visitOf n = some v := hv
      obtain ⟨w, hw, hto, hheld⟩ := report_handedTo (len := none) hb hv'
      have hw' := (report_handed (len := none) hb hv').symm.trans hw
      injection hw' with hw'
      refine ⟨w, hw, ?_, ?_, hto.congr rfl rfl rfl, fun hn => ?_⟩
      · rw [← hw', apply_ite Visit.cls, (closedVisit_class _ _).1, ite_self]
        exact (handed_class _ _ _ _).1
      · rw [← hw', apply_ite Visit.verdict, (closedVisit_class _ _).2, ite_self]
        exact (handed_class _ _ _ _).2
      · exact (hheld hn).congr (keepsLatch_latch s nofun) (.refl _ _)
    · rw [report_refused hb]
      exact shows_latch _ _
    · exact hkeep.trans (keepsLatch_report _ _ _ nofun fun h => absurd h hb)
    · exact mem_report (s := s.latch _) hv hb
    · simp

end Sys2Proof.Machine
end

section
/-! A_OFF (R8): the measurement by the table of R8, then the window that closes at its A-off. -/

namespace Sys2Proof.Machine

variable {s t u : State} {k : EventKind}

/-! ### The window that closes (R18) -/

theorem rehold_rehold (v : Visit) : v.rehold.rehold = v.rehold := by
  have hheld : v.rehold.heldAs v.rehold.hold = v.rehold.hold := by
    have hmarks : v.rehold.heldAs v.rehold.hold = v.heldAs v.rehold.hold := by
      rw [rehold_eq]
      exact heldAs_congr rfl rfl rfl rfl _
    rw [hmarks, rehold_eq]
    simp only [Visit.heldAs]
    split
    · rfl
    · split
      · rfl
      · split
        · rfl
        · split
          · rfl
          · split <;> simp [*]
  rw [rehold_eq v.rehold, hheld]

theorem closedVisit_idem (s : State) (v : Visit) : s.closedVisit (s.closedVisit v) = s.closedVisit v := by
  by_cases hp : v.ident = .pending
  · cases he : s.entryFor v with
    | some e =>
      have h₁ : s.closedVisit v = ({ v with closed := true }.takeMatch e).rehold := by
        simp [State.closedVisit, hp, he]
      rw [h₁, rehold_eq]
      exact if_neg (by simp [Visit.takeMatch])
    | none =>
      have h₁ : s.closedVisit v = (s.startIdentTimer { v with closed := true }).rehold := by
        simp [State.closedVisit, hp, he]
      by_cases h0 : s.active.identTimeout = 0
      · rw [h₁, State.startIdentTimer, if_pos h0, rehold_eq]
        exact if_neg (by simp)
      · have hagain : s.startIdentTimer { (s.closedVisit v) with closed := true } = s.closedVisit v := by
          rw [h₁, State.startIdentTimer, if_neg h0, State.startIdentTimer, if_neg h0, rehold_eq]
        have hp' : (s.closedVisit v).ident = .pending := by
          rw [h₁, State.startIdentTimer, if_neg h0, rehold_eq]
          exact hp
        have he' : s.entryFor (s.closedVisit v) = none := by
          rw [← he, h₁, State.startIdentTimer, if_neg h0, rehold_eq]
          rfl
        have h₂ : s.closedVisit (s.closedVisit v) = (s.closedVisit v).rehold := by
          conv_lhs => rw [State.closedVisit, if_pos hp', he']
          exact congrArg Visit.rehold hagain
        rw [h₂, h₁, rehold_rehold]
  · have h₁ : s.closedVisit v = { v with closed := true } := if_neg hp
    rw [h₁]
    exact if_neg hp

/-- The notice of a window for a visit, or of none: held back while the visit is measured (R18). -/
def State.noticeFor (s : State) (visit : Option Nat) : State :=
  match visit with
  | none => s
  | some n => if s.measuring n then s.modMeas fun m => { m with heldNotice := true } else s.windowClosed n

theorem closeNotice_eq (s : State) (w : TagWindow) : s.closeNotice w = s.noticeFor w.visit := rfl

theorem markOff_eq (now : Nat) (l : List TagWindow) : markOff now l = (match l.getLast? with
    | none => []
    | some w => l.dropLast ++ [{ w with aOff := some now }]) := by
  induction l with
  | nil => rfl
  | cons w l ih =>
    cases l with
    | nil => rfl
    | cons v l =>
      rw [markOff, ih, List.getLast?_cons_cons, List.dropLast_cons_cons]
      cases h : (v :: l).getLast? with
      | none => simp at h
      | some x => rfl

/-- The windows after an A-off, and the visit whose window closes at it (R8, R18). -/
def windowsAtOff (now : Nat) (l : List TagWindow) : List TagWindow :=
  match l.getLast? with
  | none => []
  | some w => l.dropLast ++ if w.width = 0 then [] else [{ w with aOff := some now }]

/-- The newest window expires at its A-off if its width is 0 (R18). -/
theorem expireAtOff_eq {now : Nat} {l : List TagWindow} (h : s.lane.windows = markOff now l) :
    s.expireAtOff = State.noticeFor { s with lane := { s.lane with windows := windowsAtOff now l } }
      ((l.getLast?.filter fun w => w.width = 0).bind fun w => w.visit) := by
  rw [markOff_eq] at h
  unfold State.expireAtOff windowsAtOff
  cases hl : l.getLast? with
  | none =>
    simp only [hl] at h
    simp only [h, List.getLast?_nil, Option.filter_none, Option.bind_none, State.noticeFor]
    rw [← h]
  | some w =>
    simp only [hl] at h
    have hlast : s.lane.windows.getLast? = some { w with aOff := some now } := by rw [h]; simp
    rw [hlast]
    by_cases h0 : w.width = 0
    · have hplace : s.lane.windows[s.lane.windows.length - 1]? = some { w with aOff := some now } := by
        rw [← List.getLast?_eq_getElem?, hlast]
      have herase : s.lane.windows.eraseIdx (s.lane.windows.length - 1) = l.dropLast := by
        rw [h, List.length_append, List.length_singleton, Nat.add_sub_cancel,
          List.eraseIdx_append_of_length_le (le_refl _)]
        simp
      simp only [h0, if_true, State.closeWindow, hplace, closeNotice_eq, State.modLane, herase, Option.filter,
        decide_true, Option.bind_some, List.append_nil]
    · simp only [h0, if_false, Option.filter, decide_false, Bool.false_eq_true, Option.bind_none, State.noticeFor]
      rw [← h]

/-! ### What a notice leaves -/

section
variable {shut : Option Nat}

theorem noticeFor_frame (s : State) (shut : Option Nat) :
    s.noticeFor shut = { s with
      lane := (s.noticeFor shut).lane, queue := (s.noticeFor shut).queue, disp := (s.noticeFor shut).disp
      links := (s.noticeFor shut).links } ∧
    (s.noticeFor shut).lane = { s.lane with meas := (s.noticeFor shut).lane.meas } ∧
    (s.noticeFor shut).queue.map (·.number) = s.queue.map (·.number) := by
  unfold State.noticeFor
  split
  · exact ⟨rfl, rfl, rfl⟩
  · split
    · exact ⟨rfl, rfl, rfl⟩
    · exact ⟨by simp [State.windowClosed, State.ext_iff], by simp [State.windowClosed], changeVisit_numbers ..⟩

theorem noticeFor_meas_none (h : s.lane.meas = none) : (s.noticeFor shut).lane.meas = none := by
  unfold State.noticeFor
  split
  · exact h
  · split
    · simp [State.modMeas, h]
    · simpa [State.windowClosed]

/-- A running measurement has the notice held back if the window was its visit's. -/
theorem noticeFor_meas {m : Measurement} (h : s.lane.meas = some m) (hst : m.stuck = false) :
    (s.noticeFor shut).lane.meas =
      some { m with heldNotice := m.heldNotice || shut.isSome && m.binding.visit == shut } := by
  unfold State.noticeFor
  cases shut with
  | none => simp [h]
  | some n =>
    by_cases hb : m.binding = .bound n
    · have hm : s.measuring n = true := (measuring_iff s n).2 ⟨m, h, hb, hst⟩
      simp [hm, State.modMeas, h, hb, Binding.visit]
    · have hm : ¬ s.measuring n = true := fun hmeas => by
        obtain ⟨m', hm', hb', _⟩ := (measuring_iff s n).1 hmeas
        rw [h] at hm'
        injection hm' with hm'
        exact hb (hm' ▸ hb')
      have hv : (m.binding.visit == some n) = false := by
        rw [beq_eq_false_iff_ne]
        exact mt (binding_visit_eq _ _).1 hb
      simp [hm, State.windowClosed, h, hv]

theorem visitOf_noticeFor_ne {n : Nat} (h : shut ≠ some n) : (s.noticeFor shut).visitOf n = s.visitOf n := by
  unfold State.noticeFor
  split
  · rfl
  · split
    · rfl
    · exact visitOf_changeVisit_ne _ _ fun hn => h (hn ▸ rfl)

theorem visitOf_noticeFor {n : Nat} {v : Visit} (hm : s.measuring n = false) (hv : s.visitOf n = some v) :
    (s.noticeFor (some n)).visitOf n = some (s.closedVisit v) := by
  simp only [State.noticeFor, hm, Bool.false_eq_true, if_false]
  exact windowClosed_notice hv

theorem mem_noticeFor {x : Visit} (hx : x ∈ s.queue) (h : shut = some x.number → s.measuring x.number = true) :
    x ∈ (s.noticeFor shut).queue := by
  unfold State.noticeFor
  split
  · exact hx
  next n =>
    split
    · exact hx
    next hm => exact mem_changeVisit_ne _ _ hx fun hn => hm (by rw [← hn]; exact h (hn ▸ rfl))

theorem keepsLatch_noticeFor (s : State) (shut : Option Nat) (hk : k ≠ .visitHeld) : s.KeepsLatch (s.noticeFor shut) k := by
  unfold State.noticeFor
  split
  · exact .refl s k
  · split
    · exact .refl s k
    · exact keepsLatch_windowClosed s _ hk

end

/-! ### The measurement at A-off (R8) -/

section
variable {m : Measurement} {e : Nat}

theorem aOffMeasurement_stuck (hm : s.lane.meas = some m) (hst : m.stuck = true) : s.aOffMeasurement = s.rearm := by
  simp [State.aOffMeasurement, hm, hst]

theorem aOffMeasurement_known (hm : s.lane.meas = some m) (hst : m.stuck = false) (hta : m.ta.isSome = true) :
    s.aOffMeasurement = s := by
  obtain ⟨a, ha⟩ := Option.isSome_iff_exists.1 hta
  simp [State.aOffMeasurement, hm, hst, ha]

theorem aOffMeasurement_transit (hm : s.lane.meas = some m) (hst : m.stuck = false) (hta : m.ta = none)
    (he : e = elapsed s.laneTime m.t0) (hne : e ≠ 65535) (htab : m.tab = none) :
    s.aOffMeasurement = { s with lane := { s.lane with meas := some { m with
      ta := some e, stuckTimer := none, transit := some (s.laneTime + 1000 * s.active.transitTimeout) } } } := by
  have hmax : ¬ e = Config.maxElapsed := hne
  simp only [State.aOffMeasurement, hm, hst, hta, ← he, hmax, htab, Bool.false_eq_true, if_false, State.modMeas,
    Option.map_some]
  rfl

/-- The report with which an A-off ends a measurement: with its length, or at 65,535 stuck, after LOOP-STUCK. -/
def State.offReport (s : State) (m : Measurement) (e : Nat) (len : Option Nat) : State :=
  if e = 65535 then (s.latch (.loopStuck m.binding.visit m.axles)).report m none
  else s.report { m with ta := some e } len

theorem aOffMeasurement_end {len : Option Nat} (hm : s.lane.meas = some m) (hst : m.stuck = false) (hta : m.ta = none)
    (he : e = elapsed s.laneTime m.t0) (hlen : e = 65535 ∧ len = none ∨
      e ≠ 65535 ∧ ∃ b, m.tab = some b ∧ len = some (min 65535 (s.active.laneSpacing * e / b))) :
    s.aOffMeasurement = (s.offReport m e len).rearm := by
  have hmax : Config.maxElapsed = 65535 := rfl
  unfold State.offReport
  simp only [State.aOffMeasurement, hm, hst, hta, ← he, hmax, Bool.false_eq_true, if_false]
  rcases hlen with ⟨h, _⟩ | ⟨h, b, hb, rfl⟩
  · simp only [h, if_true]
    rfl
  · simp only [h, if_false, hb]
    rfl

end

/-- A_OFF with the flag ON: the measurement, then the window. -/
theorem aOff_eq (h : s.lane.occupied = true) : s.aOff =
    (State.aOffMeasurement { s with lane := { s.lane with
      occupied := false, windows := markOff s.laneTime s.lane.windows } }).expireAtOff := by
  simp only [State.aOff, h, if_true]
  rfl

theorem aOffMeasurement_kept (s : State) :
    s.aOffMeasurement.lane = { s.lane with meas := s.aOffMeasurement.lane.meas } ∧
    s.aOffMeasurement.queue.map (·.number) = s.queue.map (·.number) ∧
    s.aOffMeasurement = { s with lane := s.aOffMeasurement.lane, queue := s.aOffMeasurement.queue
                                 disp := s.aOffMeasurement.disp, links := s.aOffMeasurement.links } := by
  unfold State.aOffMeasurement
  split
  · exact ⟨rfl, rfl, rfl⟩
  · split
    · exact ⟨rfl, rfl, rfl⟩
    · split
      · exact ⟨rfl, rfl, rfl⟩
      · dsimp only
        split
        · exact ⟨by simp [State.stuckEnd, State.rearm], report_numbers .., by simp [State.ext_iff, State.stuckEnd, State.rearm]⟩
        · split
          · exact ⟨by simp [State.complete, State.rearm], report_numbers .., by simp [State.ext_iff, State.complete, State.rearm]⟩
          · exact ⟨rfl, rfl, rfl⟩

/-! ### What the report of an A-off leaves -/

section
variable {m : Measurement} {e n : Nat} {len : Option Nat} {v : Visit}

theorem offReport_handed (hb : m.binding = .bound n) (hv : s.visitOf n = some v) (hlen : e = 65535 → len = none) :
    (s.offReport m e len).visitOf n =
      some (if m.heldNotice then s.closedVisit (s.handed m len v) else s.handed m len v) := by
  unfold State.offReport
  split
  next h =>
    rw [report_handed (s := s.latch _) hb hv, hlen h]
    rfl
  next => exact report_handed (m := { m with ta := some e }) hb hv

theorem offReport_heldShown (hb : m.binding = .bound n) (hv : s.visitOf n = some v) (hlen : e = 65535 → len = none)
    (hn : m.heldNotice = false) : s.HeldShown (s.offReport m e len) v (s.handed m len v) := by
  have hw := offReport_handed (e := e) hb hv hlen
  rw [hn, if_neg Bool.false_ne_true] at hw
  unfold State.offReport at hw ⊢
  split at hw
  next h =>
    rw [if_pos h]
    obtain ⟨w, hw', _, hshown⟩ := report_handedTo (s := s.latch (.loopStuck m.binding.visit m.axles)) (len := none) hb hv
    rw [hw] at hw'
    injection hw' with hw'
    exact hw' ▸ (hshown hn).congr (keepsLatch_latch s nofun) (.refl _ _)
  next h =>
    rw [if_neg h]
    obtain ⟨w, hw', _, hshown⟩ := report_handedTo (m := { m with ta := some e }) (len := len) hb hv
    rw [hw] at hw'
    injection hw' with hw'
    exact hw' ▸ hshown hn

theorem visitOf_offReport_ne (h : m.binding ≠ .bound n) : (s.offReport m e len).visitOf n = s.visitOf n := by
  unfold State.offReport
  split
  · exact visitOf_report_ne (s := s.latch _) h
  · exact visitOf_report_ne (m := { m with ta := some e }) h

theorem mem_offReport {x : Visit} (hx : x ∈ s.queue) (h : m.binding ≠ .bound x.number) :
    x ∈ (s.offReport m e len).queue := by
  unfold State.offReport
  split
  · exact mem_report (s := s.latch _) hx h
  · exact mem_report (m := { m with ta := some e }) hx h

theorem keepsLatch_offReport (hk : k ≠ .visitHeld) (hl : e = 65535 → k ≠ .loopStuck)
    (hr : m.binding = .refused → k ≠ .arrivalRefused) : s.KeepsLatch (s.offReport m e len) k := by
  unfold State.offReport
  split
  next h => exact (keepsLatch_latch s (by exact hl h)).trans (keepsLatch_report _ _ _ hk hr)
  next => exact keepsLatch_report _ { m with ta := some e } _ hk hr

theorem offReport_loopStuck (h : e = 65535) : (s.offReport m e len).Shows (.loopStuck m.binding.visit m.axles) := by
  unfold State.offReport
  rw [if_pos h]
  exact (shows_latch _ _).keep (keepsLatch_report _ _ _ nofun fun _ => nofun)

theorem offReport_refused (hb : m.binding = .refused) (hlen : e = 65535 → len = none) :
    (s.offReport m e len).Shows
      (.arrivalRefused m.arrival (some m.axles) len (s.active.classify m.axles len).1) := by
  unfold State.offReport
  split
  next h =>
    rw [report_refused hb, hlen h]
    exact shows_latch _ _
  next =>
    rw [report_refused (m := { m with ta := some e }) hb]
    exact shows_latch _ _

end

/-- The state whose windows are as an A-off leaves them. -/
def State.withWindows (s : State) (l : List TagWindow) : State :=
  { s with lane := { s.lane with windows := l } }

/-- The state in which an A-off finds the measurement: the flag OFF, the newest window with its A-off time. -/
def State.loopOff (s : State) : State :=
  { s with lane := { s.lane with occupied := false, windows := markOff s.laneTime s.lane.windows } }

/-- The measurement's end at A-off, before the window's. -/
def State.offMeasured (s : State) : State :=
  s.loopOff.aOffMeasurement.withWindows (windowsAtOff s.laneTime s.lane.windows)

theorem aOff_notice (h : s.lane.occupied = true) : s.aOff =
    s.offMeasured.noticeFor ((s.lane.windows.getLast?.filter fun w => w.width = 0).bind fun w => w.visit) := by
  rw [aOff_eq h]
  refine expireAtOff_eq ?_
  rw [(aOffMeasurement_kept _).1]

theorem offMeasured_kept (s : State) :
    s.offMeasured.lane = { s.lane with occupied := false, windows := windowsAtOff s.laneTime s.lane.windows
                                       meas := s.offMeasured.lane.meas } ∧
    s.offMeasured.queue.map (·.number) = s.queue.map (·.number) ∧
    s.offMeasured = { s with lane := s.offMeasured.lane, queue := s.offMeasured.queue
                             disp := s.offMeasured.disp, links := s.offMeasured.links } := by
  obtain ⟨hl, hq, hf⟩ := aOffMeasurement_kept s.loopOff
  refine ⟨?_, hq, ?_⟩
  · simp only [State.offMeasured, State.withWindows]
    rw [hl]
    rfl
  · unfold State.offMeasured State.withWindows
    rw [hf]
    rfl

/-! ### What each row of the table of R8 makes of the measurement -/

section
variable {m : Measurement} {e : Nat} {len : Option Nat}

theorem offMeasured_none (hm : s.lane.meas = none) : s.offMeasured.lane.meas = none ∧ s.offMeasured.queue = s.queue := by
  have hm' : s.loopOff.lane.meas = none := hm
  have hsame : s.loopOff.aOffMeasurement = s.loopOff := by
    unfold State.aOffMeasurement
    rw [hm']
  unfold State.offMeasured
  rw [hsame]
  exact ⟨hm, rfl⟩

theorem offMeasured_stuck (hm : s.lane.meas = some m) (hst : m.stuck = true) :
    s.offMeasured.lane.meas = none ∧ s.offMeasured.queue = s.queue := by
  unfold State.offMeasured
  rw [aOffMeasurement_stuck (s := s.loopOff) hm hst]
  exact ⟨rfl, rfl⟩

theorem offMeasured_known (hm : s.lane.meas = some m) (hst : m.stuck = false) (hta : m.ta.isSome = true) :
    s.offMeasured.lane.meas = some m ∧ s.offMeasured.queue = s.queue := by
  unfold State.offMeasured
  rw [aOffMeasurement_known (s := s.loopOff) hm hst hta]
  exact ⟨hm, rfl⟩

theorem offMeasured_transit (hm : s.lane.meas = some m) (hst : m.stuck = false) (hta : m.ta = none)
    (he : e = elapsed s.laneTime m.t0) (hne : e ≠ 65535) (htab : m.tab = none) :
    s.offMeasured.lane.meas = some { m with
      ta := some e, stuckTimer := none, transit := some (s.laneTime + 1000 * s.active.transitTimeout) } ∧
    s.offMeasured.queue = s.queue := by
  unfold State.offMeasured
  rw [aOffMeasurement_transit (s := s.loopOff) hm hst hta he hne htab]
  exact ⟨rfl, rfl⟩

theorem offMeasured_end (hm : s.lane.meas = some m) (hst : m.stuck = false) (hta : m.ta = none)
    (he : e = elapsed s.laneTime m.t0) (hlen : e = 65535 ∧ len = none ∨
      e ≠ 65535 ∧ ∃ b, m.tab = some b ∧ len = some (min 65535 (s.active.laneSpacing * e / b))) :
    s.offMeasured = (s.loopOff.offReport m e len).rearm.withWindows (windowsAtOff s.laneTime s.lane.windows) := by
  unfold State.offMeasured
  rw [aOffMeasurement_end (s := s.loopOff) hm hst hta he hlen]

/-- The three ends of a measurement at A-off: emptied, ended by a report, or running on. -/
theorem offMeasured_cases (hm : s.lane.meas = some m) :
    (m.stuck = true ∧ s.offMeasured.lane.meas = none ∧ s.offMeasured.queue = s.queue) ∨
    (m.stuck = false ∧ ∃ e len, s.offMeasured =
      (s.loopOff.offReport m e len).rearm.withWindows (windowsAtOff s.laneTime s.lane.windows)) ∨
    (m.stuck = false ∧ ∃ m', s.offMeasured.lane.meas = some m' ∧ m'.binding = m.binding ∧ m'.stuck = false ∧
      s.offMeasured.queue = s.queue) := by
  cases hst : m.stuck with
  | true => exact .inl ⟨rfl, offMeasured_stuck hm hst⟩
  | false =>
    right
    cases hta : m.ta with
    | some a =>
      obtain ⟨hmeas, hq⟩ := offMeasured_known hm hst (by rw [hta]; rfl)
      exact .inr ⟨rfl, m, hmeas, rfl, hst, hq⟩
    | none =>
      by_cases he : elapsed s.laneTime m.t0 = 65535
      · exact .inl ⟨rfl, _, none, offMeasured_end hm hst hta rfl (.inl ⟨he, rfl⟩)⟩
      · cases htab : m.tab with
        | some b => exact .inl ⟨rfl, _, _, offMeasured_end hm hst hta rfl (.inr ⟨he, b, htab, rfl⟩)⟩
        | none =>
          obtain ⟨hmeas, hq⟩ := offMeasured_transit hm hst hta rfl he htab
          exact .inr ⟨rfl, _, hmeas, rfl, hst, hq⟩

theorem measuring_of_none {n : Nat} (h : s.lane.meas = none) : s.measuring n = false := by
  simp [State.measuring, h]

theorem offMeasured_closedVisit (s : State) : s.offMeasured.closedVisit = s.closedVisit := by
  obtain ⟨_, _, hframe⟩ := offMeasured_kept s
  exact closedVisit_congr (by rw [hframe]) (by rw [hframe]) (by rw [hframe])

/-- A visit that takes the hand-over at A-off, and the notice held back or given by the window that closes. -/
theorem offMeasured_handed {shut : Option Nat} {n : Nat} {v : Visit}
    (hend : s.offMeasured = (s.loopOff.offReport m e len).rearm.withWindows (windowsAtOff s.laneTime s.lane.windows))
    (hlen : e = 65535 → len = none) (hb : m.binding = .bound n) (hv : s.visitOf n = some v) :
    (s.offMeasured.noticeFor shut).visitOf n =
      some (if m.heldNotice = true ∨ shut = some n then s.closedVisit (s.handed m len v) else s.handed m len v) := by
  have hu : s.offMeasured.visitOf n =
      some (if m.heldNotice then s.closedVisit (s.handed m len v) else s.handed m len v) := by
    rw [hend]
    exact offReport_handed (s := s.loopOff) hb hv hlen
  by_cases hs : shut = some n
  · have hmeas : s.offMeasured.measuring n = false := measuring_of_none (by rw [hend]; rfl)
    rw [hs, visitOf_noticeFor hmeas hu, offMeasured_closedVisit]
    cases m.heldNotice <;> simp [closedVisit_idem]
  · rw [visitOf_noticeFor_ne hs, hu]
    simp [hs]

/-- A queued visit whose measurement does not end at A-off, and whose window's notice is not due, stays. -/
theorem mem_offMeasured_notice {shut : Option Nat} {v : Visit} (hv : v ∈ s.queue)
    (hm : ∀ m, s.lane.meas = some m → m.binding = .bound v.number →
      m.stuck = true ∨ (s.offMeasured.noticeFor shut).lane.meas.isSome = true)
    (hw : shut = some v.number → ∃ m, s.lane.meas = some m ∧ m.binding = .bound v.number ∧ m.stuck = false) :
    v ∈ (s.offMeasured.noticeFor shut).queue := by
  cases hmeas : s.lane.meas with
  | none =>
    refine mem_noticeFor ((offMeasured_none hmeas).2 ▸ hv) fun h => ?_
    obtain ⟨m, hm', _⟩ := hw h
    simp [hmeas] at hm'
  | some m =>
    rcases offMeasured_cases hmeas with ⟨hst, _, hq⟩ | ⟨hst, e, len, hend⟩ | ⟨hst, m', hmeas', hb', hst', hq⟩
    · refine mem_noticeFor (hq ▸ hv) fun h => ?_
      obtain ⟨m', hm', _, hst'⟩ := hw h
      rw [hmeas] at hm'
      injection hm' with hm'
      rw [← hm', hst] at hst'
      exact absurd hst' (by decide)
    · have hnone : s.offMeasured.lane.meas = none := by rw [hend]; rfl
      have hb : m.binding ≠ .bound v.number := fun hb => by
        rcases hm m hmeas hb with h | h
        · rw [hst] at h
          exact absurd h (by decide)
        · rw [noticeFor_meas_none hnone] at h
          exact absurd h (by decide)
      have hmem : v ∈ s.offMeasured.queue := by
        rw [hend]
        exact mem_offReport (s := s.loopOff) hv hb
      refine mem_noticeFor hmem fun h => ?_
      obtain ⟨m', hm', hb', _⟩ := hw h
      rw [hmeas] at hm'
      injection hm' with hm'
      exact absurd (hm' ▸ hb') hb
    · refine mem_noticeFor (hq ▸ hv) fun h => (measuring_iff _ _).2 ⟨m', hmeas', ?_, hst'⟩
      obtain ⟨m₂, hm₂, hb₂, _⟩ := hw h
      rw [hmeas] at hm₂
      injection hm₂ with hm₂
      rw [hb', hm₂, hb₂]

/-- A visit that is not measured takes the notice of its window at A-off. -/
theorem offMeasured_notice {n : Nat} {v : Visit} (hv : s.visitOf n = some v)
    (hm : ∀ m, s.lane.meas = some m → m.binding = .bound n → m.stuck = true) :
    (s.offMeasured.noticeFor (some n)).visitOf n = some (s.closedVisit v) := by
  have hfree : s.offMeasured.measuring n = false ∧ s.offMeasured.visitOf n = some v := by
    cases hmeas : s.lane.meas with
    | none =>
      obtain ⟨hnone, hq⟩ := offMeasured_none hmeas
      exact ⟨measuring_of_none hnone, by rw [State.visitOf, hq]; exact hv⟩
    | some m =>
      rcases offMeasured_cases hmeas with ⟨_, hnone, hq⟩ | ⟨hst, e, len, hend⟩ | ⟨hst, m', hmeas', hb', hst', hq⟩
      · exact ⟨measuring_of_none hnone, by rw [State.visitOf, hq]; exact hv⟩
      · have hb : m.binding ≠ .bound n := fun hb => by simp [hm m hmeas hb] at hst
        rw [hend]
        exact ⟨rfl, (visitOf_offReport_ne (s := s.loopOff) hb).trans hv⟩
      · have hb : m.binding ≠ .bound n := fun hb => by simp [hm m hmeas hb] at hst
        refine ⟨?_, by rw [State.visitOf, hq]; exact hv⟩
        simp [State.measuring, hmeas', hb', hb]
  obtain ⟨hmeas, hvis⟩ := hfree
  rw [visitOf_noticeFor hmeas hvis, offMeasured_closedVisit]

end

/-- Settles O14: the measurement by the table of R8, then the notice of the window that closes. -/
theorem aOffTimes : Obligations.AOffTimes := by
  intro s shut hs hshut
  refine ⟨fun hocc => ?_, fun hocc => ?_⟩
  · have hsame : s.aOff = s := by simp [State.aOff, hocc]
    rw [event_sameSign (exec_aOff s) hs (by rw [hsame]; exact .refl s), hsame]
  obtain ⟨d, hexec, _⟩ := event_answers (exec_aOff s) hs.1
  rw [aOff_notice hocc, ← hshut] at hexec
  obtain ⟨hlane, hnumbers, hframe⟩ := offMeasured_kept s
  obtain ⟨hnframe, hnlane, hnnumbers⟩ := noticeFor_frame s.offMeasured shut
  refine ⟨_, hexec, by rw [hnlane, hlane], by rw [hnlane, hlane]; rfl,
    fun hm => noticeFor_meas_none (offMeasured_none hm).1, fun m e hm he => ⟨fun hst => ?_, fun h hh => ⟨fun hst hta => ?_,
      fun hst hta hne htab => ?_⟩, fun b hst hta hne htab => ?_, fun hst hta h => ?_, fun len k hst hta hlen hk => ?_⟩,
    hnnumbers.trans hnumbers, fun v hv hm hw => mem_offMeasured_notice hv hm hw, fun n v hn hv hm => ?_, ?_⟩
  · exact noticeFor_meas_none (offMeasured_stuck hm hst).1
  · exact hh ▸ noticeFor_meas (offMeasured_known hm hst hta).1 hst
  · exact hh ▸ noticeFor_meas (offMeasured_transit hm hst hta he hne htab).1 hst
  · have hend := offMeasured_end hm hst hta he (.inr ⟨hne, b, htab, rfl⟩)
    refine ⟨noticeFor_meas_none (by rw [hend]; rfl), ?_⟩
    have hkeep : s.KeepsLatch s.offMeasured .loopStuck := by
      rw [hend]
      exact keepsLatch_offReport (s := s.loopOff) nofun (fun h => absurd h hne) fun _ => nofun
    exact hkeep.trans (keepsLatch_noticeFor _ _ nofun)
  · have hend := offMeasured_end hm hst hta he (.inl ⟨h, rfl⟩)
    refine ⟨noticeFor_meas_none (by rw [hend]; rfl), ?_⟩
    have hshown : s.offMeasured.Shows (.loopStuck m.binding.visit m.axles) := by
      rw [hend]
      exact offReport_loopStuck h
    exact hshown.keep (keepsLatch_noticeFor _ _ nofun)
  · have hend := offMeasured_end hm hst hta he hlen
    have hnone : e = 65535 → len = none := fun h => hlen.elim (·.2) fun h' => absurd h h'.1
    subst hk
    refine ⟨fun n v hb hv => ⟨_, offMeasured_handed hend hnone hb hv, handedTo_of_notice (fun h => if_neg h)
      (fun h => if_pos h), fun hn hs0 => ?_⟩, fun hb => ?_, fun hb => ?_⟩
    · have hshown : s.HeldShown s.offMeasured v (s.handed m len v) := by
        rw [hend]
        exact offReport_heldShown (s := s.loopOff) hb hv hnone hn
      rw [hs0, hn]
      exact hshown
    · have hshown : s.offMeasured.Shows
          (.arrivalRefused m.arrival (some m.axles) len (s.active.classify m.axles len).1) := by
        rw [hend]
        exact offReport_refused (s := s.loopOff) hb hnone
      exact hshown.keep (keepsLatch_noticeFor _ _ nofun)
    · have hkeep : s.KeepsLatch s.offMeasured .arrivalRefused := by
        rw [hend]
        exact keepsLatch_offReport (s := s.loopOff) nofun (fun _ => nofun) fun h => absurd h hb
      exact hkeep.trans (keepsLatch_noticeFor _ _ nofun)
  · exact ⟨_, hn ▸ offMeasured_notice hv hm, noticeTaken_closedVisit s v⟩
  · rw [hnframe, hnlane, hframe, hlane]

end Sys2Proof.Machine
end

section
/-! A_ON in ARMED (O10): the statement speaks of every queue, of one too in which two visits have the same number. -/

namespace Sys2Proof.Machine

/-- Two visits in the queue have number 5, the second with tag 7; the oldest of four windows is number 5's, and a read of
tag 7 is buffered. -/
def sharedNumberState : State :=
  { State.reset with
    part := { State.reset.part with phase := .running }
    queue := [newVisit 5 ⟨5, 90, 0⟩, { newVisit 5 ⟨5, 90, 0⟩ with tags := [7] }]
    nextVisit := 6
    lane := { laneReset with
      windows := List.replicate 4 { visit := some 5, aOn := 0, aOff := some 0, width := 2 }
      reads := [{ id := 7, lane := 0, time := ⟨5, 90, 0⟩, width := 2 }] } }

/-- The notice of the window that closes writes the first visit of number 5 over both, so that nobody carries tag 7 when
the new visit is offered it. -/
theorem sharedNumberState_adopts :
    sharedNumberState.aOn.queue.getLast?.map (·.ident) = some .measuring := by decide

/-- The state before has tag 7 carried by a held visit, so that the offered read is a conflict. -/
theorem sharedNumberState_conflicts :
    ((sharedNumberState.lane.reads.filter fun r =>
        decide (sharedNumberState.laneTime ≤ r.lane + 1000 * sharedNumberState.active.tagWidth)).foldl
      sharedNumberState.readOffered (newVisit sharedNumberState.nextNumber sharedNumberState.clock.time, none)).1.ident =
      .conflict := by decide

theorem sharedNumberState_running : sharedNumberState.Running := by unfold State.Running; decide

/-- Refutes O10: two queued visits with one number, which no premise shuts out, of which the closing window's notice
keeps one, with its tags, for both. -/
theorem not_aOnStartsMeasurement : ¬ Obligations.AOnStartsMeasurement := by
  intro h
  obtain ⟨_, hstart⟩ := h sharedNumberState sharedNumberState_running
  obtain ⟨t, hexec, _, _, _, hlast, _⟩ := hstart true _ rfl rfl (by decide) (by decide) rfl
  obtain ⟨d, hnext, _⟩ := event_answers (exec_aOn sharedNumberState) sharedNumberState_running.1
  have hqueue : t.queue = sharedNumberState.aOn.queue := by
    rw [hnext] at hexec
    injection hexec with ht
    rw [← ht]
  have hadopts := sharedNumberState_adopts
  rw [← hqueue, hlast rfl, Option.map_some, sharedNumberState_conflicts] at hadopts
  exact absurd hadopts (by decide)

end Sys2Proof.Machine
end

section
/-! The reading requests (R33, R38, R44, R57, R98, R168, R183), and the staged load's opening and closing (R51 to R54). -/

namespace Sys2Proof.Machine

variable {s t u : State} {p : Port} {c : Instr} {r : Request} {a : Reply}

/-! ### IDENTITY, in start-up too -/

/-- A right frame of STATUS or IDENTITY comes to the rule of the request in start-up too (R176). -/
theorem respond_startUpKind (hk : startUpKind r.kind = true) :
    s.respond p (rightFrame r.kind r.payload) = s.serve p r := by
  simp [State.respond, rightFrame, hk, Laws.RequestLength.payload_length, requestDecodeEncode r]

/-- A reading request answered in start-up, at a port that sends no reply and holds no request. -/
theorem exec_of_startUpKind (hc : c.request = some (p, r)) (hk : startUpKind r.kind = true) (hon : s.part.phase ≠ .off)
    (hsign : s.part.phase = .running → s.disp.status = s.signStatus) (hreply : (s.links.get p).reply = none)
    (hheld : (s.links.get p).held = none) (hserve : (s.abandonFrame p).serve p r = (s.abandonFrame p, a)) :
    exec c s = .next (s.replying p r a) := by
  have htake : (s.abandonFrame p).takeRequest p (rightFrame r.kind r.payload) = s.replying p r a := by
    rw [State.takeRequest, respond_startUpKind hk, hserve]
    simp only [State.abandonFrame, modLink_modLink]
    rfl
  rw [exec_request c s p r hc, State.hostRequest, portCommand_powered hon, frameArrives_of_idle _ hreply hheld, htake]
  by_cases hrun : s.part.phase = .running
  · exact congrArg _ (settleSign_same rfl rfl (hsign hrun))
  · have hoff : s.running = false := by simp [State.running, hrun]
    simp [State.settleSign, hoff]

theorem paddedText_vendorName :
    paddedText vendorName = ("CRESPOL".toList.map fun x => BitVec.ofNat 8 x.toNat) ++ [0, 0, 0] := by decide

theorem paddedText_partName :
    paddedText partName = "GELBOR DW6".toList.map fun x => BitVec.ofNat 8 x.toNat := by decide

/-- The contents of IDENTITY (R183). -/
theorem doIdentity_eq {kind cause starting : Nat} (hon : s.part.phase ≠ .off)
    (hk : s.part.startKind = .cold ∧ kind = 0 ∨ s.part.startKind = .warm ∧ kind = 1 ∨
      s.part.startKind = .pending ∧ kind = 2)
    (hcause : s.part.cause = .powerOn ∧ cause = 0 ∨ s.part.cause = .resetLine ∧ cause = 1 ∨
      s.part.cause = .resetRequest ∧ cause = 2 ∨ s.part.cause = .clearStore ∧ cause = 3)
    (hstart : starting = if s.part.phase = .running then 0 else 1) :
    s.doIdentity = accept (("CRESPOL".toList.map fun x => BitVec.ofNat 8 x.toNat) ++ [0, 0, 0] ++
      ("GELBOR DW6".toList.map fun x => BitVec.ofNat 8 x.toNat) ++ be 1 1 ++ be 1 kind ++ be 1 cause ++
      be 1 starting) := by
  have hkind : s.part.startKind.ctorIdx = kind := by
    rcases hk with ⟨h, rfl⟩ | ⟨h, rfl⟩ | ⟨h, rfl⟩ <;> rw [h] <;> rfl
  have hcause' : s.part.cause.ctorIdx = cause := by
    rcases hcause with ⟨h, rfl⟩ | ⟨h, rfl⟩ | ⟨h, rfl⟩ | ⟨h, rfl⟩ <;> rw [h] <;> rfl
  have hup : yesNo s.startingUp = be 1 starting := by
    rw [hstart]
    by_cases hrun : s.part.phase = .running
    · have hdown : s.startingUp = false := by simp [State.startingUp, hrun]
      rw [hdown, if_pos hrun]
      rfl
    · rw [startingUp_of_phase hon hrun, if_neg hrun]
      rfl
  rw [State.doIdentity, paddedText_vendorName, paddedText_partName, hkind, hcause', hup]

/-! ### What a reading finds -/

theorem doVisitRead_of_queued {n : Nat} {v : Visit} (h : s.visitOf n = some v) : s.doVisitRead n = accept v.encode := by
  rw [State.doVisitRead, h]

theorem doVisitRead_of_none {n : Nat} (h : s.visitOf n = none) :
    s.doVisitRead n = refuse (if (s.bayHolding n).isSome then .refusedState else .badArgument) := by
  rw [State.doVisitRead, h]
  exact (refuseVisit_eq s n).trans (by rfl)

theorem doVehicleGet_eq (s : State) (tag : TagId) :
    s.doVehicleGet tag = ((s.lookup tag).map fun e => accept e.encode).getD (refuse .badArgument) := by
  unfold State.doVehicleGet
  split <;> simp [*]

theorem doHaulierGet_of_lt {h : Nat} (hh : h < 64) : s.doHaulierGet h = accept (s.haulierBytes ⟨h, hh⟩) := by
  rw [State.doHaulierGet, haulierOf_of_lt hh]

theorem doTermsRead_of_block {i j : Byte} {k : BlockId} (h : blockOf i.toNat j.toNat = .ok k) :
    s.doTermsRead i j = accept (be 1 s.generation ++ [i, j] ++ (s.active.block k).toList ++
      be 2 (crc ([i, j] ++ (s.active.block k).toList)).toNat) := by
  rw [State.doTermsRead, h]
  rfl

theorem claimOf_eq (s : State) (b : Bay) : s.claimOf b = ((s.record b).map (·.claim)).getD 0 := by
  unfold State.claimOf
  cases s.record b <;> rfl

theorem doWaterStatus_eq (s : State) : s.doWaterStatus =
    accept (be 3 s.water.fresh ++ be 3 s.water.overdraw ++ be 1 s.water.bayOpen.toNat ++
      be 1 (ownerNumber s.water.owner) ++ be 3 s.water.preload ++ be 1 s.water.waits.length ++
      s.water.waits.flatMap (fun x => be 1 (bayNumber x.bay) ++ be 2 x.estimate) ++
      allBays.flatMap fun b => be 2 (((s.record b).map (·.claim)).getD 0)) := by
  simp only [State.doWaterStatus, claimOf_eq]

/-- Settles O25, by the contents of each reading. -/
theorem readingRequestsAnswer : Obligations.ReadingRequestsAnswer := by
  refine ⟨fun p s kind cause starting hon hsign hreply hheld hk hcause hstart => ?identity, fun p s hs =>
    ⟨exec_of_unchanged (c := .queueList p) rfl hs rfl, fun n v hv => ?queued, fun n hn => ?notQueued,
      fun tag e he => ?entry, fun tag he => ?noEntry, fun h hh => ?haulier, fun i j k hk => ?terms, ?water,
      exec_of_unchanged (c := .timeRead p) rfl hs rfl⟩⟩
  case identity =>
    exact exec_of_startUpKind (c := .identity p) rfl rfl hon hsign hreply hheld
      (congrArg (Prod.mk (s.abandonFrame p)) (doIdentity_eq (s := s.abandonFrame p) hon hk hcause hstart))
  case queued =>
    exact exec_of_unchanged (c := .visitRead p n) rfl hs
      (congrArg (Prod.mk (s.abandonFrame p)) (doVisitRead_of_queued (s := s.abandonFrame p) hv))
  case notQueued =>
    exact exec_of_unchanged (c := .visitRead p n) rfl hs
      (congrArg (Prod.mk (s.abandonFrame p)) (doVisitRead_of_none (s := s.abandonFrame p) hn))
  case entry =>
    refine exec_of_unchanged (c := .vehicleGet p tag) rfl hs (congrArg (Prod.mk (s.abandonFrame p)) ?_)
    exact (doVehicleGet_eq (s.abandonFrame p) tag).trans (by rw [show (s.abandonFrame p).lookup tag = some e from he]; rfl)
  case noEntry =>
    refine exec_of_unchanged (c := .vehicleGet p tag) rfl hs (congrArg (Prod.mk (s.abandonFrame p)) ?_)
    exact (doVehicleGet_eq (s.abandonFrame p) tag).trans (by rw [show (s.abandonFrame p).lookup tag = none from he]; rfl)
  case haulier =>
    exact exec_of_unchanged (c := .haulierGet p h) rfl hs
      (congrArg (Prod.mk (s.abandonFrame p)) (doHaulierGet_of_lt (s := s.abandonFrame p) hh))
  case terms =>
    exact exec_of_unchanged (c := .termsRead p i j) rfl hs
      (congrArg (Prod.mk (s.abandonFrame p)) (doTermsRead_of_block (s := s.abandonFrame p) hk))
  case water =>
    exact exec_of_unchanged (c := .waterStatus p) rfl hs
      (congrArg (Prod.mk (s.abandonFrame p)) (doWaterStatus_eq (s.abandonFrame p)))

/-! ### The staged load (R51 to R54) -/

/-- A request whose rule changes neither the sign memory nor what the status line is made of. -/
theorem exec_of_changed (hc : c.request = some (p, r)) (hs : s.Ready p)
    (hserve : (s.abandonFrame p).serve p r = (t.abandonFrame p, a)) (ht : t.timebase = s.timebase)
    (hl : t.disp.lines = s.disp.lines) (hst : t.disp.status = s.disp.status) (hsign : t.signStatus = s.signStatus) :
    exec c s = .next (t.replying p r a) :=
  exec_of_serve hc hs (requestDecodeEncode r) hserve ht hl hst hsign

/-- The load of the other port, and then the owner, are tested first (R51). -/
theorem termsRefusal_busy {g : Staging} (hg : s.staging = some g) (hp : g.port ≠ p) :
    s.termsRefusal p = some .refusedBusy := by
  simp [State.termsRefusal, State.busyFor, hg, hp]

theorem termsRefusal_of_free (h : ∀ g, s.staging = some g → g.port = p) :
    s.termsRefusal p = if s.water.owner = some p then none else some .notOwner := by
  have hbusy : s.busyFor p = false := by
    unfold State.busyFor
    split
    · rfl
    next g hg => simp [h g hg]
  simp [State.termsRefusal, hbusy, State.owns]

/-- The requests of a staged load. -/
def loadRequests (i j : Byte) (content : BlockContent) (d : BitVec 16) : List Request :=
  [.termsBegin, .termsCount, .termsAbandon, .termsCommit, .termsBlock i j content d]

/-- A request of a staged load that the first two tests refuse. -/
theorem serve_of_termsRefusal {i j : Byte} {content : BlockContent} {d : BitVec 16} {k : ReplyCode}
    (hr : r ∈ loadRequests i j content d) (h : s.termsRefusal p = some k) : s.serve p r = (s, refuse k) := by
  simp only [loadRequests, List.mem_cons, List.not_mem_nil, or_false] at hr
  rcases hr with rfl | rfl | rfl | rfl | rfl
  · simp only [State.serve, State.doTermsBegin, h]
  · simp only [State.serve, State.doTermsCount, State.unchanged, h]
  · simp only [State.serve, State.doTermsAbandon, h]
  · simp only [State.serve, State.doTermsCommit, h]
  · simp only [State.serve, State.doTermsBlock, h]

/-- With no load open every one but BEGIN is refused. -/
theorem serve_of_no_load {i j : Byte} {content : BlockContent} {d : BitVec 16} (hr : r ∈ loadRequests i j content d)
    (hbegin : r ≠ .termsBegin) (h : s.termsRefusal p = none) (hg : s.staging = none) :
    s.serve p r = (s, refuse .refusedState) := by
  simp only [loadRequests, List.mem_cons, List.not_mem_nil, or_false] at hr
  rcases hr with rfl | rfl | rfl | rfl | rfl
  · exact absurd rfl hbegin
  · simp only [State.serve, State.doTermsCount, State.unchanged, h, hg]
  · simp only [State.serve, State.doTermsAbandon, h, hg]
  · simp only [State.serve, State.doTermsCommit, h, hg]
  · simp only [State.serve, State.doTermsBlock, h, hg]

/-- The rows of a staged load and their requests. -/
theorem request_of_loadRow {i j : Byte} {content : BlockContent} {d : BitVec 16}
    (h : (c, r) ∈ [(Instr.termsBegin p, Request.termsBegin), (.termsCount p, .termsCount),
      (.termsAbandon p, .termsAbandon), (.termsCommit p, .termsCommit),
      (.termsBlock p i j content d, .termsBlock i j content d)]) :
    c.request = some (p, r) ∧ r ∈ loadRequests i j content d := by
  simp only [List.mem_cons, Prod.mk.injEq, List.not_mem_nil, or_false] at h
  rcases h with ⟨rfl, rfl⟩ | ⟨rfl, rfl⟩ | ⟨rfl, rfl⟩ | ⟨rfl, rfl⟩ | ⟨rfl, rfl⟩ <;> exact ⟨rfl, by simp [loadRequests]⟩

/-- Settles O27: the two tests, then what each of the three does. -/
theorem stagedLoadOpensAndCloses : Obligations.StagedLoadOpensAndCloses := by
  intro p s hs
  refine ⟨fun c r i j content d hrow => ?tests, fun ho => ⟨fun hfree => ?begin, fun g hg hp => ?loaded⟩⟩
  case tests =>
    obtain ⟨hc, hr⟩ := request_of_loadRow hrow
    refine ⟨fun g hg hp => ?_, fun hfree ho => ?_, fun hg ho hbegin => ?_⟩
    · exact exec_of_unchanged hc hs (serve_of_termsRefusal hr (termsRefusal_busy (s := s.abandonFrame p) hg hp))
    · exact exec_of_unchanged hc hs (serve_of_termsRefusal hr
        ((termsRefusal_of_free (s := s.abandonFrame p) hfree).trans (if_neg ho)))
    · have hfree : ∀ g, (s.abandonFrame p).staging = some g → g.port = p := fun g h => nomatch hg.symm.trans h
      exact exec_of_unchanged hc hs (serve_of_no_load hr hbegin ((termsRefusal_of_free hfree).trans (if_pos ho)) hg)
  case begin =>
    have hpass : (s.abandonFrame p).termsRefusal p = none :=
      (termsRefusal_of_free (s := s.abandonFrame p) hfree).trans (if_pos ho)
    refine exec_of_changed (c := .termsBegin p) rfl hs ?_ rfl rfl rfl rfl
    simp only [State.serve, State.doTermsBegin, hpass]
    rfl
  case loaded =>
    have hfree : ∀ g', (s.abandonFrame p).staging = some g' → g'.port = p := fun g' h => by
      rw [← Option.some.inj (hg.symm.trans h)]
      exact hp
    have hpass : (s.abandonFrame p).termsRefusal p = none := (termsRefusal_of_free hfree).trans (if_pos ho)
    have hg' : (s.abandonFrame p).staging = some g := hg
    refine ⟨exec_of_unchanged (c := .termsCount p) rfl hs ?_, exec_of_changed (c := .termsAbandon p) rfl hs ?_ rfl rfl rfl rfl⟩
    · simp only [State.serve, State.doTermsCount, State.unchanged, hpass, hg']
      rfl
    · simp only [State.serve, State.doTermsAbandon, hpass, hg']
      rfl

end Sys2Proof.Machine
end

section
/-! TERMS_BLOCK and TERMS_COMMIT (R53, R55, R56): the blocks' ranges and the commit's checks. -/

namespace Sys2Proof.Machine

variable {s t u : State} {p : Port} {g : Staging} {i j : Byte} {content : BlockContent} {d : BitVec 16}

/-! ### The requests -/

/-- The owner's load passes the first two tests. -/
theorem termsRefusal_of_load (ho : s.water.owner = some p) (hg : s.staging = some g) (hp : g.port = p) :
    s.termsRefusal p = none :=
  (termsRefusal_of_free fun g' h => by rw [← Option.some.inj (hg.symm.trans h)]; exact hp).trans (if_pos ho)

theorem doTermsBlock_of_load (h : s.termsRefusal p = none) (hg : s.staging = some g) :
    s.doTermsBlock p i j content d =
      ({ s with staging := some (g.takeBlock i j content d).1 }, (g.takeBlock i j content d).2) := by
  simp only [State.doTermsBlock, h, hg]

theorem takeBlock_digest (h : d ≠ crc ([i, j] ++ content.toList)) :
    g.takeBlock i j content d = (g, refuse .digestRejected) :=
  if_pos h

/-- A block whose digest is right, by the block it names and the first field out of range. -/
theorem takeBlock_eq (h : d = crc ([i, j] ++ content.toList)) : g.takeBlock i j content d =
    (match blockOf i.toNat j.toNat with
      | .error off => (g, answer .writeError (be 1 off))
      | .ok k =>
        match badField k content with
        | some off => (g, answer .writeError (be 1 off))
        | none => ({ g with bank := g.bank.setBlock k content, count := min 65535 (g.count + 1) },
            accept (be 2 (min 65535 (g.count + 1))))) := by
  subst h
  exact if_neg (not_not.2 rfl)

theorem takeBlock_noBlock {off : Nat} (h : d = crc ([i, j] ++ content.toList))
    (hb : blockOf i.toNat j.toNat = .error off) : g.takeBlock i j content d = (g, answer .writeError (be 1 off)) := by
  rw [takeBlock_eq h, hb]

theorem takeBlock_badField {k : BlockId} {x : FieldTest} (h : d = crc ([i, j] ++ content.toList))
    (hb : blockOf i.toNat j.toNat = .ok k) (hx : (blockTests k).find? (fun t => !t.passes content) = some x) :
    g.takeBlock i j content d = (g, answer .writeError (be 1 (x.off + 2))) := by
  rw [takeBlock_eq h, hb]
  simp only [badField, hx, Option.map_some]

theorem takeBlock_written {k : BlockId} (h : d = crc ([i, j] ++ content.toList))
    (hb : blockOf i.toNat j.toNat = .ok k) (hx : ∀ x ∈ blockTests k, x.passes content = true) :
    g.takeBlock i j content d = ({ g with bank := g.bank.setBlock k content, count := min 65535 (g.count + 1) },
      accept (be 2 (min 65535 (g.count + 1)))) := by
  have hgood : badField k content = none := by
    rw [badField, List.find?_eq_none.2 fun x hm => by simp [hx x hm]]
    rfl
  rw [takeBlock_eq h, hb]
  simp only [hgood]

/-- TERMS_BLOCK of the owner's open load, by what the staging answers. -/
theorem exec_termsBlock {g' : Staging} {a : Reply} (hs : s.Ready p) (ho : s.water.owner = some p)
    (hg : s.staging = some g) (hp : g.port = p) (h : g.takeBlock i j content d = (g', a)) :
    exec (.termsBlock p i j content d) s =
      .next (State.replying { s with staging := some g' } p (.termsBlock i j content d) a) := by
  refine exec_of_changed (c := .termsBlock p i j content d) rfl hs ?_ rfl rfl rfl rfl
  refine (doTermsBlock_of_load (termsRefusal_of_load (s := s.abandonFrame p) ho hg hp) hg).trans ?_
  rw [h]
  rfl

/-- A block that is rejected leaves the staging as it was. -/
theorem exec_termsBlock_rejected {a : Reply} (hs : s.Ready p) (ho : s.water.owner = some p)
    (hg : s.staging = some g) (hp : g.port = p) (h : g.takeBlock i j content d = (g, a)) :
    exec (.termsBlock p i j content d) s = .next (s.replying p (.termsBlock i j content d) a) := by
  rw [exec_termsBlock hs ho hg hp h, ← hg]

theorem doTermsCommit_failed {f : CommitFailure} (h : s.termsRefusal p = none) (hg : s.staging = some g)
    (hf : g.bank.commitFailure = some f) : s.doTermsCommit p = (s, answer .termsInvalid f.encode) := by
  simp only [State.doTermsCommit, h, hg, hf]

theorem doTermsCommit_done (h : s.termsRefusal p = none) (hg : s.staging = some g) (hf : g.bank.commitFailure = none) :
    s.doTermsCommit p = (s.commit g.bank, accept (be 1 (if s.generation = 255 then 1 else s.generation + 1))) := by
  simp only [State.doTermsCommit, h, hg, hf, nextGeneration]

/-! ### The ranges of the blocks -/

theorem passes_iff (x : FieldTest) (content : BlockContent) : x.passes content = true ↔
    x.lo ≤ field content.toList x.off x.width ∧ field content.toList x.off x.width ≤ x.hi := by
  simp [FieldTest.passes]

/-- The tests of a block stand in the order in which its fields lie. -/
theorem blockTests_pairwise (k : BlockId) : ((blockTests k).map (·.off)).Pairwise (· < ·) := by
  cases k with
  | classTable => decide
  | programme i =>
    have h : ∀ i : Fin 24, ((blockTests (.programme i)).map (·.off)).Pairwise (· < ·) := by decide
    exact h i
  | tariff i =>
    have h : ∀ i : Fin 7, ((blockTests (.tariff i)).map (·.off)).Pairwise (· < ·) := by decide
    exact h i
  | settings => decide

theorem classTable_passes_iff (content : BlockContent) : (∀ x ∈ blockTests .classTable, x.passes content = true) ↔
    ∀ r, r < 6 → 2 ≤ field content.toList (3 * r) 1 ∧ field content.toList (3 * r) 1 ≤ 12 ∧
      field content.toList (3 * r + 1) 2 ≤ 3000 := by
  simp only [blockTests, List.mem_flatMap, List.mem_range, List.mem_cons, List.not_mem_nil, or_false, passes_iff]
  constructor
  · intro h r hr
    have hcount := h _ ⟨r, hr, .inl rfl⟩
    have hlength := h _ ⟨r, hr, .inr rfl⟩
    exact ⟨hcount.1, hcount.2, hlength.2⟩
  · rintro h x ⟨r, hr, rfl | rfl⟩
    · exact ⟨(h r hr).1, (h r hr).2.1⟩
    · exact ⟨Nat.zero_le _, (h r hr).2.2⟩

theorem phase_passes_iff (content : BlockContent) (off : Nat) : (∀ x ∈ phaseTests off, x.passes content = true) ↔
    field content.toList off 1 ≤ 6 ∧ field content.toList (off + 1) 1 ≤ 1 ∧ field content.toList (off + 2) 2 ≤ 4000 ∧
      field content.toList (off + 4) 2 ≤ 1800 ∧ field content.toList (off + 6) 1 ≤ 255 ∧
      field content.toList (off + 7) 2 ≤ 1000 := by
  simp [phaseTests, passes_iff]

theorem programme_passes_iff (content : BlockContent) (i : Fin 24) :
    (∀ x ∈ blockTests (.programme i), x.passes content = true) ↔
      (i.val % 2 = 0 → field content.toList 0 1 ≤ 8) ∧ ∀ k, k < 4 →
        field content.toList (9 * k + 1) 1 ≤ 6 ∧ field content.toList (9 * k + 2) 1 ≤ 1 ∧
        field content.toList (9 * k + 3) 2 ≤ 4000 ∧ field content.toList (9 * k + 5) 2 ≤ 1800 ∧
        field content.toList (9 * k + 7) 1 ≤ 255 ∧ field content.toList (9 * k + 8) 2 ≤ 1000 := by
  have hplaces : (∀ x ∈ (List.range 4).flatMap fun k => phaseTests (1 + 9 * k), x.passes content = true) ↔
      ∀ k, k < 4 → ∀ x ∈ phaseTests (1 + 9 * k), x.passes content = true := by
    simp only [List.mem_flatMap, List.mem_range]
    exact ⟨fun h k hk x hx => h x ⟨k, hk, hx⟩, fun h x ⟨k, hk, hx⟩ => h k hk x hx⟩
  have hoff : ∀ k m : Nat, 1 + 9 * k + m = 9 * k + (m + 1) := fun k m => by omega
  have hcount : (∀ x ∈ if i.val % 2 = 0 then [(⟨0, 1, 0, 8⟩ : FieldTest)] else [], x.passes content = true) ↔
      (i.val % 2 = 0 → field content.toList 0 1 ≤ 8) := by
    split
    next h => simp [passes_iff, h]
    next h => simp [h]
  rw [blockTests, List.forall_mem_append, hplaces, hcount]
  simp only [phase_passes_iff, hoff]
  exact Iff.and .rfl (by simp only [Nat.add_comm 1])

theorem tariff_passes_iff (content : BlockContent) (i : Fin 7) :
    (∀ x ∈ blockTests (.tariff i), x.passes content = true) ↔
      if i.val < 6 then ∀ c, c < 12 → field content.toList (3 * c) 3 ≤ 99999
      else field content.toList 0 2 ≤ 2000 ∧ field content.toList 2 2 ≤ 2000 := by
  rw [blockTests]
  split
  · simp [passes_iff]
  · simp [passes_iff]

theorem settings_passes_iff (content : BlockContent) (v : Nat → Nat → Nat) (hv : v = field content.toList) :
    (∀ x ∈ blockTests .settings, x.passes content = true) ↔
      (100 ≤ v 0 2 ∧ v 0 2 ≤ 2000) ∧ (5 ≤ v 2 1 ∧ v 2 1 ≤ 120) ∧ v 3 1 ≤ 5 ∧ v 4 1 ≤ 120 ∧
      (∀ b, b < 6 → 1 ≤ v (5 + b) 1 ∧ v (5 + b) 1 ≤ 6) ∧ (2 ≤ v 11 1 ∧ v 11 1 ≤ 30) ∧
      (30 ≤ v 12 2 ∧ v 12 2 ≤ 600) ∧ (30 ≤ v 14 2 ∧ v 14 2 ≤ 600) ∧ v 16 2 ≤ 600 ∧ (1 ≤ v 18 1 ∧ v 18 1 ≤ 240) ∧
      (5 ≤ v 19 1 ∧ v 19 1 ≤ 240) ∧ (256 ≤ v 20 2 ∧ v 20 2 ≤ 16384) ∧ v 22 2 ≤ 65535 ∧ v 24 2 ≤ 65535 ∧
      v 26 2 ≤ 65535 ∧ v 28 2 ≤ 65535 ∧ v 30 1 ≤ 60 := by
  have hbays : (∀ b, b < 6 → 1 ≤ v (5 + b) 1 ∧ v (5 + b) 1 ≤ 6) ↔
      (1 ≤ v 5 1 ∧ v 5 1 ≤ 6) ∧ (1 ≤ v 6 1 ∧ v 6 1 ≤ 6) ∧ (1 ≤ v 7 1 ∧ v 7 1 ≤ 6) ∧ (1 ≤ v 8 1 ∧ v 8 1 ≤ 6) ∧
      (1 ≤ v 9 1 ∧ v 9 1 ≤ 6) ∧ 1 ≤ v 10 1 ∧ v 10 1 ≤ 6 := by
    refine ⟨fun h => ⟨h 0 (by decide), h 1 (by decide), h 2 (by decide), h 3 (by decide), h 4 (by decide),
      h 5 (by decide)⟩, fun h b hb => ?_⟩
    obtain ⟨h0, h1, h2, h3, h4, h5⟩ := h
    match b, hb with
    | 0, _ => exact h0
    | 1, _ => exact h1
    | 2, _ => exact h2
    | 3, _ => exact h3
    | 4, _ => exact h4
    | 5, _ => exact h5
  subst hv
  simp only [hbays, blockTests, settingTests, List.forall_mem_cons, List.not_mem_nil, false_imp_iff, implies_true,
    passes_iff, Nat.zero_le, true_and, and_true, and_assoc]

/-! ### The commit's checks (R55) -/

/-- A phase lies in its in-use range. -/
def Bank.PhaseFits (b : Bank) (p k : Nat) : Prop :=
  (b.phase p k).kind ≠ .unused ∧ 1 ≤ (b.phase p k).dose ∧ (b.phase p k).dose ≤ 4000 ∧
    10 ≤ (b.phase p k).limit ∧ (b.phase p k).limit ≤ 1800

/-- A programme passes its checks. -/
def Bank.ProgrammeOk (b : Bank) (p : Nat) : Prop :=
  (b.phaseCount p = 0 → ∀ c, 1 ≤ c → c ≤ 6 → b.basePrice p c = 0) ∧
    (b.phaseCount p ≠ 0 → (∀ k, 1 ≤ k → k ≤ b.phaseCount p → b.PhaseFits p k) ∧
      ((b.phases p).map (·.weight)).sum = 1000)

section
variable {b : Bank} {q : Nat}

theorem inUse_iff (k : Nat) : (b.phase q k).inUse = true ↔ b.PhaseFits q k := by
  simp only [PhaseTerms.inUse, Bank.PhaseFits, Bool.and_eq_true, decide_eq_true_eq, and_assoc]

/-- The first of a counted row, from 1 on, at which a search answers. -/
theorem findSome?_range_eq_some_iff {α : Type} {f : Nat → Option α} {n : Nat} {x : α} :
    (List.range n).findSome? (fun i => f (i + 1)) = some x ↔
      ∃ k, 1 ≤ k ∧ k ≤ n ∧ f k = some x ∧ ∀ j, 1 ≤ j → j < k → f j = none := by
  rw [List.findSome?_eq_some_iff]
  constructor
  · rintro ⟨l₁, a, l₂, hl, ha, hnone⟩
    have hlen : l₁.length < n := by
      have := congrArg List.length hl
      simp at this
      omega
    have hl₁ : l₁ = List.range l₁.length := by
      have := congrArg (List.take l₁.length) hl
      rw [List.take_left', List.take_range, Nat.min_eq_left (Nat.le_of_lt hlen)] at this
      · exact this.symm
      · rfl
    have ha' : a = l₁.length := by
      have := congrArg (fun l => l[l₁.length]?) hl
      simp [List.getElem?_range hlen] at this
      exact this.symm
    subst ha'
    refine ⟨l₁.length + 1, by omega, by omega, ha, fun j hj hlt => ?_⟩
    obtain ⟨j, rfl⟩ := Nat.exists_eq_add_of_le' hj
    exact hnone j (by rw [hl₁]; exact List.mem_range.2 (by omega))
  · rintro ⟨k, hk, hkn, hf, hnone⟩
    obtain ⟨k, rfl⟩ := Nat.exists_eq_add_of_le' hk
    refine ⟨List.range k, k, (List.range (n - k - 1)).map (· + (k + 1)), ?_, hf, fun j hj => ?_⟩
    · have hn : n = k + 1 + (n - k - 1) := by omega
      conv_lhs => rw [hn, List.range_add, List.range_succ]
      simp [Nat.add_comm]
    · exact hnone _ (by omega) (by have := List.mem_range.1 hj; omega)

theorem findSome?_range_eq_none_iff {α : Type} {f : Nat → Option α} {n : Nat} :
    (List.range n).findSome? (fun i => f (i + 1)) = none ↔ ∀ k, 1 ≤ k → k ≤ n → f k = none := by
  simp only [List.findSome?_eq_none_iff, List.mem_range]
  refine ⟨fun h k hk hkn => ?_, fun h i hi => h _ (by omega) (by omega)⟩
  obtain ⟨k, rfl⟩ := Nat.exists_eq_add_of_le' hk
  exact h k (by omega)

theorem badPhase_eq_none_iff : b.badPhase q = none ↔ ∀ k, 1 ≤ k → k ≤ b.phaseCount q → b.PhaseFits q k :=
  (findSome?_range_eq_none_iff (f := fun k => if (b.phase q k).inUse then none else some k)).trans (by simp [inUse_iff])

theorem badPhase_eq_some {k : Nat} (hk : 1 ≤ k) (hn : k ≤ b.phaseCount q)
    (hbefore : ∀ j, 1 ≤ j → j < k → b.PhaseFits q j) (hbad : ¬ b.PhaseFits q k) : b.badPhase q = some k :=
  (findSome?_range_eq_some_iff (f := fun k => if (b.phase q k).inUse then none else some k)).2
    ⟨k, hk, hn, if_neg (mt (inUse_iff k).1 hbad), fun j hj hlt => if_pos ((inUse_iff j).2 (hbefore j hj hlt))⟩

theorem allPricesZero_iff : ((List.range 6).all fun c => b.basePrice q (c + 1) = 0) = true ↔
    ∀ c, 1 ≤ c → c ≤ 6 → b.basePrice q c = 0 := by
  simp only [List.all_eq_true, List.mem_range, decide_eq_true_eq]
  refine ⟨fun h c hc hc6 => ?_, fun h c hc => h _ (by omega) (by omega)⟩
  obtain ⟨c, rfl⟩ := Nat.exists_eq_add_of_le' hc
  exact h c (by omega)

theorem programmeFailure_priceUndefined (h0 : b.phaseCount q = 0)
    (hp : ∃ c, 1 ≤ c ∧ c ≤ 6 ∧ b.basePrice q c ≠ 0) : b.programmeFailure q = some (.priceUndefined q) := by
  obtain ⟨c, hc, hc6, hprice⟩ := hp
  rw [Bank.programmeFailure, if_pos h0, if_neg fun h => hprice (allPricesZero_iff.1 h c hc hc6)]

theorem programmeFailure_phaseRange {k : Nat} (hk : 1 ≤ k) (hn : k ≤ b.phaseCount q)
    (hbefore : ∀ j, 1 ≤ j → j < k → b.PhaseFits q j) (hbad : ¬ b.PhaseFits q k) :
    b.programmeFailure q = some (.phaseRange q k) := by
  rw [Bank.programmeFailure, if_neg (by omega), badPhase_eq_some hk hn hbefore hbad]

theorem programmeFailure_weightSum (h0 : b.phaseCount q ≠ 0) (hfit : ∀ k, 1 ≤ k → k ≤ b.phaseCount q → b.PhaseFits q k)
    (hsum : ((b.phases q).map (·.weight)).sum ≠ 1000) : b.programmeFailure q = some (.weightSum q) := by
  rw [Bank.programmeFailure, if_neg h0, badPhase_eq_none_iff.2 hfit]
  exact if_neg hsum

theorem programmeFailure_eq_none_iff : b.programmeFailure q = none ↔ b.ProgrammeOk q := by
  unfold Bank.ProgrammeOk
  by_cases h0 : b.phaseCount q = 0
  · rw [Bank.programmeFailure, if_pos h0]
    simp only [h0, true_imp_iff, ne_eq, not_true_eq_false, false_imp_iff, and_true, ← allPricesZero_iff]
    simp
  · by_cases hfit : ∀ k, 1 ≤ k → k ≤ b.phaseCount q → b.PhaseFits q k
    · rw [Bank.programmeFailure, if_neg h0, badPhase_eq_none_iff.2 hfit]
      simpa [h0] using fun _ => hfit
    · have hsome : (b.badPhase q).isSome = true := by
        rw [← Option.ne_none_iff_isSome]
        exact mt badPhase_eq_none_iff.1 hfit
      obtain ⟨k, hk⟩ := Option.isSome_iff_exists.1 hsome
      rw [Bank.programmeFailure, if_neg h0, hk]
      simp [h0, hfit]

theorem commitFailure_eq_none_iff : b.commitFailure = none ↔
    (∀ p, 1 ≤ p → p ≤ 12 → b.ProgrammeOk p) ∧ b.qLow < b.qHigh ∧ b.qHigh ≤ b.qDump := by
  simp only [← programmeFailure_eq_none_iff, ← findSome?_range_eq_none_iff (n := 12)]
  unfold Bank.commitFailure
  cases (List.range 12).findSome? fun i => b.programmeFailure (i + 1) with
  | none => simp
  | some f => simp

/-- The first programme with a failed check gives the commit's failure. -/
theorem commitFailure_of_programme {f : CommitFailure} (hq : 1 ≤ q) (hq12 : q ≤ 12)
    (hbefore : ∀ j, 1 ≤ j → j < q → b.ProgrammeOk j) (hf : b.programmeFailure q = some f) :
    b.commitFailure = some f := by
  have hfirst : (List.range 12).findSome? (fun i => b.programmeFailure (i + 1)) = some f :=
    findSome?_range_eq_some_iff.2 ⟨q, hq, hq12, hf, fun j hj hlt => programmeFailure_eq_none_iff.2 (hbefore j hj hlt)⟩
  rw [Bank.commitFailure, hfirst]

theorem commitFailure_thresholds (hok : ∀ p, 1 ≤ p → p ≤ 12 → b.ProgrammeOk p)
    (h : b.qHigh ≤ b.qLow ∨ b.qDump < b.qHigh) : b.commitFailure = some .thresholds := by
  have hnone : (List.range 12).findSome? (fun i => b.programmeFailure (i + 1)) = none :=
    findSome?_range_eq_none_iff.2 fun k hk hk12 => programmeFailure_eq_none_iff.2 (hok k hk hk12)
  rw [Bank.commitFailure, hnone]
  exact if_neg (by omega)

end

/-- Settles O28: what the staging answers to a block, the commit, the blocks' ranges, and the commit's checks. -/
theorem termsBlockAndCommit : Obligations.TermsBlockAndCommit := by
  refine ⟨fun p i j content d g s hs ho hg hp => ⟨fun hd => ?_, fun hd => ⟨fun off hk => ?_, fun k x hk hx => ?_,
    fun k hk hx => ?_⟩⟩, fun p g s hs ho hg hp => ⟨fun f hf => ?_, fun hf => ?_⟩, fun content v ok hv hok => ?_,
    fun b fit ok hfit hok => ?_⟩
  · exact exec_termsBlock_rejected hs ho hg hp (takeBlock_digest hd)
  · exact exec_termsBlock_rejected hs ho hg hp (takeBlock_noBlock hd hk)
  · exact exec_termsBlock_rejected hs ho hg hp (takeBlock_badField hd hk hx)
  · exact exec_termsBlock hs ho hg hp (takeBlock_written hd hk hx)
  · exact exec_of_unchanged (c := .termsCommit p) rfl hs
      (doTermsCommit_failed (termsRefusal_of_load (s := s.abandonFrame p) ho hg hp) hg hf)
  · exact exec_of_changed (c := .termsCommit p) rfl hs
      (doTermsCommit_done (termsRefusal_of_load (s := s.abandonFrame p) ho hg hp) hg hf) rfl rfl rfl rfl
  · subst hok
    have hv' := hv
    subst hv'
    exact ⟨blockTests_pairwise, classTable_passes_iff content, programme_passes_iff content,
      tariff_passes_iff content, settings_passes_iff content _ rfl⟩
  · have hok' : ok = b.ProgrammeOk := by rw [hok, hfit]; rfl
    have hfit' : fit = b.PhaseFits := hfit
    subst hok' hfit'
    exact ⟨commitFailure_eq_none_iff, fun q hq hq12 hbefore =>
      ⟨fun h0 hprice => commitFailure_of_programme hq hq12 hbefore (programmeFailure_priceUndefined h0 hprice),
        fun k hk hn hfits hbad => commitFailure_of_programme hq hq12 hbefore (programmeFailure_phaseRange hk hn hfits hbad),
        fun h0 hfits hsum => commitFailure_of_programme hq hq12 hbefore (programmeFailure_weightSum h0 hfits hsum)⟩,
      commitFailure_thresholds⟩

end Sys2Proof.Machine
end

section
/-! The bays: what a change of one bay leaves of the others, the sub-state, and the moves to IDLE or CLOSED; then flow
pulses (R84, R86), the pump drive (R94, R95), BAY_STATUS (R79) and BAY_RELEASE (R93). -/

namespace Sys2Proof.Machine

variable {s t u : State} {p : Port} {c : Instr} {b : Bay}

/-! ### Answers and events that leave the sign alone -/

/-- A request at a ready port whose rule leaves the sign alone: its state with the reply begun. -/
theorem exec_answered_sameSign {r : Request} {a : Reply} (hc : c.request = some (p, r)) (hs : s.Ready p)
    (hserve : (s.abandonFrame p).serve p r = (u, a)) (hsign : s.SameSign u) :
    ∃ l, exec c s = .next { u with links := l } ∧
      (l.get p).reply = some { bytes := replyFrame r.kind a, began := s.timebase } ∧
      ∀ k, u.KeepsLatch { u with links := l } k := by
  have hexec := exec_of_ready hc hs
  rw [hserve] at hexec
  have hsettled : s.settleSign (u.modLink p fun l =>
      { l with reply := some { bytes := replyFrame r.kind a, began := s.timebase } }) = _ :=
    settleSign_same hsign.lines hsign.status (hsign.status.trans (hs.2.2.2.trans hsign.inputs.symm))
  rw [hsettled] at hexec
  exact ⟨_, hexec, by cases p <;> rfl, fun k =>
    keepsLatch_modLink u p (f := fun l => { l with
      reply := some { bytes := replyFrame r.kind a, began := s.timebase } }) (fun _ => rfl) k⟩

/-- An event, of a line too whose level has been followed, with a rule that gives a state with the sign as it was. -/
theorem event_eq {s₀ : State} {f : State → State} (hc : exec c s = s₀.event f) (hs : s₀.Running) (hf : f s₀ = t)
    (h : s₀.SameSign t) : exec c s = .next t := by
  rw [hc, event_running hs.1, hf]
  exact congrArg _ (settleSign_same h.lines h.status (h.status.trans (hs.2.trans h.inputs.symm)))

/-- An event, of a line too whose level has been followed: its rule's state, the sign judged. -/
theorem event_settled {s₀ : State} {f : State → State} (hc : exec c s = s₀.event f) (hs : s₀.Running) (hf : f s₀ = t) :
    ∃ d, exec c s = .next { t with disp := d } ∧
      d = { t.disp with status := d.status, sending := d.sending, again := d.again } := by
  obtain ⟨d, hd, hkept⟩ := settleSign_frame s₀ t
  exact ⟨d, by rw [hc, event_running hs.1, hf, hd], hkept⟩

theorem sameSign_abandonFrame (s : State) (p : Port) : s.SameSign (s.abandonFrame p) := ⟨rfl, rfl, rfl⟩

theorem sameSign_modBay (s : State) (b : Bay) (f : BayUnit → BayUnit) : s.SameSign (s.modBay b f) := ⟨rfl, rfl, rfl⟩

theorem sameSign_bays (s : State) (x : PerBay BayUnit) : s.SameSign { s with bays := x } := ⟨rfl, rfl, rfl⟩

/-! ### One bay among the others -/

theorem modBay_eq (s : State) (b : Bay) (f : BayUnit → BayUnit) :
    s.modBay b f = { s with bays := s.bays.set b (f (s.bays.get b)) } := rfl

theorem perBay_set_set {α : Type} (x : PerBay α) (b : Bay) (v w : α) : (x.set b v).set b w = x.set b w := by
  cases b <;> rfl

theorem perBay_set_get {α : Type} (x : PerBay α) (b : Bay) : x.set b (x.get b) = x := by
  cases b <;> rfl

/-- Two changes of one bay are one. -/
theorem modBay_modBay (s : State) (b : Bay) (f g : BayUnit → BayUnit) :
    (s.modBay b f).modBay b g = s.modBay b fun u => g (f u) := by
  simp [modBay_eq, perBay_set_set]

/-- A record changed, where the bay holds one. -/
theorem modRecord_eq {r : WorkRecord} (h : (s.bays.get b).record = some r) (f : WorkRecord → WorkRecord) :
    s.modRecord b f = { s with bays := s.bays.set b { s.bays.get b with record := some (f r) } } := by
  simp [State.modRecord, modBay_eq, h]

theorem subState_of_washing {r : WorkRecord} (hw : (s.bays.get b).state = .washing)
    (hr : (s.bays.get b).record = some r) : s.subState b = r.sub := by
  simp [State.subState, State.record, hw, hr]

theorem subState_of_not_washing (h : (s.bays.get b).state ≠ .washing) : s.subState b = .outside := if_neg h

/-! ### The numbers of the bays -/

theorem bayOf_bayNumber (b : Bay) : bayOf (bayNumber b) = some b := by
  cases b <;> rfl

theorem bayOf_of_out_of_range {n : Nat} (h : n = 0 ∨ 6 < n) : bayOf n = none := by
  match n, h with
  | 0, _ => rfl
  | n + 7, _ => rfl

theorem bayNumber_injective {b c : Bay} (h : bayNumber b = bayNumber c) : b = c := by
  have hsome := (bayOf_bayNumber b).symm.trans ((congrArg bayOf h).trans (bayOf_bayNumber c))
  exact Option.some.inj hsome

/-! ### Moves to IDLE or CLOSED (R71, R77) -/

theorem goIdle_bays (s : State) (b : Bay) : (s.goIdle b).bays =
    s.bays.set b { s.bays.get b with state := if s.bayIsOpen b then .idle else .closed } := by
  unfold State.goIdle
  split
  · dsimp only
    split <;> rfl
  · rfl

theorem goIdle_disp (s : State) (b : Bay) : (s.goIdle b).disp =
    if s.bayIsOpen b then { s.disp with mark := true } else s.disp := by
  unfold State.goIdle
  split
  · dsimp only
    split <;> rfl
  · rfl

theorem goIdle_intrusion (s : State) (b : Bay) : s.IntrusionJudged (s.goIdle b) b := by
  unfold State.IntrusionJudged State.goIdle
  by_cases ho : s.bayIsOpen b = true
  · by_cases hp : s.lines.presence.get b = true
    · rw [if_pos ⟨ho, hp⟩, if_pos ho, if_pos hp]
      exact shows_latch _ _
    · rw [if_neg fun h => hp h.2, if_pos ho, if_neg hp]
      exact .refl s _
  · rw [if_neg fun h => ho h.1, if_neg ho]
    exact .refl s _

/-- INTRUSION judged between two states is judged between others that latch nothing of it. -/
theorem State.IntrusionJudged.congr {s' t' : State} (h : s.IntrusionJudged t b) (ho : s'.bayIsOpen b = s.bayIsOpen b)
    (hp : s'.lines.presence.get b = s.lines.presence.get b) (hc : s'.clock.time = s.clock.time)
    (hs : s'.KeepsLatch s .intrusion) (ht : t.KeepsLatch t' .intrusion) : s'.IntrusionJudged t' b := by
  unfold State.IntrusionJudged at h ⊢
  rw [ho, hp, hc]
  split at h
  next hif =>
    rw [if_pos hif]
    exact h.keep ht
  next hif =>
    rw [if_neg hif]
    exact (hs.trans h).trans ht

theorem sameSign_goIdle (s : State) (b : Bay) : s.SameSign (s.goIdle b) := by
  refine ⟨?_, ?_, ?_⟩
  · rw [goIdle_disp]
    split <;> rfl
  · rw [goIdle_disp]
    split <;> rfl
  · simp [State.signStatus]

/-! ### Flow pulses and the end of RUN (R84, R86) -/

/-- The end of RUN at a bay that holds a record: outputs low and closed, RUN-ON begun for 2 s. -/
theorem endRun_eq {r : WorkRecord} (hr : (s.bays.get b).record = some r) (st : PhaseStatus) :
    s.endRun b st = { s with bays := s.bays.set b { s.bays.get b with
      supply := false, blend := 0, pumpPos := 0, pumpDuty := 0, limit := none, runOn := 0, spilled := false
      runOnTimer := some (s.laneTime + 2000)
      record := some { r with
        sub := .runOn
        entries := r.entries.modify (r.phase - 1) fun e => { e with status := st } } } } := by
  simp [State.endRun, modBay_eq, BayUnit.endRun, hr, State.afterSeconds, Config.runOnSeconds, WorkRecord.modEntry,
    WorkRecord.place]

theorem pulse_eq : PhaseEntry.pulse = fun e => if e.lost then { e with lf := e.lf + 1 } else { e with lb := e.lb + 1 } := rfl

section
variable {r r' : WorkRecord}

theorem pulseInRun_below (hr : (s.bays.get b).record = some r) (hd : (s.bays.get b).dose + 1 ≠ 0) :
    s.pulseInRun b = { s with bays := s.bays.set b { s.bays.get b with
      dose := (s.bays.get b).dose + 1, record := some (r.modEntry PhaseEntry.pulse) } } := by
  simp only [State.pulseInRun, hd, if_false, modRecord_eq hr, modBay_eq, perBay_set_set, perBay_get_set, if_true]

/-- The pulse that carries the dose counter to 0 ends RUN with status DONE. -/
theorem pulseInRun_last (hr : (s.bays.get b).record = some r) (hd : (s.bays.get b).dose + 1 = 0) :
    s.pulseInRun b = { s with bays := s.bays.set b { s.bays.get b with
      dose := 0, supply := false, blend := 0, pumpPos := 0, pumpDuty := 0, limit := none, runOn := 0, spilled := false
      runOnTimer := some (s.laneTime + 2000)
      record := some { r.modEntry PhaseEntry.pulse with
        sub := .runOn
        entries := (r.modEntry PhaseEntry.pulse).entries.modify (r.phase - 1) fun e => { e with status := .done } } } } := by
  have hcounted : ∀ (x : State) (hx : x = (s.modRecord b fun r => r.modEntry PhaseEntry.pulse).modBay b
      fun u => { u with dose := 0 }), (x.bays.get b).record = some (r.modEntry PhaseEntry.pulse) := fun x hx => by
    simp [hx, modRecord_eq hr]
  simp only [State.pulseInRun, hd, if_true]
  rw [endRun_eq (hcounted _ rfl)]
  simp only [modRecord_eq hr, modBay_eq, perBay_set_set, perBay_get_set, if_true]
  rfl

theorem pulseInRunOn_counted (hr : (s.bays.get b).record = some r) (h : (s.bays.get b).runOn < 50) :
    s.pulseInRunOn b = { s with bays := s.bays.set b { s.bays.get b with
      runOn := (s.bays.get b).runOn + 1, record := some (r.modEntry PhaseEntry.pulse) } } := by
  have hcap : (s.bays.get b).runOn < Config.runOnCap := h
  simp only [State.pulseInRunOn, hcap, if_true, modRecord_eq hr, modBay_eq, perBay_set_set, perBay_get_set]

theorem pulseInRunOn_spilled (h : 50 ≤ (s.bays.get b).runOn) (hsp : (s.bays.get b).spilled = true) :
    s.pulseInRunOn b = s := by
  have hcap : ¬ (s.bays.get b).runOn < Config.runOnCap := Nat.not_lt.2 h
  simp only [State.pulseInRunOn, hcap, if_false, hsp, if_true]

theorem pulseInRunOn_spills (hr : (s.bays.get b).record = some r) (h : 50 ≤ (s.bays.get b).runOn)
    (hsp : (s.bays.get b).spilled = false) : s.pulseInRunOn b =
      State.latch { s with bays := s.bays.set b { s.bays.get b with spilled := true } }
        (.meterSpill b r.visitNumber r.phase) := by
  have hcap : ¬ (s.bays.get b).runOn < Config.runOnCap := Nat.not_lt.2 h
  have hrec : s.record b = some r := hr
  simp only [State.pulseInRunOn, hcap, if_false, hsp, Bool.false_eq_true, hrec]
  rfl

end

/-- Settles O37: by the sub-state, and in it by the dose counter or the pulses of the window. -/
theorem flowPulseCounts : Obligations.FlowPulseCounts := by
  intro b s u hs hu
  subst hu
  have hexec := exec_flowPulse b s
  refine ⟨fun hrun hrunOn => event_eq hexec hs ?_ (.refl s), fun r r' hw hr hr' => ?_⟩
  · unfold State.flowPulse
    split
    next h => exact absurd h hrun
    next h => exact absurd h hrunOn
    all_goals rfl
  subst hr'
  have hpulse : ∀ k, r.sub = k → s.flowPulse b = (match k with
      | .run => s.pulseInRun b
      | .runOn => s.pulseInRunOn b
      | _ => s) := fun k hk => by
    unfold State.flowPulse
    rw [subState_of_washing hw hr, hk]
    cases k <;> rfl
  refine ⟨fun hsub hd => ?below, fun hsub hd => ?last, fun hsub h => ?counted, fun hsub h hsp => ?beyond,
    fun hsub h hsp => ?spills⟩
  case below => exact event_eq hexec hs ((hpulse _ hsub).trans (pulseInRun_below hr hd)) (sameSign_bays ..)
  case last => exact event_eq hexec hs ((hpulse _ hsub).trans (pulseInRun_last hr hd)) (sameSign_bays ..)
  case counted => exact event_eq hexec hs ((hpulse _ hsub).trans (pulseInRunOn_counted hr h)) (sameSign_bays ..)
  case beyond => exact event_eq hexec hs ((hpulse _ hsub).trans (pulseInRunOn_spilled h hsp)) (.refl s)
  case spills =>
    exact event_eq hexec hs ((hpulse _ hsub).trans (pulseInRunOn_spills hr h hsp))
      ((sameSign_bays ..).trans (sameSign_latch ..))

/-! ### The pump drive (R94, R95) -/

theorem pumpCycle_run {r : WorkRecord} {ph : PhaseTerms} (hw : (s.bays.get b).state = .washing)
    (hr : (s.bays.get b).record = some r) (hsub : r.sub = .run) (hph : r.terms.phases[r.phase - 1]? = some ph) :
    s.pumpCycle b = { s with bays := s.bays.set b { s.bays.get b with
      pumpPos := 0, pumpDuty := if s.lines.supplyLow then ph.duty / 2 else ph.duty } } := by
  have hterms : (s.record b).bind (·.phaseTerms) = some ph := by
    simp [State.record, hr, WorkRecord.phaseTerms, WorkRecord.place, hph]
  simp only [State.pumpCycle, subState_of_washing hw hr, hsub, if_true, modBay_eq, State.bayDuty, hterms,
    State.effectiveDuty]

/-- Of the first counts of a row, those below a bound. -/
theorem countP_range_lt (n m : Nat) (h : m ≤ n) : (List.range n).countP (fun k => decide (k < m)) = m := by
  obtain ⟨d, rfl⟩ := Nat.exists_eq_add_of_le h
  rw [List.range_add, List.countP_append, List.countP_eq_length.2 (by simp), List.countP_eq_zero.2 (by simp)]
  simp

/-- In a sub-cycle the output is high for the first counts, a quarter of the duty, rounded by one. -/
theorem pumpHigh_eq (u : BayUnit) {d i k : Nat} (hk : k < 64) :
    ({ u with supply := true, pumpDuty := d, pumpPos := 10 * (64 * i + k) } : BayUnit).pumpHigh =
      decide (k < d / 4 + (if i < d % 4 then 1 else 0)) := by
  have hcount : 10 * (64 * i + k) / 10 = 64 * i + k := by omega
  have hsub : (64 * i + k) / 64 = i := by omega
  have hplace : (64 * i + k) % 64 = k := by omega
  simp only [BayUnit.pumpHigh, hcount, hsub, hplace, Bool.true_and]

theorem countP_pumpHigh (u : BayUnit) {d i : Nat} (hd : d ≤ 255) :
    (List.range 64).countP (fun k =>
      ({ u with supply := true, pumpDuty := d, pumpPos := 10 * (64 * i + k) } : BayUnit).pumpHigh) =
        d / 4 + (if i < d % 4 then 1 else 0) := by
  have hbound : d / 4 + (if i < d % 4 then 1 else 0) ≤ 64 := by
    split <;> omega
  refine (List.countP_congr fun k hk => ?_).trans (countP_range_lt 64 _ hbound)
  rw [pumpHigh_eq u (List.mem_range.1 hk)]

/-- The cycle is its four sub-cycles. -/
theorem countP_range_256 (f : Nat → Bool) : (List.range 256).countP f =
    (List.range 64).countP (fun k => f (64 * 0 + k)) + (List.range 64).countP (fun k => f (64 * 1 + k)) +
    (List.range 64).countP (fun k => f (64 * 2 + k)) + (List.range 64).countP (fun k => f (64 * 3 + k)) := by
  have hsplit : List.range 256 = (List.range 64).map (64 * 0 + ·) ++ (List.range 64).map (64 * 1 + ·) ++
      (List.range 64).map (64 * 2 + ·) ++ (List.range 64).map (64 * 3 + ·) := by
    have h : List.range 256 = List.range (64 + 64 + 64 + 64) := rfl
    rw [h, List.range_add, List.range_add, List.range_add]
    simp
  rw [hsplit]
  simp only [List.countP_append, List.countP_map]
  rfl

/-- Settles O42: the supply line, the cycle's end, and the counts of the four sub-cycles. -/
theorem pumpDrive : Obligations.PumpDrive := by
  refine ⟨fun s => exec_supplyLowClear s, fun s hs => ⟨?assert, fun b => ⟨fun hsub => ?outside,
    fun r ph hw hr hsub hph => ?cycle⟩⟩, fun u d hd => ⟨?whole, fun i _ => countP_pumpHigh u hd⟩⟩
  case assert =>
    have hcount : (s.modLines fun l => { l with supplyLow := true }).baysInRun =
        allBays.countP fun b => decide (s.subState b = .run) := by
      refine List.countP_congr fun b _ => ?_
      have hbay : (s.modLines fun l => { l with supplyLow := true }).subState b = s.subState b := rfl
      simp [hbay]
    exact event_eq (exec_supplyLowAssert s) (by exact hs) (congrArg (fun n => State.latch _ (.loadShed n)) hcount)
      (sameSign_latch ..)
  case outside => exact event_eq (exec_pumpCycleEnd b s) hs (if_neg hsub) (.refl s)
  case cycle => exact event_eq (exec_pumpCycleEnd b s) hs (pumpCycle_run hw hr hsub hph) (sameSign_bays ..)
  case whole =>
    rw [countP_range_256]
    simp only [countP_pumpHigh u hd]
    have h4 : d % 4 = 0 ∨ d % 4 = 1 ∨ d % 4 = 2 ∨ d % 4 = 3 := by omega
    rcases h4 with h | h | h | h <;> simp only [h] <;> simp <;> omega

/-! ### BAY_STATUS and BAY_RELEASE (R79, R93) -/

/-- A number that is no bay is refused, whatever is asked of it. -/
theorem serve_noBay {n : Byte} (h : bayOf n.toNat = none) :
    ∀ r ∈ [Request.bayStatus n, .bayRelease n, .bayAbort n], s.serve p r = (s, refuse .badArgument) := by
  intro r hr
  simp only [List.mem_cons, List.not_mem_nil, or_false] at hr
  rcases hr with rfl | rfl | rfl
  · simp only [State.serve, State.unchanged, State.doBayStatus, h]
  · simp only [State.serve, State.doBayRelease, h]
  · simp only [State.serve, State.doBayAbort, h]

theorem doBayStatus_eq {n : Nat} (h : bayOf n = some b) : s.doBayStatus n =
    accept (be 1 (s.bays.get b).state.ctorIdx ++ be 1 (s.subState b).ctorIdx ++ yesNo (s.lines.presence.get b) ++
      yesNo (s.lines.estop.get b) ++ yesNo (s.bayIsOpen b) ++ s.recordBytes b ++ s.runningBytes b) := by
  rw [State.doBayStatus, h]

theorem doBayRelease_refused {n : Nat} (h : bayOf n = some b)
    (hst : (s.bays.get b).state ≠ .fault ∨ s.lines.estop.get b = true) :
    s.doBayRelease n = (s, refuse .refusedState) := by
  rw [State.doBayRelease, h]
  refine if_neg fun hboth => ?_
  rcases hst with hst | hst
  · exact hst hboth.1
  · exact Bool.false_ne_true (hboth.2.symm.trans hst)

/-- A released bay, on its way to IDLE if it is open. -/
theorem doBayRelease_done {n : Nat} (h : bayOf n = some b) (hst : (s.bays.get b).state = .fault)
    (he : s.lines.estop.get b = false) : s.doBayRelease n =
      ((if s.bayIsOpen b then (s.modBay b fun u => { u with state := .closed }).goIdle b
        else s.modBay b fun u => { u with state := .closed }), accept []) := by
  simp only [State.doBayRelease, h, hst, he, and_self, if_true, State.openNotice, modBay_bays, perBay_get_set]
  rfl

/-- A released bay: where it goes, INTRUSION, and the pass it asks for. -/
theorem release_kept (s : State) (b : Bay) (t : State)
    (ht : t = if s.bayIsOpen b then (s.modBay b fun u => { u with state := .closed }).goIdle b
      else s.modBay b fun u => { u with state := .closed }) :
    t.bays = s.bays.set b { s.bays.get b with state := if s.bayIsOpen b then .idle else .closed } ∧
      s.IntrusionJudged t b ∧ t.disp = (if s.bayIsOpen b then { s.disp with mark := true } else s.disp) ∧
      t = { s with bays := t.bays, disp := t.disp, links := t.links } ∧ s.SameSign t := by
  by_cases ho : s.bayIsOpen b = true
  · rw [if_pos ho] at ht
    have hopen : (s.modBay b fun u => { u with state := .closed }).bayIsOpen b = true := ho
    subst ht
    refine ⟨?_, goIdle_intrusion (s.modBay b fun u => { u with state := .closed }) b, ?_, ?_,
      (sameSign_modBay s b _).trans (sameSign_goIdle ..)⟩
    · rw [goIdle_bays, hopen, ho]
      simp only [modBay_eq, perBay_get_set, perBay_set_set, if_true]
    · rw [goIdle_disp, hopen, ho]
      rfl
    · simp [State.ext_iff]
  · rw [if_neg ho] at ht
    subst ht
    refine ⟨by simp only [ho, modBay_eq, Bool.false_eq_true, if_false], ?_, by simp [ho], rfl, ⟨rfl, rfl, rfl⟩⟩
    unfold State.IntrusionJudged
    rw [if_neg fun h => ho h.1]
    exact .refl s _

/-- Settles O43: a number that is no bay, the status, and the release. -/
theorem bayStatusAndRelease : Obligations.BayStatusAndRelease := by
  intro p n s hs
  refine ⟨fun hn => ?_, fun b hb => ?_⟩
  · have hno := serve_noBay (s := s.abandonFrame p) (p := p) (bayOf_of_out_of_range hn)
    exact ⟨exec_of_unchanged (c := .bayStatus p n) rfl hs (hno _ (by simp)),
      exec_of_unchanged (c := .bayRelease p n) rfl hs (hno _ (by simp)),
      exec_of_unchanged (c := .bayAbort p n) rfl hs (hno _ (by simp))⟩
  have hbay : bayOf n.toNat = some b := hb ▸ bayOf_bayNumber b
  refine ⟨?status, fun hst => ?refused, fun hst he => ?released⟩
  case status =>
    exact exec_of_unchanged (c := .bayStatus p n) rfl hs
      (congrArg (Prod.mk (s.abandonFrame p)) (doBayStatus_eq (s := s.abandonFrame p) hbay))
  case refused =>
    exact exec_of_unchanged (c := .bayRelease p n) rfl hs (doBayRelease_refused (s := s.abandonFrame p) hbay hst)
  case released =>
    obtain ⟨hbays, hintr, hdisp, hframe, hsign⟩ := release_kept (s.abandonFrame p) b _ rfl
    obtain ⟨l, hexec, hans, hkeep⟩ := exec_answered_sameSign (c := .bayRelease p n) rfl hs
      (doBayRelease_done (s := s.abandonFrame p) hbay hst he) ((sameSign_abandonFrame s p).trans hsign)
    refine ⟨_, hexec, hans, hbays, hintr.congr rfl rfl rfl (keepsLatch_abandonFrame s p _) (hkeep _), hdisp, ?_⟩
    rw [hframe]
    rfl

end Sys2Proof.Machine
end

section
/-! Pricing (R131 to R142): the amount and its parts, the earned weights, and the contents of the CHARGE record. -/

namespace Sys2Proof.Machine

variable {r : WorkRecord}

/-! ### The amount (R136 to R138) -/

theorem waterPart_le {fresh reclaimed freshRate reclaimRate : Nat} (hf : freshRate ≤ 2000) (hr : reclaimRate ≤ 2000)
    (h : fresh + reclaimed ≤ 32400) : waterPart fresh reclaimed freshRate reclaimRate ≤ 648000 := by
  have hfresh : fresh * freshRate ≤ fresh * 2000 := Nat.mul_le_mul_left _ hf
  have hreclaimed : reclaimed * reclaimRate ≤ reclaimed * 2000 := Nat.mul_le_mul_left _ hr
  unfold waterPart divUp
  omega

theorem basePart_le {basePrice weight : Nat} (hp : basePrice ≤ 99999) (hw : weight ≤ 1000) :
    basePart basePrice weight ≤ 99999 := by
  have hmul : basePrice * weight ≤ 99999 * 1000 := Nat.mul_le_mul hp hw
  unfold basePart
  omega

/-- With a discount of at most 500 thousandths at most half of the subtotal is taken off. -/
theorem two_mul_discountPart_le (n : Nat) {d : Nat} (h : d ≤ 500) : 2 * discountPart n d ≤ n := by
  have hmul : n * d ≤ n * 500 := Nat.mul_le_mul_left _ h
  unfold discountPart
  omega

theorem amount_le (r : WorkRecord) : r.amount ≤ r.base + r.water := Nat.sub_le ..

/-! ### Earned weights (R133) -/

theorem earned_le (t : PhaseTerms) (e : PhaseEntry) : earned t e ≤ t.weight := by
  unfold earned
  split
  · exact le_refl _
  · exact Nat.min_le_left ..
  · exact Nat.min_le_left ..
  · exact Nat.zero_le _
  · exact Nat.zero_le _

theorem priced_status (e : PhaseEntry) : e.priced.status = e.status := by
  unfold PhaseEntry.priced
  split <;> rfl

/-- An entry that did not run earns nothing, so that pricing's zeros change no earned weight. -/
theorem earned_priced (t : PhaseTerms) (e : PhaseEntry) : earned t e.priced = earned t e := by
  unfold PhaseEntry.priced
  split
  · rfl
  next h =>
    cases hs : e.status <;> simp [hs, PhaseStatus.ran] at h <;> simp [earned, hs]

theorem ran_eq (e : PhaseEntry) :
    e.status.ran = (decide (e.status = .done) || decide (e.status = .short) || decide (e.status = .aborted)) := by
  cases e.status <;> rfl

/-! ### Sums over the phases (R134, R135) -/

section
variable (h : r.entries.length = r.terms.phases.length)
include h

/-- What is made of the entries alone is made of the entry list. -/
theorem pricedPhases_map {α : Type} (f : PhaseEntry → α) :
    r.pricedPhases.map (fun x => f x.2) = r.entries.map fun e => f e.priced := by
  have hsnd : (r.terms.phases.zip r.entries).map Prod.snd = r.entries := List.map_snd_zip (le_of_eq h)
  calc r.pricedPhases.map (fun x => f x.2)
      = ((r.terms.phases.zip r.entries).map Prod.snd).map (fun e => f e.priced) := by
        simp [WorkRecord.pricedPhases, Function.comp_def]
    _ = r.entries.map fun e => f e.priced := by rw [hsnd]

theorem pricedPhases_any (f : PhaseEntry → Bool) :
    r.pricedPhases.any (fun x => f x.2) = r.entries.any fun e => f e.priced := by
  have hmap := congrArg (fun l => l.any id) (pricedPhases_map h f)
  simpa only [List.any_map, Function.comp_def, id] using hmap

/-- A sum over the entries in which those that did not run count for nothing. -/
theorem sum_priced (f : PhaseEntry → Nat) (hf : ∀ e : PhaseEntry, e.status.ran = false → f e.priced = 0) :
    (r.pricedPhases.map fun x => f x.2).sum = ((r.entries.filter fun e => e.status.ran).map f).sum := by
  rw [pricedPhases_map h f]
  generalize r.entries = l
  clear h
  induction l with
  | nil => rfl
  | cons e l ih =>
    rw [List.map_cons, List.sum_cons, ih]
    by_cases he : e.status.ran = true
    · simp [he, PhaseEntry.priced]
    · simp [he, hf e (by simpa using he)]

end

theorem litres_eq (h : r.entries.length = r.terms.phases.length) :
    r.litres = ((r.entries.filter fun e => e.status.ran).map fun e => e.lb + e.lf).sum :=
  sum_priced h PhaseEntry.litres fun e he => by simp [PhaseEntry.priced, he, PhaseEntry.litres]

theorem fresh_eq (h : r.entries.length = r.terms.phases.length) :
    r.fresh = ((r.entries.filter fun e => e.status.ran).map (·.fk)).sum :=
  sum_priced h (·.fk) fun e he => by simp [PhaseEntry.priced, he]

theorem weight_eq (r : WorkRecord) :
    r.weight = ((r.terms.phases.zip r.entries).map fun x => earned x.1 x.2).sum := by
  simp [WorkRecord.weight, WorkRecord.pricedPhases, Function.comp_def, earned_priced]

/-- The weights earned are at most the weights of the phases, and are those where every phase is DONE. -/
theorem sum_earned_le (l : List PhaseTerms) (es : List PhaseEntry) :
    ((l.zip es).map fun x => earned x.1 x.2).sum ≤ (l.map (·.weight)).sum := by
  induction l generalizing es with
  | nil => simp
  | cons t l ih =>
    cases es with
    | nil => simp
    | cons e es =>
      simp only [List.zip_cons_cons, List.map_cons, List.sum_cons]
      exact Nat.add_le_add (earned_le t e) (ih es)

theorem sum_earned_done {l : List PhaseTerms} {es : List PhaseEntry} (hlen : es.length = l.length)
    (h : ∀ e ∈ es, e.status = .done) : ((l.zip es).map fun x => earned x.1 x.2).sum = (l.map (·.weight)).sum := by
  induction l generalizing es with
  | nil => simp
  | cons t l ih =>
    cases es with
    | nil => simp at hlen
    | cons e es =>
      simp only [List.zip_cons_cons, List.map_cons, List.sum_cons]
      rw [ih (by simpa using hlen) fun x hx => h x (List.mem_cons_of_mem _ hx), earned, h e List.mem_cons_self]

/-! ### The CHARGE record (R141, R142) -/

theorem flags_eq (h : r.entries.length = r.terms.phases.length) (recovered : Bool) :
    r.flags recovered =
      { aborted := r.abort = .presence || r.abort = .host || r.abort = .eStop || recovered
        short := r.entries.any fun e => e.status = .short
        skipped := r.entries.any fun e => e.status = .skipped
        degraded := r.entries.any fun e => e.status.ran && e.degraded
        lost := r.entries.any fun e => e.status.ran && e.lost
        recovered := recovered } := by
  have habort : (decide (r.abort ≠ .unmarked) || recovered) =
      (decide (r.abort = .presence) || decide (r.abort = .host) || decide (r.abort = .eStop) || recovered) := by
    cases r.abort <;> cases recovered <;> rfl
  have hmark : ∀ (g : PhaseEntry → Bool), (∀ e : PhaseEntry, g e.priced = (e.status.ran && g e)) →
      r.pricedPhases.any (fun x => g x.2) = r.entries.any fun e => e.status.ran && g e := fun g hg => by
    rw [pricedPhases_any h g]
    exact congrArg _ (funext hg)
  simp only [WorkRecord.flags, habort]
  rw [hmark (·.degraded) fun e => by unfold PhaseEntry.priced; split <;> simp [*],
    hmark (·.lost) fun e => by unfold PhaseEntry.priced; split <;> simp [*],
    pricedPhases_any h fun e => e.status == .short, pricedPhases_any h fun e => e.status == .skipped]
  simp only [priced_status]
  rfl

/-- The phase list of the record, an entry that did not run with zeros and clear flags. -/
theorem chargePhase_eq (t : PhaseTerms) (e : PhaseEntry) :
    ({ kind := t.kind, status := e.priced.status, rPhase := e.priced.rPhase, lb := e.priced.lb, lf := e.priced.lf
       fk := e.priced.fk, degraded := e.priced.degraded, lost := e.priced.lost } : ChargePhase) =
      if e.status.ran then
        { kind := t.kind, status := e.status, rPhase := e.rPhase, lb := e.lb, lf := e.lf
          fk := e.fk, degraded := e.degraded, lost := e.lost }
      else
        { kind := t.kind, status := e.status, rPhase := 0, lb := 0, lf := 0, fk := 0, degraded := false
          lost := false } := by
  unfold PhaseEntry.priced
  split <;> rfl

theorem price_eq (hlen : r.entries.length = r.terms.phases.length) (b : Bay) (recovered : Bool) {v : Visit} {h : Haulier}
    {c : Nat} {x y : DepotTime} (hv : r.visit = some v) (hh : v.haulier = some h) (hc : v.cls = some c)
    (hx : r.startTime = some x) (hy : r.endTime = some y) :
    r.price b recovered =
      { visit := v.number, haulier := h, bay := b, programme := r.terms.programme, cls := c
        generation := r.terms.generation, axles := v.axles, length := v.length, tag := v.tags.head?
        plate := v.plate, callTime := r.callTime, startTime := x, endTime := y, litres := r.litres
        fresh := r.fresh, weight := r.weight, base := r.base, water := r.water, discount := r.discount
        amount := r.amount
        flags :=
          { aborted := r.abort = .presence || r.abort = .host || r.abort = .eStop || recovered
            short := r.entries.any fun e => e.status = .short
            skipped := r.entries.any fun e => e.status = .skipped
            degraded := r.entries.any fun e => e.status.ran && e.degraded
            lost := r.entries.any fun e => e.status.ran && e.lost
            recovered := recovered }
        phases := (r.terms.phases.zip r.entries).map fun z =>
          if z.2.status.ran then
            { kind := z.1.kind, status := z.2.status, rPhase := z.2.rPhase, lb := z.2.lb, lf := z.2.lf
              fk := z.2.fk, degraded := z.2.degraded, lost := z.2.lost }
          else
            { kind := z.1.kind, status := z.2.status, rPhase := 0, lb := 0, lf := 0, fk := 0, degraded := false
              lost := false } } := by
  simp only [WorkRecord.price, hv, hx, hy, flags_eq hlen, WorkRecord.visitNumber, Option.bind_some, hh, hc, Option.getD_some,
    WorkRecord.pricedPhases, List.map_map, Function.comp_def, chargePhase_eq]

/-- Settles O60: the parts and their bounds, the earned weight, and the record's contents. -/
theorem pricedAmount : Obligations.PricedAmount := by
  refine ⟨fun r => ⟨rfl, rfl, rfl, rfl, fun hd => ?half, fun hd => ?none, fun hw hp hf hr hl hlf hd => ?bounds,
    fun hw => ?whole, fun hl hf => ?dry⟩, fun t e => ⟨rfl, earned_le t e⟩, fun r ran hlen hran => ?record,
    fun r hlen hsum => ?weights⟩
  case half =>
    have htwo : 2 * r.discount ≤ r.base + r.water := two_mul_discountPart_le _ hd
    have hamount : r.amount = r.base + r.water - r.discount := rfl
    have hdiscount : r.discount = (r.base + r.water) * r.terms.discount / 1000 := rfl
    omega
  case none =>
    have hzero : r.discount = 0 := by simp [WorkRecord.discount, discountPart, hd]
    exact ⟨hzero, by rw [WorkRecord.amount, hzero, Nat.sub_zero]⟩
  case bounds =>
    have hbase : r.base ≤ 99999 := basePart_le hp hw
    have hwater : r.water ≤ 648000 := waterPart_le hf hr (by omega)
    have hmul : (r.base + r.water) * r.terms.discount ≤ 747999 * 500 := Nat.mul_le_mul (by omega) hd
    have hamount := amount_le r
    omega
  case whole =>
    rw [WorkRecord.base, basePart, hw]
    omega
  case dry => simp [WorkRecord.water, waterPart, divUp, hl, hf]
  case record =>
    have hran' : ran = fun e => e.status.ran := by
      rw [hran]
      exact funext fun e => (ran_eq e).symm
    subst hran'
    exact ⟨litres_eq hlen, fresh_eq hlen, weight_eq r,
      fun b recovered v h c x y hv hh hc hx hy => price_eq hlen b recovered hv hh hc hx hy⟩
  case weights =>
    rw [weight_eq]
    refine ⟨hsum ▸ sum_earned_le _ _, fun h => hsum ▸ sum_earned_done hlen h, fun h => ?_⟩
    have hidle : ∀ e ∈ r.entries, e.status.ran = false := fun e he => by
      rcases h e he with hs | hs <;> rw [hs] <;> rfl
    have hfilter : (r.entries.filter fun e => e.status.ran) = [] :=
      List.filter_eq_nil_iff.2 fun e he => by simp [hidle e he]
    refine ⟨List.sum_eq_zero fun n hn => ?_, by rw [litres_eq hlen, hfilter]; rfl, by rw [fresh_eq hlen, hfilter]; rfl⟩
    obtain ⟨x, hx, rfl⟩ := List.mem_map.1 hn
    rcases h x.2 (List.of_mem_zip hx).2 with hs | hs <;> simp [earned, hs]

end Sys2Proof.Machine
end

section
/-! The ports: the requests of the port itself (R179 to R185), the receiver (R175), and the bytes of a frame. -/

namespace Sys2Proof.Machine

variable {s t u : State} {p : Port} {c : Instr} {r : Request} {a : Reply}

/-! ### Requests that change the port's own link -/

theorem wantsAttention_iff (l : Link) : l.wantsAttention = true ↔
    ∃ k : Fin 29, l.latch[k].isSome = true ∧ l.mask.getLsbD k.val = true := by
  simp [Link.wantsAttention]

/-- A change of a port's link that the receiver has no part in, made by a request at the ready port. -/
theorem exec_of_modLink (hc : c.request = some (p, r)) (hs : s.Ready p) {f : Link → Link}
    (hf : ∀ l, f { l with rx := .hunt } = { f l with rx := .hunt })
    (hserve : (s.abandonFrame p).serve p r = ((s.abandonFrame p).modLink p f, a)) :
    exec c s = .next ((s.modLink p f).replying p r a) := by
  refine exec_of_changed (t := s.modLink p f) hc hs ?_ rfl rfl rfl rfl
  rw [hserve]
  simp only [State.abandonFrame, modLink_modLink, hf]

/-- The entries that fit are the first ones: as many as fill at most the room, and one more would not. -/
theorem fitting_eq_take (room : Nat) (l : List (Fin 29 × LatchEntry)) : ∃ n, n ≤ l.length ∧ fitting room l = l.take n ∧
    ((l.take n).map fun x => x.2.encode.length).sum ≤ room ∧
    (n < l.length → room < ((l.take (n + 1)).map fun x => x.2.encode.length).sum) := by
  induction l generalizing room with
  | nil => exact ⟨0, le_refl _, rfl, Nat.zero_le _, fun h => absurd h (Nat.lt_irrefl _)⟩
  | cons x l ih =>
    by_cases hx : x.2.encode.length ≤ room
    · obtain ⟨n, hn, hfit, hsum, hnext⟩ := ih (room - x.2.encode.length)
      refine ⟨n + 1, Nat.succ_le_succ hn, by simp [fitting, hx, hfit], ?_, fun h => ?_⟩
      · simp only [List.take_succ_cons, List.map_cons, List.sum_cons]
        omega
      · have := hnext (Nat.lt_of_succ_lt_succ h)
        simp only [List.take_succ_cons, List.map_cons, List.sum_cons] at this ⊢
        omega
    · refine ⟨0, Nat.zero_le _, by simp [fitting, hx], Nat.zero_le _, fun _ => ?_⟩
      simpa using hx

/-- The kinds cleared are latched no more; the others stay. -/
theorem clearKinds_latch (l : Link) (ks : List (Fin 29)) (k : Fin 29) :
    (l.clearKinds ks).latch[k] = if k ∈ ks then none else l.latch[k] := by
  have hfold : ∀ (ks : List (Fin 29)) (v : Vector (Option LatchEntry) 29),
      (ks.foldl (fun v i => putAt v i none) v)[k] = if k ∈ ks then none else v[k] := by
    intro ks
    induction ks with
    | nil => intro v; simp
    | cons i ks ih =>
      intro v
      rw [List.foldl_cons, ih, getElem_putAt]
      by_cases hk : k ∈ ks <;> by_cases hi : k = i <;> simp [hk, hi]
  exact hfold ks l.latch

theorem clearKinds_mask (l : Link) (ks : List (Fin 29)) : (l.clearKinds ks).mask = l.mask := rfl

theorem clearKinds_attention (l : Link) (ks : List (Fin 29)) : (l.clearKinds ks).attention = true ↔
    ∃ k : Fin 29, (l.clearKinds ks).latch[k].isSome = true ∧ l.mask.getLsbD k.val = true :=
  wantsAttention_iff _

theorem replying_get (s : State) (p : Port) (r : Request) (a : Reply) : (s.replying p r a).links.get p =
    { s.links.get p with rx := .hunt, reply := some { bytes := replyFrame r.kind a, began := s.timebase } } := by
  simp [State.replying, State.modLink]

theorem modLink_get (s : State) (p : Port) (f : Link → Link) : (s.modLink p f).links.get p = f (s.links.get p) := by
  simp [State.modLink]

theorem modLink_get_other (s : State) (p : Port) (f : Link → Link) :
    (s.modLink p f).links.get (otherPort p) = s.links.get (otherPort p) := by
  cases p <;> rfl

/-- STATUS: the entries returned, cleared on the port (R181). -/
theorem exec_status {n : Nat} (hs : s.Ready p) (hn : (s.links.get p).returned = (s.links.get p).entries.take n)
    (hle : n ≤ (s.links.get p).entries.length) :
    exec (.status p) s = .next ((s.modLink p fun l => l.clearKinds (((s.links.get p).entries.take n).map (·.1))).replying p
      .status (accept (be 1 (if n < (s.links.get p).entries.length then 1 else 0) ++ be 1 n ++
        ((s.links.get p).entries.take n).flatMap fun x => x.2.encode))) := by
  refine exec_of_modLink (c := .status p) rfl hs (fun _ => rfl) ?_
  have hget : (s.abandonFrame p).links.get p = { s.links.get p with rx := .hunt } := modLink_get ..
  have hret : ((s.abandonFrame p).links.get p).returned = (s.links.get p).entries.take n := by
    rw [hget]
    exact hn
  have hent : ((s.abandonFrame p).links.get p).entries = (s.links.get p).entries := by
    rw [hget]
    rfl
  simp only [State.serve, State.doStatus, hret, hent, List.length_take, Nat.min_eq_left hle]

/-- A mask that lies within the 29 kinds changes by the bits of the request (R182). -/
theorem exec_changeMask {m : BitVec 32} {f : BitVec 29 → BitVec 29 → BitVec 29} (hc : c.request = some (p, r))
    (hs : s.Ready p) (hserve : (s.abandonFrame p).serve p r = (s.abandonFrame p).changeMask p m f) :
    (2 ^ 29 ≤ m.toNat → exec c s = .next (s.replying p r (refuse .badArgument))) ∧
    (m.toNat < 2 ^ 29 →
      exec c s = .next (State.replying (s.modLink p fun l => Link.follow { l with mask := f l.mask (m.setWidth 29) }) p r
        (accept (be 4 (f (s.links.get p).mask (m.setWidth 29)).toNat)))) := by
  refine ⟨fun hm => exec_of_unchanged hc hs (hserve.trans (if_pos hm)), fun hm => ?_⟩
  refine exec_of_modLink hc hs (fun _ => rfl) (hserve.trans ?_)
  rw [State.changeMask, if_neg (Nat.not_le.2 hm)]
  simp only [modLink_get]
  rw [State.abandonFrame, modLink_get]
  rfl

theorem yesNoOf_of_gt {n : Nat} (h : 1 < n) : yesNoOf n = none := by
  match n, h with
  | n + 2, _ => rfl

theorem yesNoOf_bool (b : Bool) : yesNoOf (if b then 1 else 0) = some b := by
  cases b <;> rfl

/-- Settles O54: each request of the port itself. -/
theorem linkRequests : Obligations.LinkRequests := by
  intro p s l hs hl
  subst hl
  have hget : (s.abandonFrame p).links.get p = { s.links.get p with rx := .hunt } := modLink_get ..
  refine ⟨?status, fun m hm => ?modeRefused, fun m b hm => ?mode, fun m c r mask hrow => ?mask, ?reset,
    fun ho => ?clearRefused, fun ho => ?clear⟩
  case status =>
    obtain ⟨n, hle, hfit, hsum, hnext⟩ := fitting_eq_take 247 (s.links.get p).entries
    refine ⟨_, n, exec_status hs hfit hle, hle, ?_, hsum, hnext, fun k => ?_, ?_, ?_, ?_, rfl⟩
    · rw [State.Answered, replying_get]
      rfl
    · rw [replying_get, modLink_get]
      exact clearKinds_latch ..
    · rw [replying_get, modLink_get]
      exact clearKinds_attention ..
    · exact (modLink_get_other ..).trans (modLink_get_other ..)
    · rw [replying_get, modLink_get]
      rfl
  case modeRefused =>
    refine exec_of_unchanged (c := .checkMode p m) rfl hs ?_
    simp only [State.serve, State.doCheckMode, yesNoOf_of_gt hm]
  case mode =>
    refine exec_of_modLink (c := .checkMode p m) (f := fun l => { l with checkOn := b }) rfl hs (fun _ => rfl) ?_
    simp only [State.serve, State.doCheckMode, hm, yesNoOf_bool, hget]
  case mask =>
    simp only [List.mem_cons, Prod.mk.injEq, List.not_mem_nil, or_false] at hrow
    rcases hrow with ⟨rfl, rfl, rfl⟩ | ⟨rfl, rfl, rfl⟩
    · obtain ⟨hrefused, hset⟩ := exec_changeMask (c := .attentionSet p m) rfl hs
        (m := m) (f := fun mask bits => mask ||| bits) rfl
      exact ⟨hrefused, fun hm => ⟨_, wantsAttention_iff { s.links.get p with
        mask := (s.links.get p).mask ||| m.setWidth 29 }, hset hm⟩⟩
    · obtain ⟨hrefused, hset⟩ := exec_changeMask (c := .attentionClear p m) rfl hs
        (m := m) (f := fun mask bits => mask &&& ~~~bits) rfl
      exact ⟨hrefused, fun hm => ⟨_, wantsAttention_iff { s.links.get p with
        mask := (s.links.get p).mask &&& ~~~(m.setWidth 29) }, hset hm⟩⟩
  case reset =>
    exact exec_of_modLink (c := .reset p) (f := fun l => { l with resetAfter := some .resetRequest }) rfl hs
      (fun _ => rfl) rfl
  case clearRefused =>
    exact exec_of_unchanged (c := .clearStore p) rfl hs (if_neg (mt owns_iff.1 ho))
  case clear =>
    exact exec_of_modLink (c := .clearStore p) (f := fun l => { l with resetAfter := some .clearStore }) rfl hs
      (fun _ => rfl) (if_pos (owns_iff.2 ho))

/-! ### What a port's line does to its link (R175, R177) -/

/-- A command of a port that changes nothing but the links. -/
theorem portCommand_links {f : State → State} {x : PerPort Link} (hc : exec c s = s.portCommand f)
    (hon : s.part.phase ≠ .off) (hsign : s.part.phase = .running → s.disp.status = s.signStatus)
    (hf : f s = { s with links := x }) : exec c s = .next { s with links := x } := by
  rw [hc, portCommand_powered hon, hf]
  by_cases hrun : s.part.phase = .running
  · exact congrArg _ (settleSign_same rfl rfl (hsign hrun))
  · have hoff : s.running = false := by simp [State.running, hrun]
    simp [State.settleSign, hoff]

/-- A request row, at a powered part: its frame arrives, and the sign is judged. -/
theorem exec_request_arrives (hc : c.request = some (p, r)) (hon : s.part.phase ≠ .off) :
    exec c s = .next (s.settleSign ((s.abandonFrame p).receive p (rightFrame r.kind r.payload))) := by
  rw [exec_request c s p r hc, State.hostRequest, portCommand_powered hon]
  rfl

theorem receive_idle (f : Frame) (hr : (s.links.get p).reply = none) (hh : (s.links.get p).held = none) :
    s.receive p f = s.takeRequest p f := by
  simp only [State.receive, hh, hr]

theorem receive_replying {x : Sending} (f : Frame) (hr : (s.links.get p).reply = some x)
    (hh : (s.links.get p).held = none) : s.receive p f = s.modLink p fun l => { l with held := some f } := by
  simp only [State.receive, hh, hr]

theorem receive_held {g : Frame} (f : Frame) (hh : (s.links.get p).held = some g) : s.receive p f = s := by
  simp only [State.receive, hh]

/-- The link after a byte: the receiver as given, the byte's time noted. -/
def State.rxTo (s : State) (p : Port) (x : Receiver) : State :=
  { s with links := s.links.set p { s.links.get p with rx := x, rxAt := s.timebase } }

/-- A byte that completes no frame moves the receiver. -/
theorem exec_frameByte_none {b : Byte} {x : Receiver} (hon : s.part.phase ≠ .off)
    (hsign : s.part.phase = .running → s.disp.status = s.signStatus)
    (h : ((s.links.get p).rxNow s.timebase).take b = (x, none)) : exec (.frameByte p b) s = .next (s.rxTo p x) := by
  refine portCommand_links (exec_frameByte p b s) hon hsign ?_
  simp only [State.frameByte, h]
  rfl

/-- A byte that completes a frame, at a port that sends no reply and holds no request. -/
theorem exec_frameByte_some {b : Byte} {x : Receiver} {f : Frame} (hon : s.part.phase ≠ .off)
    (h : ((s.links.get p).rxNow s.timebase).take b = (x, some f)) (hr : (s.links.get p).reply = none)
    (hh : (s.links.get p).held = none) :
    exec (.frameByte p b) s = .next (s.settleSign ((s.rxTo p x).takeRequest p f)) := by
  have hget : (s.rxTo p x).links.get p = { s.links.get p with rx := x, rxAt := s.timebase } := by simp [State.rxTo]
  have hidle : (s.rxTo p x).receive p f = (s.rxTo p x).takeRequest p f :=
    receive_idle f (by rw [hget]; exact hr) (by rw [hget]; exact hh)
  rw [exec_frameByte, portCommand_powered hon, ← hidle]
  simp only [State.frameByte, h]
  rfl

/-! ### The tests of a frame (R176) -/

theorem respond_checkFailed {f : Frame} (hon : (s.links.get p).checkOn = true)
    (hf : f.check ≠ frameCheck f.kind f.payload) : s.respond p f = (s, refuse .checkFailed) := by
  simp [State.respond, hon, hf]

/-- The check of a frame is of no account where it is right or the check mode is OFF. -/
theorem respond_of_check {f : Frame} (h : (s.links.get p).checkOn = false ∨ f.check = frameCheck f.kind f.payload) :
    s.respond p f = s.respond p (rightFrame f.kind f.payload) := by
  have hpass : ¬ ((s.links.get p).checkOn && f.check ≠ frameCheck f.kind f.payload) = true := by
    rcases h with h | h <;> simp [h]
  have hright : ¬ ((s.links.get p).checkOn && frameCheck f.kind f.payload ≠ frameCheck f.kind f.payload) = true := by
    simp
  rw [State.respond, State.respond, if_neg hpass]
  exact (if_neg hright).symm

theorem respond_unknownKind {k : Byte} {pl : List Byte} (h : requestLength k = none) :
    s.respond p (rightFrame k pl) = (s, refuse .unknownKind) := by
  simp [State.respond, rightFrame, h]

theorem respond_starting {k : Byte} {pl : List Byte} {n : Nat} (h : requestLength k = some n)
    (hup : s.startingUp = true) (hk : startUpKind k = false) : s.respond p (rightFrame k pl) = (s, refuse .starting) := by
  simp [State.respond, rightFrame, h, hup, hk]

theorem respond_badLength {k : Byte} {pl : List Byte} {n : Nat} (h : requestLength k = some n)
    (hup : s.startingUp = false ∨ startUpKind k = true) (hlen : pl.length ≠ n) :
    s.respond p (rightFrame k pl) = (s, refuse .badArgument) := by
  rcases hup with hup | hup <;> simp [State.respond, rightFrame, h, hup, hlen]

theorem startUpKind_eq_false {k : Byte} (h0 : k ≠ 0x70) (h1 : k ≠ 0x71) : startUpKind k = false := by
  simp only [startUpKind, Bool.or_eq_false_iff, decide_eq_false_iff_not]
  exact ⟨h0, h1⟩

/-- A frame that is refused: the reply begins, and nothing else. -/
theorem takeRequest_refused {f : Frame} {code : ReplyCode} (h : s.respond p f = (s, refuse code)) :
    s.takeRequest p f = s.modLink p fun l =>
      { l with reply := some { bytes := replyFrame f.kind (refuse code), began := s.timebase } } := by
  simp only [State.takeRequest, h]

theorem takeRequest_of_check {f : Frame} (h : (s.links.get p).checkOn = false ∨ f.check = frameCheck f.kind f.payload) :
    s.takeRequest p f = s.takeRequest p (rightFrame f.kind f.payload) := by
  simp only [State.takeRequest, respond_of_check h]
  rfl

/-- The two check bytes spell the frame's check. -/
theorem checkOf_eq_iff (x y : Byte) (k : Byte) (pl : List Byte) :
    BitVec.ofNat 16 (x.toNat * 256 + y.toNat) = frameCheck k pl ↔
      x.toNat * 256 + y.toNat = (crc ([k] ++ be 1 pl.length ++ pl)).toNat := by
  have hx := x.isLt
  have hy := y.isLt
  have hlt : x.toNat * 256 + y.toNat < 2 ^ 16 := by omega
  rw [← BitVec.toNat_inj, BitVec.toNat_ofNat, Nat.mod_eq_of_lt hlt]
  rfl

/-- A frame's last byte, in the tests' order. -/
theorem exec_lastByte {b x : Byte} {k : Byte} {pl : List Byte} {f : Frame} (hon : s.part.phase ≠ .off)
    (hrx : (s.links.get p).rxNow s.timebase = .check k pl (some x)) (hr : (s.links.get p).reply = none)
    (hh : (s.links.get p).held = none)
    (hf : f = { kind := k, payload := pl, check := BitVec.ofNat 16 (x.toNat * 256 + b.toNat) }) :
    exec (.frameByte p b) s = .next (s.settleSign ((s.rxTo p .hunt).takeRequest p f)) :=
  exec_frameByte_some hon (by rw [hrx, hf]; rfl) hr hh

theorem exec_lastByte_refused {b x : Byte} {k : Byte} {pl : List Byte} {code : ReplyCode} (hon : s.part.phase ≠ .off)
    (hsign : s.part.phase = .running → s.disp.status = s.signStatus)
    (hrx : (s.links.get p).rxNow s.timebase = .check k pl (some x)) (hr : (s.links.get p).reply = none)
    (hh : (s.links.get p).held = none)
    (hresp : (s.rxTo p .hunt).respond p { kind := k, payload := pl, check := BitVec.ofNat 16 (x.toNat * 256 + b.toNat) } =
      (s.rxTo p .hunt, refuse code)) :
    exec (.frameByte p b) s = .next { s with links := s.links.set p { s.links.get p with
      rx := .hunt, rxAt := s.timebase
      reply := some { bytes := replyFrame k (refuse code), began := s.timebase } } } := by
  have htake : (s.rxTo p .hunt).takeRequest p
      { kind := k, payload := pl, check := BitVec.ofNat 16 (x.toNat * 256 + b.toNat) } =
      { s with links := s.links.set p { s.links.get p with
        rx := .hunt, rxAt := s.timebase
        reply := some { bytes := replyFrame k (refuse code), began := s.timebase } } } := by
    rw [takeRequest_refused hresp]
    cases p <;> rfl
  rw [exec_lastByte hon hrx hr hh rfl, htake]
  by_cases hrun : s.part.phase = .running
  · exact congrArg _ (settleSign_same rfl rfl (hsign hrun))
  · have hoff : s.running = false := by simp [State.running, hrun]
    simp [State.settleSign, hoff]

/-- A frame's last byte whose kind and payload are a request's does what the request's row does. -/
theorem exec_lastByte_request {b x : Byte} {k : Byte} {pl : List Byte} (hon : s.part.phase ≠ .off)
    (hrx : (s.links.get p).rxNow s.timebase = .check k pl (some x)) (hr : (s.links.get p).reply = none)
    (hh : (s.links.get p).held = none)
    (hcheck : (s.links.get p).checkOn = false ∨
      x.toNat * 256 + b.toNat = (crc ([k] ++ be 1 pl.length ++ pl)).toNat)
    (hc : c.request = some (p, r)) (hk : r.kind = k) (hpl : r.payload = pl) :
    exec (.frameByte p b) s = exec c { s with links := s.links.set p { s.links.get p with rxAt := s.timebase } } := by
  subst hk hpl
  have hget : (s.rxTo p .hunt).links.get p = { s.links.get p with rx := .hunt, rxAt := s.timebase } := by
    simp [State.rxTo]
  have hstate : State.abandonFrame { s with links := s.links.set p { s.links.get p with rxAt := s.timebase } } p =
      s.rxTo p .hunt := by cases p <;> rfl
  have hrow := exec_request_arrives
    (s := { s with links := s.links.set p { s.links.get p with rxAt := s.timebase } }) hc hon
  rw [exec_lastByte hon hrx hr hh rfl, hrow, hstate,
    receive_idle _ (by rw [hget]; exact hr) (by rw [hget]; exact hh),
    takeRequest_of_check (by rw [hget]; exact hcheck.imp id (checkOf_eq_iff ..).2)]
  rfl

/-! ### The end of a reply (R177) -/

theorem replyEnds_idle (h : (s.links.get p).reply = none) : s.replyEnds p = s := by
  simp only [State.replyEnds, h]

theorem replyEnds_free {x : Sending} (hr : (s.links.get p).reply = some x) (hreset : (s.links.get p).resetAfter = none)
    (hh : (s.links.get p).held = none) : s.replyEnds p = s.modLink p fun l => { l with reply := none } := by
  simp only [State.replyEnds, hr, hreset, hh, State.modLink]

theorem replyEnds_held {x : Sending} {f : Frame} (hr : (s.links.get p).reply = some x)
    (hreset : (s.links.get p).resetAfter = none) (hh : (s.links.get p).held = some f) :
    s.replyEnds p = (s.modLink p fun l => { l with reply := none, held := none }).takeRequest p f := by
  simp only [State.replyEnds, hr, hreset, hh]

/-- A request row in start-up, at an idle port, unless it is STATUS or IDENTITY. -/
theorem startUpKind_of_ne (h0 : r ≠ .status) (h1 : r ≠ .identity) : startUpKind r.kind = false := by
  by_contra h
  rcases requestOf_startUpKind (k := r.kind) (l := r.payload) (by simpa using h) (requestDecodeEncode r) with rfl | rfl
  · exact h0 rfl
  · exact h1 rfl

theorem exec_request_starting (hup : s.part.phase = .checking ∨ s.part.phase = .starting)
    (hr : (s.links.get p).reply = none) (hh : (s.links.get p).held = none) (hc : c.request = some (p, r))
    (h0 : r ≠ .status) (h1 : r ≠ .identity) : exec c s = .next (s.replying p r (refuse .starting)) := by
  have hon : s.part.phase ≠ .off := by rcases hup with h | h <;> rw [h] <;> decide
  have hnot : s.part.phase ≠ .running := by rcases hup with h | h <;> rw [h] <;> decide
  have hresp : (s.abandonFrame p).respond p (rightFrame r.kind r.payload) = (s.abandonFrame p, refuse .starting) :=
    respond_starting (Laws.RequestLength.payload_length r)
      (startingUp_of_phase (s := s.abandonFrame p) hon hnot) (startUpKind_of_ne h0 h1)
  have hstate : (s.abandonFrame p).receive p (rightFrame r.kind r.payload) = s.replying p r (refuse .starting) := by
    refine (frameArrives_of_idle (rightFrame r.kind r.payload) hr hh).trans ?_
    rw [takeRequest_refused hresp]
    exact modLink_modLink ..
  have hoff : s.running = false := by simp [State.running, hnot]
  rw [exec_request_arrives hc hon, hstate]
  simp [State.settleSign, hoff]

theorem exec_unknownKind_refused {k : Byte} (hs : s.Ready p) (hk : requestLength k = none) :
    exec (.unknownKind p k) s = .next { s with links := s.links.set p { s.links.get p with
      rx := .hunt
      reply := some { bytes := replyFrame k (refuse .unknownKind), began := s.timebase } } } := by
  obtain ⟨hrun, hreply, hheld, hstatus⟩ := hs
  refine portCommand_links (exec_unknownKind p k s) (by rw [hrun]; decide) (fun _ => hstatus) ?_
  rw [frameArrives_of_idle _ hreply hheld, takeRequest_refused (respond_unknownKind (s := s.abandonFrame p) hk)]
  cases p <;> rfl

/-- A held request taken at the reply's end is taken as if it had just arrived. -/
theorem exec_replySent_held {x : Sending} (hs : s.Running) (hr : (s.links.get p).reply = some x)
    (hreset : (s.links.get p).resetAfter = none) (hrx : (s.links.get p).rx = .hunt) (hc : c.request = some (p, r))
    (hh : (s.links.get p).held = some (rightFrame r.kind r.payload)) :
    exec (.replySent p) s =
      exec c { s with links := s.links.set p { s.links.get p with reply := none, held := none } } := by
  have hon : s.part.phase ≠ .off := by rw [hs.1]; decide
  have hstate : State.abandonFrame { s with links := s.links.set p { s.links.get p with reply := none, held := none } } p =
      s.modLink p fun l => { l with reply := none, held := none } := by
    have hl : ({ s.links.get p with reply := none, held := none } : Link) =
        { s.links.get p with reply := none, held := none, rx := .hunt } := by rw [← hrx]
    cases p <;> simp only [State.abandonFrame, State.modLink, PerPort.get, PerPort.set] at hl ⊢ <;> rw [← hl]
  have hrow := exec_request_arrives
    (s := { s with links := s.links.set p { s.links.get p with reply := none, held := none } }) hc hon
  rw [exec_replySent, portCommand_powered hon, replyEnds_held hr hreset hh, hrow, hstate,
    receive_idle _ (by rw [modLink_get]) (by rw [modLink_get])]
  rfl

/-- Settles O55: the receiver by its state, the tests of a complete frame, and the end of a reply. -/
theorem portLines : Obligations.PortLines := by
  refine ⟨fun p s r rx hon hsign hr hrx => ?_, fun p s k hs hk => exec_unknownKind_refused hs hk,
    fun p s c r hup hr hh hc h0 h1 => exec_request_starting hup hr hh hc h0 h1,
    fun p s x c r hs hr hreset hrx hc hh => exec_replySent_held hs hr hreset hrx hc hh⟩
  have hnow : (s.links.get p).rxNow s.timebase = r := hr.symm
  have hrx' : rx = s.rxTo p := hrx
  subst hrx'
  refine ⟨fun b => ⟨fun h => ?hunt, fun h => ?kind, fun k h => ?length, fun k n got h => ?payload,
      fun k pl h => ?check, fun k pl x right refused h hreply hheld hright hrefused => ?last⟩,
    portCommand_links (exec_frameGap p s) hon hsign rfl, portCommand_links (exec_missingStopBit p s) hon hsign rfl,
    fun x f hheld hreply hreset => ⟨fun c r hc hf => ?held, ?ends⟩, fun f c r hheld hc => ?discarded, fun hreply => ?idle⟩
  case hunt =>
    refine exec_frameByte_none hon hsign ?_
    rw [hnow, h, Receiver.take]
    split <;> rfl
  case kind => exact exec_frameByte_none hon hsign (by rw [hnow, h]; rfl)
  case length =>
    refine exec_frameByte_none hon hsign ?_
    rw [hnow, h, Receiver.take]
    split
    · rfl
    · split <;> rfl
  case payload =>
    refine exec_frameByte_none hon hsign ?_
    rw [hnow, h, Receiver.take]
    split <;> rfl
  case check => exact exec_frameByte_none hon hsign (by rw [hnow, h]; rfl)
  case last =>
    have hlast := hnow.trans h
    have hget : (s.rxTo p .hunt).links.get p = { s.links.get p with rx := .hunt, rxAt := s.timebase } := by
      simp [State.rxTo]
    have hcheckOn : ((s.rxTo p .hunt).links.get p).checkOn = (s.links.get p).checkOn := by rw [hget]
    subst hright hrefused
    refine ⟨fun hmode hwrong => ?_, fun hok => ⟨fun hk => ?_, fun n hk => ⟨fun hrun h0 h1 => ?_, fun hrun hlen => ?_⟩,
      fun c q hc hk hpl => exec_lastByte_request hon hlast hreply hheld hok hc hk hpl⟩⟩
    · exact exec_lastByte_refused hon hsign hlast hreply hheld
        (respond_checkFailed (hcheckOn.trans hmode) (mt (checkOf_eq_iff ..).1 hwrong))
    all_goals
      have hresp := respond_of_check (s := s.rxTo p .hunt) (p := p)
        (f := { kind := k, payload := pl, check := BitVec.ofNat 16 (x.toNat * 256 + b.toNat) })
        (hok.imp hcheckOn.trans (checkOf_eq_iff ..).2)
      refine exec_lastByte_refused hon hsign hlast hreply hheld (hresp.trans ?_)
    · exact respond_unknownKind hk
    · exact respond_starting hk (startingUp_of_phase (s := s.rxTo p .hunt) hon hrun) (startUpKind_eq_false h0 h1)
    · refine respond_badLength hk ?_ hlen
      rcases hrun with hrun | rfl | rfl
      · left
        have hrun' : (s.rxTo p .hunt).part.phase = .running := hrun
        simp [State.startingUp, hrun']
      · exact .inr rfl
      · exact .inr rfl
  case held =>
    refine portCommand_links (exec_request c s p r hc) hon hsign ?_
    subst hf
    have hget : (s.abandonFrame p).links.get p = { s.links.get p with rx := .hunt } := modLink_get ..
    rw [State.frameArrives, receive_replying (x := x) _ (by rw [hget]; exact hreply) (by rw [hget]; exact hheld)]
    cases p <;> rfl
  case ends =>
    exact portCommand_links (exec_replySent p s) hon hsign (replyEnds_free hreply hreset hheld)
  case discarded =>
    refine portCommand_links (exec_request c s p r hc) hon hsign ?_
    have hget : (s.abandonFrame p).links.get p = { s.links.get p with rx := .hunt } := modLink_get ..
    exact receive_held _ (by rw [hget]; exact hheld)
  case idle => exact portCommand_links (x := s.links) (exec_replySent p s) hon hsign (replyEnds_idle hreply)

/-! ### A frame, byte by byte -/

theorem afterBytes_append (p : Port) (l m : List Byte) (s : State) :
    s.afterBytes p (l ++ m) = (s.afterBytes p l).bind (State.afterBytes p m) := by
  induction l generalizing s with
  | nil => rfl
  | cons b l ih =>
    simp only [List.cons_append, State.afterBytes]
    cases exec (.frameByte p b) s with
    | next t => exact ih t
    | fault _ => rfl
    | refused _ => rfl

theorem afterBytes_cons {b : Byte} (l : List Byte) (h : exec (.frameByte p b) s = .next t) :
    s.afterBytes p (b :: l) = t.afterBytes p l := by
  simp only [State.afterBytes, h]

/-- A byte right after the one before it: no gap. -/
theorem exec_nextByte {b : Byte} {x y : Receiver} (hs : s.Ready p) (h : x.take b = (y, none)) :
    exec (.frameByte p b) (s.rxTo p x) = .next (s.rxTo p y) := by
  obtain ⟨hrun, _, _, hstatus⟩ := hs
  have hnow : ((s.rxTo p x).links.get p).rxNow (s.rxTo p x).timebase = x := by
    simp [State.rxTo, Link.rxNow]
  have hon : (s.rxTo p x).part.phase ≠ .off := by
    intro hoff
    exact absurd (hrun.symm.trans hoff) (by decide)
  rw [exec_frameByte_none (x := y) hon (fun _ => hstatus) (by rw [hnow]; exact h)]
  cases p <;> rfl

/-- The payload's bytes are collected up to the length. -/
theorem afterBytes_payload {k n : Byte} (hs : s.Ready p) (got l : List Byte) (hl : l ≠ [])
    (hlen : got.length + l.length = n.toNat) :
    (s.rxTo p (.payload k n got)).afterBytes p l = some (s.rxTo p (.check k (got ++ l) none)) := by
  induction l generalizing got with
  | nil => exact absurd rfl hl
  | cons b l ih =>
    simp only [List.length_cons] at hlen
    by_cases hrest : l = []
    · have htake : (Receiver.payload k n got).take b = (.check k (got ++ [b]) none, none) :=
        if_neg (by simp only [hrest, List.length_nil] at hlen; omega)
      rw [afterBytes_cons _ (exec_nextByte hs htake), hrest]
      rfl
    · have hpos : 0 < l.length := List.length_pos_iff.2 hrest
      have htake : (Receiver.payload k n got).take b = (.payload k n (got ++ [b]), none) := if_pos (by omega)
      rw [afterBytes_cons l (exec_nextByte hs htake), ih (got ++ [b]) hrest (by simp; omega)]
      simp

/-- The head of a request frame: kind, length and payload, after its start byte. -/
theorem afterBytes_head (hs : s.Ready p) (r : Request) :
    (s.rxTo p .kind).afterBytes p ([r.kind] ++ be 1 r.payload.length ++ r.payload) =
      some (s.rxTo p (.check r.kind r.payload none)) := by
  have hlen : r.payload.length ≤ 250 := by
    cases r <;> simp [Request.payload, Laws.RequestLength.be_length]
  have hbyte : (BitVec.ofNat 8 r.payload.length).toNat = r.payload.length := by
    rw [BitVec.toNat_ofNat]
    omega
  have hbe : be 1 r.payload.length = [BitVec.ofNat 8 r.payload.length] := by
    have h := be_one_toNat (BitVec.ofNat 8 r.payload.length)
    rwa [hbyte] at h
  rw [hbe]
  simp only [List.cons_append, List.nil_append]
  rw [afterBytes_cons _ (exec_nextByte hs rfl)]
  by_cases hempty : r.payload = []
  · rw [afterBytes_cons (t := s.rxTo p (.check r.kind [] none)) _ (exec_nextByte hs ?_), hempty]
    · rfl
    · simp [Receiver.take, hempty]
  · have hpos : 0 < r.payload.length := List.length_pos_iff.2 hempty
    have hne : BitVec.ofNat 8 r.payload.length ≠ 0 := fun h => by
      rw [h] at hbyte
      simp at hbyte
      omega
    have htake : (Receiver.length r.kind).take (BitVec.ofNat 8 r.payload.length) =
        (.payload r.kind (BitVec.ofNat 8 r.payload.length) [], none) := by
      rw [Receiver.take, if_neg (by rw [hbyte]; omega), if_neg hne]
    rw [afterBytes_cons _ (exec_nextByte hs htake), afterBytes_payload hs [] _ hempty (by rw [hbyte]; simp)]
    rfl

/-- The two bytes of a number below 65,536 spell it. -/
theorem be_two_eq (x : BitVec 16) : ∃ hi lo : Byte, be 2 x.toNat = [hi, lo] ∧ hi.toNat * 256 + lo.toNat = x.toNat := by
  refine ⟨BitVec.ofNat 8 (x.toNat / 256), BitVec.ofNat 8 x.toNat, rfl, ?_⟩
  have hx := x.isLt
  simp only [BitVec.toNat_ofNat]
  omega

/-- Settles O56: start byte, head, and the check, whose second byte does what the row does. -/
theorem frameBytesAreRequest : Obligations.FrameBytesAreRequest := by
  intro p c r s hc hs hrx
  obtain ⟨hrun, hreply, hheld, hstatus⟩ := id hs
  have hon : s.part.phase ≠ .off := by rw [hrun]; decide
  obtain ⟨hi, lo, hcheck, hsum⟩ := be_two_eq (crc ([r.kind] ++ be 1 r.payload.length ++ r.payload))
  have hstart : exec (.frameByte p 0xA6) s = .next (s.rxTo p .kind) := by
    refine exec_frameByte_none hon (fun _ => hstatus) ?_
    have hnow : (s.links.get p).rxNow s.timebase = .hunt := by
      rw [Link.rxNow, hrx, ite_self]
    rw [hnow]
    rfl
  have hget : ∀ x, (s.rxTo p x).links.get p = { s.links.get p with rx := x, rxAt := s.timebase } := fun x => by
    simp [State.rxTo]
  have hrow := exec_request_arrives
    (s := { s with links := s.links.set p { s.links.get p with rxAt := s.timebase } }) hc hon
  have hlast : exec (.frameByte p lo) (s.rxTo p (.check r.kind r.payload (some hi))) = _ :=
    (exec_lastByte_request (s := s.rxTo p (.check r.kind r.payload (some hi))) hon
      (by rw [hget]; simp [Link.rxNow, State.rxTo]) (by rw [hget]; exact hreply) (by rw [hget]; exact hheld)
      (.inr hsum) hc rfl rfl).trans (exec_request_arrives hc hon)
  have hsame : (State.abandonFrame { (s.rxTo p (.check r.kind r.payload (some hi))) with
      links := (s.rxTo p (.check r.kind r.payload (some hi))).links.set p
        { (s.rxTo p (.check r.kind r.payload (some hi))).links.get p with rxAt := s.timebase } } p) =
      State.abandonFrame { s with links := s.links.set p { s.links.get p with rxAt := s.timebase } } p := by
    cases p <;> rfl
  refine ⟨_, ?_, hrow⟩
  have hbytes : [0xA6, r.kind] ++ be 1 r.payload.length ++ r.payload ++
      be 2 (crc ([r.kind] ++ be 1 r.payload.length ++ r.payload)).toNat =
      0xA6 :: (([r.kind] ++ be 1 r.payload.length ++ r.payload) ++ [hi, lo]) := by
    rw [hcheck]
    simp
  rw [hbytes, afterBytes_cons _ hstart, afterBytes_append, afterBytes_head hs r, Option.bind_some,
    afterBytes_cons _ (exec_nextByte hs rfl), afterBytes_cons _ hlast, State.afterBytes]
  exact congrArg (fun x => some (s.settleSign (State.receive x p (rightFrame r.kind r.payload)))) hsame

end Sys2Proof.Machine
end

section
/-! The requests of exports, holds and taggings to the Charge Journal (R153 to R159, R163). -/

namespace Sys2Proof.Machine

variable {s t u : State} {p : Port} {c : Instr} {r : Request} {a : Reply} {j : Journal}

/-! ### What a journal request leaves of the sign -/

/-- A count over a table in which one element has changed, but not what is counted of it. -/
theorem countP_putAt {α : Type} {n : Nat} (v : Vector α n) (i : Fin n) {x : α} {f : α → Bool} (h : f x = f v[i]) :
    (putAt v i x).toList.countP f = v.toList.countP f := by
  have hmap : (putAt v i x).toList.map f = v.toList.map f := by
    rw [putAt, Vector.toList_set, List.map_set, h]
    refine List.ext_getElem (by simp) fun k hk _ => ?_
    rw [List.getElem_set]
    split
    next hi =>
      subst hi
      simp
    next => rfl
  have hcount : ∀ l : List α, l.countP f = (l.map f).countP id := fun l => by simp [List.countP_map]
  rw [hcount, hmap, ← hcount]

/-- A page changed that keeps its records and is OPEN, or FREE, exactly when it was. -/
theorem putAt_page_counts {i : PageNo} {pg : JournalPage} (hr : pg.records = j.pages[i].records)
    (ho : pg.state = .opened ↔ j.pages[i].state = .opened) (hf : pg.state = .free ↔ j.pages[i].state = .free) :
    Journal.openPage { j with pages := putAt j.pages i pg } = j.openPage ∧
      Journal.available { j with pages := putAt j.pages i pg } = j.available := by
  have hpage : ∀ k : PageNo, (putAt j.pages i pg)[k].records = j.pages[k].records ∧
      ((putAt j.pages i pg)[k].state = .opened ↔ j.pages[k].state = .opened) := fun k => by
    rw [getElem_putAt]
    split
    next hk => exact hk ▸ ⟨hr, ho⟩
    next => exact ⟨rfl, Iff.rfl⟩
  have hopen : Journal.openPage { j with pages := putAt j.pages i pg } = j.openPage := by
    simp only [Journal.openPage, (hpage j.newest).2]
  have hslots : Journal.openSlots { j with pages := putAt j.pages i pg } = j.openSlots := by
    unfold Journal.openSlots
    rw [hopen]
    cases j.openPage with
    | none => rfl
    | some k => simp only [(hpage k).1]
  refine ⟨hopen, ?_⟩
  have hfree : Journal.countState { j with pages := putAt j.pages i pg } .free = j.countState .free :=
    countP_putAt j.pages i (by rw [Bool.eq_iff_iff]; simpa using hf)
  rw [Journal.available, Journal.available, hslots, hfree]

theorem signStatus_journal {x : Journal} (h : x.takesCall = s.journal.takesCall) :
    State.signStatus { s with journal := x } = s.signStatus := by
  simp only [State.signStatus, h]

/-- A journal request that leaves the rule for calls as it was: its journal, and the reply. -/
theorem exec_of_journal {x : Journal} (hc : c.request = some (p, r)) (hs : s.Ready p)
    (hserve : (s.abandonFrame p).serve p r = ({ s.abandonFrame p with journal := x }, a))
    (hx : x.takesCall = s.journal.takesCall) :
    exec c s = .next (State.replying { s with journal := x } p r a) :=
  exec_of_changed (t := { s with journal := x }) hc hs hserve rfl rfl rfl (signStatus_journal hx)

/-! ### The cancelling of a tagging (R158) -/

/-- A request that cancels a tagging, or not: its rule acts without one, and the reply tells of it. -/
theorem cancelling_eq {cancels : Bool} {f : State → State × Reply} (ha : a.releaseReset = false)
    (hf : f { s with journal := { s.journal with
      tagging := if cancels then .untagged else s.journal.tagging } } = (u, a)) :
    s.cancelling cancels f =
      (u, { a with releaseReset := cancels && decide (s.journal.tagging ≠ .untagged) }) := by
  unfold State.cancelling State.tagged
  cases cancels with
  | false =>
    have hflag : ({ a with releaseReset := false } : Reply) = a := by rw [← ha]
    simp only [Bool.false_and, Bool.false_eq_true, if_false, hflag]
    exact hf
  | true =>
    by_cases ht : s.journal.tagging = .untagged
    · have hsame : ({ s with journal := { s.journal with tagging := .untagged } } : State) = s := by rw [← ht]
      have hflag : ({ a with releaseReset := false } : Reply) = a := by rw [← ha]
      simp only [if_true, hsame] at hf
      simp [ht, hf, hflag]
    · have hf' : f s.untag = (u, a) := hf
      simp only [ht, ne_eq, not_false_eq_true, decide_true, Bool.and_self, if_true, hf']
      rfl

/-- The journal as a request that cancels leaves it before its own rule acts. -/
def Journal.cancelled (j : Journal) (cancels : Bool) : Journal :=
  { j with tagging := if cancels then .untagged else j.tagging }

/-- A cancelling request at a ready port, by what its own rule does. -/
theorem exec_cancelling {cancels : Bool} {f : State → State × Reply} {x : Journal} (hc : c.request = some (p, r))
    (hs : s.Ready p) (hserve : (s.abandonFrame p).serve p r = (s.abandonFrame p).cancelling cancels f)
    (ha : a.releaseReset = false)
    (hf : f { s.abandonFrame p with journal := s.journal.cancelled cancels } = ({ s.abandonFrame p with journal := x }, a))
    (hx : x.takesCall = s.journal.takesCall) :
    exec c s = .next (State.replying { s with journal := x } p r
      { a with releaseReset := cancels && decide (s.journal.tagging ≠ .untagged) }) :=
  exec_of_journal hc hs (hserve.trans (cancelling_eq (s := s.abandonFrame p) ha hf)) hx

/-! ### The own rules of exports (R153, R154) -/

theorem pageOf_of_gt {n : Nat} (h : 63 < n) : pageOf n = none := dif_neg (by omega)

theorem pageOf_val (i : PageNo) : pageOf i.val = some i := dif_pos i.isLt

theorem openExport_free {i : PageNo} (h : s.journal.pages[i].state = .free) :
    s.openExport p i.val = (s, refuse .refusedState) := by
  simp only [State.openExport, pageOf_val, h, if_true]

theorem openExport_set {i : PageNo} (h : s.journal.pages[i].state ≠ .free) : s.openExport p i.val =
    (s.putCursor p { place := .slot i 0, lost := false },
      accept (be 1 s.journal.pages[i].state.ctorIdx ++ yesNo s.journal.pages[i].hold ++
        be 1 s.journal.pages[i].records.length ++ presence [s.journal.pages[i].records.head?.isSome] ++
        be 3 ((s.journal.pages[i].records.head?.map fun r => r.seq.toNat).getD 0))) := by
  simp only [State.openExport, pageOf_val, h, if_false]

theorem nextExport_lost (h : (s.journal.cursors.get p).lost = true) :
    s.nextExport p = (s.putCursor p cursorAbsent, refuse .lostPosition) := by
  simp only [State.nextExport, h, if_true]

section
variable (h : (s.journal.cursors.get p).lost = false)
include h

theorem nextExport_absent (hp : (s.journal.cursors.get p).place = .absent) :
    s.nextExport p = (s, refuse .refusedState) := by
  simp only [State.nextExport, h, hp, Bool.false_eq_true, if_false]

theorem nextExport_ringEnd (hp : (s.journal.cursors.get p).place = .ringEnd) :
    s.nextExport p = (s, refuse .endOfRecords) := by
  simp only [State.nextExport, h, hp, Bool.false_eq_true, if_false]

theorem nextExport_slot {i : PageNo} {k : Nat} (hp : (s.journal.cursors.get p).place = .slot i k) :
    s.nextExport p = s.readSlot p i k := by
  simp only [State.nextExport, h, hp, Bool.false_eq_true, if_false]

end

section
variable {i : PageNo} {k : Nat} {x : Record}

theorem readSlot_end (h : s.journal.pages[i].records.length ≤ k) :
    s.readSlot p i k = (s, refuse .endOfRecords) := by
  simp only [State.readSlot, List.getElem?_eq_none h]

theorem readSlot_below (h : s.journal.pages[i].records[k]? = some x) (hk : k < 15) : s.readSlot p i k =
    (s.putCursor p { place := .slot i (k + 1), lost := false },
      accept (be 1 i.val ++ be 1 k ++ be 1 s.journal.pages[i].state.ctorIdx ++ x.encode)) := by
  simp only [State.readSlot, h, hk, if_true]
  rfl

theorem readOut_eq (pg : JournalPage) :
    pg.readOut = { pg with state := if pg.state = .closed then .read else pg.state } := by
  unfold JournalPage.readOut
  split <;> rfl

/-- The read of slot 15 passes on to the next page, and makes a CLOSED one READ. -/
theorem readSlot_last {st : PageState} (h : s.journal.pages[i].records[k]? = some x) (hk : 15 ≤ k)
    (hst : st = if s.journal.pages[i].state = .closed then .read else s.journal.pages[i].state) : s.readSlot p i k =
    ({ s with journal := { s.journal with
        pages := putAt s.journal.pages i { s.journal.pages[i] with state := st }
        cursors := s.journal.cursors.set p
          { place := if i = s.journal.newest then .ringEnd else .slot (i + 1) 0, lost := false } } },
      accept (be 1 i.val ++ be 1 k ++ be 1 st.ctorIdx ++ x.encode)) := by
  simp only [State.readSlot, h, Nat.not_lt.2 hk, if_false, readOut_eq, ← hst]
  rfl

end

/-- The next record at a slot, where the tagging alone has changed. -/
theorem nextExport_slot_of {i : PageNo} {k : Nat} {cancels : Bool} {u : State × Reply}
    (h : (s.journal.cursors.get p).lost = false) (hp : (s.journal.cursors.get p).place = .slot i k)
    (hread : State.readSlot { s.abandonFrame p with journal := s.journal.cancelled cancels } p i k = u) :
    State.nextExport { s.abandonFrame p with journal := s.journal.cancelled cancels } p = u :=
  (nextExport_slot (s := { s.abandonFrame p with journal := s.journal.cancelled cancels }) h hp).trans hread

/-- A page that a read has passed counts as before: it is not OPEN now unless it was, and never FREE. -/
theorem takesCall_readOut {i : PageNo} {st : PageState}
    (hst : st = if j.pages[i].state = .closed then .read else j.pages[i].state) (cs : PerPort Cursor) (tg : Tagging) :
    Journal.takesCall { j with pages := putAt j.pages i { j.pages[i] with state := st }, cursors := cs, tagging := tg } =
      j.takesCall := by
  have hstate : ∀ x : PageState, x ≠ .closed → x ≠ .read → (st = x ↔ j.pages[i].state = x) := fun x hc hr => by
    rw [hst]
    split
    next h => exact ⟨fun h' => absurd h'.symm hr, fun h' => absurd (h'.symm.trans h) hc⟩
    next => exact Iff.rfl
  have havail := (putAt_page_counts (j := j) (i := i) (pg := { j.pages[i] with state := st }) rfl
    (hstate _ (by decide) (by decide)) (hstate _ (by decide) (by decide))).2
  exact congrArg (fun n => decide (j.reserved + 2 ≤ n) && j.pendingClose.isNone) havail

/-- Settles O50: each request by its own rule, on the journal with the tagging cancelled if the owner asks. -/
theorem exportReads : Obligations.ExportReads := by
  intro p s f j hs hf hj
  have hj' : j = s.journal.cancelled (s.owns p) := by
    rw [hj]
    simp [Journal.cancelled, owns_iff]
  have hf' : f = (s.owns p && decide (s.journal.tagging ≠ .untagged)) := by
    rw [hf, Bool.eq_iff_iff]
    simp [owns_iff]
  have hcall : j.takesCall = s.journal.takesCall := by
    rw [hj]
    rfl
  clear hj hf
  subst hf'
  have hpages : j.pages = s.journal.pages := by rw [hj']; rfl
  have hcursors : j.cursors = s.journal.cursors := by rw [hj']; rfl
  subst hj'
  refine ⟨fun n hn => ?noPage, fun n i pg hn hpg => ⟨fun hst => ?free, fun hst => ?opened⟩, ?stop, ?status,
    fun c next hc hnext => ⟨fun hl => ?lost, fun hl => ⟨fun hp => ?absent, fun hp => ?ringEnd,
      fun i k pg hp hpg => ⟨fun hk => ?records, fun r hr => ⟨fun hk => ?below, fun st hk hst => ?past⟩⟩⟩⟩⟩
  case noPage =>
    refine exec_cancelling (c := .exportOpen p n) (f := fun s => s.openExport p n.toNat) rfl hs rfl rfl ?_ hcall
    simp only [State.openExport, pageOf_of_gt hn]
  case free =>
    refine exec_cancelling (c := .exportOpen p n) (f := fun s => s.openExport p n.toNat) rfl hs rfl rfl ?_ hcall
    rw [hn]
    exact openExport_free (by rw [← hst, hpg]; rfl)
  case opened =>
    subst hpg
    refine exec_cancelling (c := .exportOpen p n) (f := fun s => s.openExport p n.toNat) rfl hs rfl rfl ?_ hcall
    rw [hn]
    exact openExport_set hst
  case stop => exact exec_cancelling (c := .exportStop p) (f := fun s => (s.putCursor p cursorAbsent, accept [])) rfl hs rfl rfl rfl hcall
  case status =>
    have hpicture := exec_cancelling (s := s) (c := .journalStatus p) (cancels := s.owns p) (x := s.journal.cancelled (s.owns p))
      (f := fun s => (s, accept (s.journal.picture p))) (a := accept ((s.journal.cancelled (s.owns p)).picture p))
      rfl hs rfl rfl rfl hcall
    exact hpicture
  all_goals subst hc hnext
  case lost => exact exec_cancelling (c := .exportNext p) (f := fun s => s.nextExport p) rfl hs rfl rfl (nextExport_lost hl) hcall
  case absent => exact exec_cancelling (c := .exportNext p) (f := fun s => s.nextExport p) rfl hs rfl rfl (nextExport_absent hl hp) hcall
  case ringEnd => exact exec_cancelling (c := .exportNext p) (f := fun s => s.nextExport p) rfl hs rfl rfl (nextExport_ringEnd hl hp) hcall
  all_goals subst hpg
  case records =>
    exact exec_cancelling (c := .exportNext p) (f := fun s => s.nextExport p) rfl hs rfl rfl (nextExport_slot_of hl hp (readSlot_end hk)) hcall
  case below =>
    exact exec_cancelling (c := .exportNext p) (f := fun s => s.nextExport p) rfl hs rfl rfl (nextExport_slot_of hl hp (readSlot_below hr hk)) hcall
  case past =>
    exact exec_cancelling (c := .exportNext p) (f := fun s => s.nextExport p) rfl hs rfl rfl (nextExport_slot_of hl hp (readSlot_last hr hk hst))
      (takesCall_readOut hst _ _)

/-! ### Holds and tagging (R156, R157, R159) -/

/-- The three tests that come first, each with its code: a running walk, the owner, the page number. -/
def firstTests (s : State) (p : Port) (n : Nat) (code : ReplyCode) : Prop :=
  s.journal.walk.isSome = true ∧ code = .refusedBusy ∨
    s.journal.walk = none ∧ s.water.owner ≠ some p ∧ code = .notOwner ∨
    s.journal.walk = none ∧ s.water.owner = some p ∧ 63 < n ∧ code = .badArgument

theorem putHold_refused {n : Nat} {hold : Bool} {code : ReplyCode} (h : firstTests s p n code) :
    s.putHold p n hold = (s, refuse code) := by
  rcases h with ⟨hw, rfl⟩ | ⟨hw, ho, rfl⟩ | ⟨hw, ho, hn, rfl⟩
  · simp [State.putHold, hw]
  · simp [State.putHold, hw, mt owns_iff.1 ho]
  · simp [State.putHold, hw, owns_iff.2 ho, pageOf_of_gt hn]

theorem tagPage_refused {n : Nat} {code : ReplyCode} {f : PageNo → JournalPage → State × Reply}
    (h : firstTests s p n code) : s.tagPage p n f = (s, refuse code) := by
  rcases h with ⟨hw, rfl⟩ | ⟨hw, ho, rfl⟩ | ⟨hw, ho, hn, rfl⟩
  · simp [State.tagPage, hw]
  · simp [State.tagPage, hw, mt owns_iff.1 ho]
  · simp [State.tagPage, hw, owns_iff.2 ho, pageOf_of_gt hn]

theorem serve_releaseFirst (s : State) (n : Byte) : s.serve p (.releaseFirst n) =
    s.tagPage p n.toNat fun i pg => (s.modJournal fun j => { j with tagging := .firstTagged i }, accept pg.brief) := rfl

theorem serve_releaseLast (s : State) (n : Byte) : s.serve p (.releaseLast n) =
    s.tagPage p n.toNat fun i pg =>
      match s.journal.tagging with
      | .untagged => (s, refuse .sequence)
      | .firstTagged f => (s.modJournal fun j => { j with tagging := .bothTagged f i }, accept pg.brief)
      | .bothTagged f _ => (s.modJournal fun j => { j with tagging := .bothTagged f i }, accept pg.brief) := rfl

section
variable {i : PageNo} (hw : s.journal.walk = none) (ho : s.water.owner = some p)
include hw ho

/-- A hold request on a page: refused on a FREE or RELEASED one if it sets the hold. -/
theorem putHold_page (hold : Bool) : s.putHold p i.val hold =
    if hold = true ∧ (s.journal.pages[i].state = .free ∨ s.journal.pages[i].state = .released) then
      (s, refuse .refusedState)
    else
      ({ s with journal := { s.journal with pages := putAt s.journal.pages i { s.journal.pages[i] with hold := hold } } },
        accept (be 1 s.journal.pages[i].state.ctorIdx ++ yesNo s.journal.pages[i].hold)) := by
  have htest : (hold && !s.journal.pages[i].holdable) = true ↔
      hold = true ∧ (s.journal.pages[i].state = .free ∨ s.journal.pages[i].state = .released) := by
    simp [JournalPage.holdable, or_iff_not_imp_left]
  have hidle : s.journal.walk.isSome = false := by simp [hw]
  simp only [State.putHold, hidle, Bool.false_eq_true, if_false, owns_iff.2 ho, Bool.not_true, pageOf_val,
    htest]
  rfl

theorem tagPage_page {n : Nat} (hn : n = i.val) (f : PageNo → JournalPage → State × Reply) : s.tagPage p n f =
    if s.journal.pages[i].state = .free then (s, refuse .refusedState) else f i s.journal.pages[i] := by
  have hidle : s.journal.walk.isSome = false := by simp [hw]
  subst hn
  simp only [State.tagPage, hidle, Bool.false_eq_true, if_false, owns_iff.2 ho, Bool.not_true, pageOf_val]

/-- RELEASE_GO past its first two tests, by the tagging. -/
theorem doReleaseGo_eq : s.doReleaseGo p = (match s.journal.tagging with
    | .untagged => (s, refuse .sequence)
    | .firstTagged _ => (s, refuse .sequence)
    | .bothTagged f l =>
      if s.journal.age l < s.journal.age f then (s.untag, refuse .range)
      else if s.journal.rangeHoldsOpen f l then (s.untag, refuse .openInRange)
      else
        (s.untag.modJournal fun j => { j with walk := some (newWalk f l) },
          accept (be 1 f.val ++ be 1 l.val ++ be 1 (rangeLength f l)))) := by
  have hidle : s.journal.walk.isSome = false := by simp [hw]
  simp only [State.doReleaseGo, hidle, Bool.false_eq_true, if_false, owns_iff.2 ho, Bool.not_true] <;> rfl

end

theorem mem_rangePages {a b i : PageNo} : i ∈ rangePages a b ↔ (i - a).val ≤ (b - a).val := by
  simp only [rangePages, rangeLength, List.mem_map]
  constructor
  · rintro ⟨k, hk, rfl⟩
    obtain ⟨n, hn, hget⟩ := List.mem_iff_getElem.1 hk
    rw [List.getElem_take, List.getElem_finRange] at hget
    have hlen : n < (b - a).val + 1 := by
      rw [List.length_take] at hn
      omega
    have hsub : a + k - a = k := by simp
    rw [hsub, ← hget]
    simpa using Nat.lt_succ_iff.1 hlen
  · intro h
    refine ⟨i - a, ?_, by simp⟩
    have hlt : (i - a).val < ((List.finRange 64).take ((b - a).val + 1)).length := by
      simp only [List.length_take, List.length_finRange]
      have := (i - a).isLt
      omega
    refine List.mem_iff_getElem.2 ⟨(i - a).val, hlt, ?_⟩
    rw [List.getElem_take, List.getElem_finRange]
    rfl

theorem rangeHoldsOpen_iff {a b : PageNo} : j.rangeHoldsOpen a b = true ↔
    ∃ i : PageNo, (i - a).val ≤ (b - a).val ∧ j.pages[i].state = .opened := by
  simp only [Journal.rangeHoldsOpen, List.any_eq_true, mem_rangePages, beq_iff_eq]

/-- Settles O51: the hold requests, the tag requests, and the go, by their tests in order. -/
theorem holdsAndTagging : Obligations.HoldsAndTagging := by
  intro p s j f hs hj hf
  have hj' : j = s.journal.cancelled true := hj
  have hf' : f = (true && decide (s.journal.tagging ≠ .untagged)) := by rw [hf, Bool.true_and]
  clear hj hf
  subst hj' hf'
  refine ⟨fun n c r hold hrow => ?holds, fun n c r last hrow => ?tags, fun hw => ?busy, fun hw ho => ?notOwner,
    fun hw ho ht => ?sequence, fun a b o hw ho ht hage => ⟨fun hlt => ?range, fun hle => ⟨fun hopen => ?openIn,
      fun hopen => ?go⟩⟩⟩
  case holds =>
    have hserve : c.request = some (p, r) ∧ ∀ x : State, x.serve p r = x.cancelling true fun s => s.putHold p n.toNat hold := by
      simp only [List.mem_cons, Prod.mk.injEq, List.not_mem_nil, or_false] at hrow
      rcases hrow with ⟨rfl, rfl, rfl⟩ | ⟨rfl, rfl, rfl⟩ <;> exact ⟨rfl, fun _ => rfl⟩
    refine ⟨fun code hcode => ?_, fun i pg hw ho hn hpg => ?_⟩
    · exact exec_cancelling hserve.1 hs (hserve.2 _) rfl (putHold_refused hcode) rfl
    · subst hpg
      rw [hn] at hserve
      have hput := putHold_page (s := { s.abandonFrame p with journal := s.journal.cancelled true }) (i := i) hw ho hold
      refine ⟨fun hhold hst => ?_, fun hst => ?_⟩
      · exact exec_cancelling hserve.1 hs (hserve.2 _) rfl (hput.trans (if_pos ⟨hhold, hst⟩)) rfl
      · refine exec_cancelling hserve.1 hs (hserve.2 _) rfl (hput.trans (if_neg fun h => ?_)) ?_
        · rcases hst with hst | hst
          · exact Bool.false_ne_true (hst.symm.trans h.1)
          · exact h.2.elim hst.1 hst.2
        · exact congrArg (fun n => decide (s.journal.reserved + 2 ≤ n) && s.journal.pendingClose.isNone)
            (putAt_page_counts (j := s.journal) (pg := { s.journal.pages[i] with hold := hold }) rfl Iff.rfl Iff.rfl).2
  case tags =>
    simp only [List.mem_cons, Prod.mk.injEq, List.not_mem_nil, or_false] at hrow
    rcases hrow with ⟨rfl, rfl, rfl⟩ | ⟨rfl, rfl, rfl⟩
    all_goals refine ⟨fun code hcode => ?_, fun i pg hw ho hn hpg => ?_⟩
    · exact exec_of_unchanged (c := .releaseFirst p n) rfl hs ((serve_releaseFirst _ n).trans (tagPage_refused hcode))
    · subst hpg
      have hpage := fun f => tagPage_page (s := s.abandonFrame p) (i := i) hw ho hn f
      refine ⟨fun hst => ?_, fun _ h => absurd h (by decide), fun tag hst htag => ?_⟩
      · exact exec_of_unchanged (c := .releaseFirst p n) rfl hs ((serve_releaseFirst _ n).trans ((hpage _).trans (if_pos hst)))
      · obtain ⟨_, rfl⟩ | ⟨h, _⟩ := htag
        · exact exec_of_journal (c := .releaseFirst p n) rfl hs ((serve_releaseFirst _ n).trans ((hpage _).trans (if_neg hst))) rfl
        · exact absurd h (by decide)
    · exact exec_of_unchanged (c := .releaseLast p n) rfl hs ((serve_releaseLast _ n).trans (tagPage_refused hcode))
    · subst hpg
      have hpage := fun f => tagPage_page (s := s.abandonFrame p) (i := i) hw ho hn f
      refine ⟨fun hst => ?_, fun hst _ ht => ?_, fun tag hst htag => ?_⟩
      · exact exec_of_unchanged (c := .releaseLast p n) rfl hs ((serve_releaseLast _ n).trans ((hpage _).trans (if_pos hst)))
      · have ht' : (s.abandonFrame p).journal.tagging = .untagged := ht
        refine exec_of_unchanged (c := .releaseLast p n) rfl hs ((serve_releaseLast _ n).trans (((hpage _).trans (if_neg hst)).trans ?_))
        simp only [ht']
      · obtain ⟨h, _⟩ | ⟨_, x, hx, rfl⟩ := htag
        · exact absurd h (by decide)
        · refine exec_of_journal (c := .releaseLast p n) rfl hs ((serve_releaseLast _ n).trans (((hpage _).trans (if_neg hst)).trans ?_)) rfl
          rcases hx with hx | ⟨y, hx⟩
          · have hx' : (s.abandonFrame p).journal.tagging = .firstTagged x := hx
            simp only [hx']
            rfl
          · have hx' : (s.abandonFrame p).journal.tagging = .bothTagged x y := hx
            simp only [hx']
            rfl
  case busy => exact exec_of_unchanged (c := .releaseGo p) rfl hs (if_pos hw)
  case notOwner =>
    have hw' : ¬ (s.abandonFrame p).journal.walk.isSome = true := by simp [State.abandonFrame, hw]
    refine exec_of_unchanged (c := .releaseGo p) rfl hs ((if_neg hw').trans (if_pos ?_))
    have ho' : (s.abandonFrame p).owns p = false := by simpa [State.owns, State.abandonFrame] using ho
    rw [ho']
    rfl
  all_goals have hgo := doReleaseGo_eq (s := s.abandonFrame p) hw ho
  case sequence =>
    refine exec_of_unchanged (c := .releaseGo p) rfl hs (hgo.trans ?_)
    split
    · rfl
    · rfl
    next h => exact absurd h (ht _ _)
  all_goals
    have ht' : (s.abandonFrame p).journal.tagging = .bothTagged a b := ht
    simp only [ht'] at hgo
    subst hage
  case range => exact exec_of_journal (c := .releaseGo p) rfl hs (hgo.trans (if_pos hlt)) rfl
  case openIn =>
    exact exec_of_journal (c := .releaseGo p) rfl hs
      (hgo.trans ((if_neg (Nat.not_lt.2 hle)).trans (if_pos (rangeHoldsOpen_iff.2 hopen)))) rfl
  case go =>
    have hclosed : ¬ (s.abandonFrame p).journal.rangeHoldsOpen a b = true := fun h => by
      obtain ⟨i, hi, hst⟩ := rangeHoldsOpen_iff.1 h
      exact hopen i hi hst
    exact exec_of_journal (c := .releaseGo p) rfl hs
      (hgo.trans ((if_neg (Nat.not_lt.2 hle)).trans (if_neg hclosed))) rfl

end Sys2Proof.Machine
end

section
/-! The Vehicle Register (R31 to R33): the entry put, the visits that waited for it, and the entry dropped. -/

namespace Sys2Proof.Machine

variable {s t u : State} {p : Port} {g : Visit → Visit}

/-! ### One change made of several visits in turn -/

/-- One change made of the visits of given numbers, one after the other. -/
def State.changeAll (s : State) (g : Visit → Visit) (ns : List Nat) : State :=
  ns.foldl (fun s n => s.changeVisit n g) s

theorem changeAll_cons (s : State) (g : Visit → Visit) (n : Nat) (ns : List Nat) :
    s.changeAll g (n :: ns) = (s.changeVisit n g).changeAll g ns := rfl

theorem visitOf_changeAll_of_not_mem {ns : List Nat} {n : Nat} (h : n ∉ ns) :
    (s.changeAll g ns).visitOf n = s.visitOf n := by
  induction ns generalizing s with
  | nil => rfl
  | cons k ns ih =>
    rw [changeAll_cons, ih fun hn => h (List.mem_cons_of_mem _ hn)]
    exact visitOf_changeVisit_ne s g fun hn => h (hn ▸ List.mem_cons_self)

theorem mem_changeAll {ns : List Nat} {v : Visit} (hv : v ∈ s.queue) (h : v.number ∉ ns) :
    v ∈ (s.changeAll g ns).queue := by
  induction ns generalizing s with
  | nil => exact hv
  | cons k ns ih =>
    rw [changeAll_cons]
    exact ih (mem_changeVisit_ne s g hv fun hn => h (hn ▸ List.mem_cons_self))
      fun hn => h (List.mem_cons_of_mem _ hn)

section
variable (hg : ∀ v, (g v).number = v.number) (hgg : ∀ v, g (g v) = g v)
include hg

theorem changed_number {n : Nat} {v : Visit} (h : s.visitOf n = some v) : { g v with number := n } = g v := by
  rw [← visitOf_number h, ← hg v]

include hgg

theorem visitOf_changeAll_changed {ns : List Nat} {n : Nat} {v : Visit} (h : s.visitOf n = some (g v)) :
    (s.changeAll g ns).visitOf n = some (g v) := by
  induction ns generalizing s with
  | nil => exact h
  | cons k ns ih =>
    rw [changeAll_cons]
    by_cases hk : n = k
    · subst hk
      exact ih (visitOf_changeVisit h ((changed_number hg h).trans (hgg v)))
    · exact ih ((visitOf_changeVisit_ne s g hk).trans h)

/-- A visit changed, once or several times. -/
theorem visitOf_changeAll {ns : List Nat} {n : Nat} {v : Visit} (h : s.visitOf n = some v) (hn : n ∈ ns) :
    (s.changeAll g ns).visitOf n = some (g v) := by
  induction ns generalizing s with
  | nil => exact absurd hn List.not_mem_nil
  | cons k ns ih =>
    rw [changeAll_cons]
    by_cases hk : n = k
    · subst hk
      exact visitOf_changeAll_changed hg hgg (visitOf_changeVisit h (changed_number hg h))
    · exact ih ((visitOf_changeVisit_ne s g hk).trans h) ((List.mem_cons.1 hn).resolve_left hk)

/-- A visit changed already changes no more, so that nothing more is latched. -/
theorem keepsLatch_changeAll_changed {ns : List Nat} {n : Nat} {v : Visit} (h : s.visitOf n = some (g v))
    (hns : ∀ k ∈ ns, k = n) : s.KeepsLatch (s.changeAll g ns) .visitHeld := by
  induction ns generalizing s with
  | nil => exact .refl s _
  | cons k ns ih =>
    obtain rfl := hns k List.mem_cons_self
    have hw := (changed_number hg h).trans (hgg v)
    have hsame : s.KeepsLatch (s.changeVisit k g) .visitHeld := by
      have hshown := heldShown_changeVisit h hw
      unfold State.HeldShown at hshown
      rw [if_neg fun hheld => by
        rcases hheld with hheld | hheld
        · exact hheld.1 rfl
        · exact hheld.2 hheld.1] at hshown
      exact hshown
    rw [changeAll_cons]
    exact hsame.trans (ih (visitOf_changeVisit h hw) fun i hi => hns i (List.mem_cons_of_mem _ hi))

theorem heldShown_changeAll {ns : List Nat} {n : Nat} {v : Visit} (h : s.visitOf n = some v) (hn : n ∈ ns)
    (hns : ∀ k ∈ ns, k = n) : s.HeldShown (s.changeAll g ns) v (g v) := by
  cases ns with
  | nil => exact absurd hn List.not_mem_nil
  | cons k ns =>
    obtain rfl := hns k List.mem_cons_self
    have hw := changed_number hg h
    rw [changeAll_cons]
    exact (heldShown_changeVisit h hw).congr (.refl s _)
      (keepsLatch_changeAll_changed hg hgg (visitOf_changeVisit h hw) fun i hi => hns i (List.mem_cons_of_mem _ hi))

end

/-! ### VEHICLE_PUT (R32) -/

/-- What an entry makes of a visit that waited for it. -/
def entryTaken (e : VehicleEntry) (v : Visit) : Visit :=
  (v.takeMatch e).rehold

theorem entryTaken_eq (e : VehicleEntry) (v : Visit) : entryTaken e v =
    { v with ident := .matched, haulier := some e.haulier, programme := e.programme, blocked := e.blocked
             identTimer := none, hold := (entryTaken e v).hold } := by
  rw [entryTaken, rehold_eq]
  rfl

theorem entryTaken_number (e : VehicleEntry) (v : Visit) : (entryTaken e v).number = v.number := by
  rw [entryTaken_eq]

theorem entryTaken_hold (e : VehicleEntry) (v : Visit) : (entryTaken e v).hold = (entryTaken e v).heldAs v.hold :=
  rehold_hold (v.takeMatch e)

theorem entryTaken_idem (e : VehicleEntry) (v : Visit) : entryTaken e (entryTaken e v) = entryTaken e v := by
  have hmatch : (entryTaken e v).takeMatch e = entryTaken e v := by
    rw [entryTaken_eq]
    rfl
  have htwice : entryTaken e (entryTaken e v) = (entryTaken e v).rehold := congrArg Visit.rehold hmatch
  rw [htwice]
  exact rehold_rehold _

theorem awaitsKey_iff (v : Visit) (tag : TagId) : v.awaitsKey tag = true ↔
    v.tags = [tag] ∧ (v.ident = .pending ∧ v.closed = true ∨ v.ident = .unknown) := by
  simp [Visit.awaitsKey, and_comm]

/-- The numbers of the visits that wait for an entry. -/
def State.waitingFor (s : State) (tag : TagId) : List Nat :=
  (s.queue.filter fun v => v.awaitsKey tag).map (·.number)

theorem matchWaiting_eq (s : State) (e : VehicleEntry) :
    s.matchWaiting e = s.changeAll (entryTaken e) (s.waitingFor e.tag) := by
  rw [State.changeAll, State.waitingFor, List.foldl_map, List.foldl_filter]
  rfl

theorem changeAll_sign (s : State) (g : Visit → Visit) (ns : List Nat) : s.SameSign (s.changeAll g ns) := by
  induction ns generalizing s with
  | nil => exact .refl s
  | cons n ns ih =>
    rw [changeAll_cons]
    exact (sameSign_changeVisit s n g).trans (ih _)

theorem changeAll_frame (s : State) (g : Visit → Visit) (ns : List Nat) : s.changeAll g ns =
    { s with queue := (s.changeAll g ns).queue, disp := (s.changeAll g ns).disp, links := (s.changeAll g ns).links } := by
  induction ns generalizing s with
  | nil => rfl
  | cons n ns ih =>
    rw [changeAll_cons, ih]
    simp

theorem any_tag_iff (l : List VehicleEntry) (tag : TagId) :
    (l.any fun x => x.tag == tag) = true ↔ ∃ x ∈ l, x.tag = tag := by
  simp

theorem putEntry_of_present {l : List VehicleEntry} {e : VehicleEntry} (h : ∃ x ∈ l, x.tag = e.tag) :
    putEntry l e = l.map fun x => if x.tag = e.tag then e else x :=
  if_pos ((any_tag_iff l e.tag).2 h)

theorem putEntry_of_absent {l : List VehicleEntry} {e : VehicleEntry} (h : ∀ x ∈ l, x.tag ≠ e.tag) :
    putEntry l e = l ++ [e] :=
  if_neg fun hany => by
    obtain ⟨x, hx, htag⟩ := (any_tag_iff l e.tag).1 hany
    exact h x hx htag

/-- A programme that may be left out: 0 is none. -/
theorem optionalOf_programmeOf {n : Nat} (h : n ≤ 12) :
    optionalOf programmeOf n = some (if n = 0 then none else some n) := by
  unfold optionalOf
  by_cases h0 : n = 0
  · simp [h0]
  · simp [h0, programmeOf_of_range (Nat.one_le_iff_ne_zero.2 h0) h]

theorem optionalOf_programmeOf_eq_none {n : Nat} (h : 12 < n) : optionalOf programmeOf n = none := by
  simp [optionalOf, programmeOf_eq_none (.inr h), show n ≠ 0 by omega]

theorem doVehiclePut_badArgument {tag : TagId} {h k b : Nat} {f : PlateField}
    (hr : tag = 0 ∨ 64 ≤ h ∨ 12 < k ∨ plateOf f = none ∨ 1 < b) :
    s.doVehiclePut tag h k f b = (s, refuse .badArgument) := by
  unfold State.doVehiclePut
  split
  next hh hk hf hb =>
    rcases hr with hr | hr | hr | hr | hr
    · exact if_pos hr
    · simp [haulierOf_of_ge hr] at hh
    · simp [optionalOf_programmeOf_eq_none hr] at hk
    · simp [hr] at hf
    · simp [yesNoOf_of_gt hr] at hb
  next => rfl

/-- VEHICLE_PUT of an entry whose fields are in range, by the room in the register. -/
theorem doVehiclePut_eq {e : VehicleEntry} {h k b : Nat} {f : PlateField} (htag : e.tag ≠ 0) (hh : h = e.haulier.val)
    (hk : e.programme = if k = 0 then none else some k) (hk12 : k ≤ 12) (hf : plateOf f = some e.plate)
    (hb : b = if e.blocked then 1 else 0) : s.doVehiclePut e.tag h k f b =
      if (¬ ∃ x ∈ s.register, x.tag = e.tag) ∧ 512 ≤ s.register.length then (s, refuse .tableFull)
      else (State.matchWaiting { s with register := putEntry s.register e } e,
        accept (be 1 (if s.register.any fun x => x.tag == e.tag then 0 else 1) ++
          be 2 (putEntry s.register e).length)) := by
  have hfull : (!(s.register.any fun x => x.tag == e.tag) && decide (Config.registerCapacity ≤ s.register.length)) = true ↔
      (¬ ∃ x ∈ s.register, x.tag = e.tag) ∧ 512 ≤ s.register.length := by
    rw [← any_tag_iff, Bool.and_eq_true, Bool.not_eq_true', Bool.not_eq_true]
    exact and_congr_right fun _ => decide_eq_true_iff
  simp only [State.doVehiclePut, hh, haulierOf_of_lt e.haulier.isLt, optionalOf_programmeOf hk12, ← hk, hf, hb,
    yesNoOf_bool, htag, if_false, hfull]

/-- VEHICLE_DROP, by the key's presence. -/
theorem doVehicleDrop_eq (s : State) (tag : TagId) : s.doVehicleDrop tag =
    if ∃ x ∈ s.register, x.tag = tag then
      ({ s with register := s.register.filter fun x => x.tag ≠ tag },
        accept (be 2 (s.register.filter fun x => x.tag ≠ tag).length))
    else (s, refuse .badArgument) := by
  simp only [State.doVehicleDrop, any_tag_iff]

/-- An accepted VEHICLE_PUT: the register, and the visits that waited. -/
theorem vehiclePut_accepted {e : VehicleEntry} {h k b : Byte} {f : PlateField} {a : Reply} (hs : s.Ready p)
    (hserve : (s.abandonFrame p).doVehiclePut e.tag h.toNat k.toNat f b.toNat =
      (State.matchWaiting { s.abandonFrame p with register := putEntry s.register e } e, a)) :
    ∃ t, exec (.vehiclePut p e.tag h k f b) s = .next t ∧ s.Answered t p (.vehiclePut e.tag h k f b) a ∧
      t.register = putEntry s.register e ∧
      (∀ v, s.visitOf v.number = some v → v.awaitsKey e.tag = true →
        t.visitOf v.number = some (entryTaken e v) ∧
        ((∀ y ∈ s.queue, y.awaitsKey e.tag = true → y.number = v.number) → s.HeldShown t v (entryTaken e v))) ∧
      (∀ v ∈ s.queue, (∀ y ∈ s.queue, y.awaitsKey e.tag = true → y.number ≠ v.number) → v ∈ t.queue) ∧
      ((∀ y ∈ s.queue, ¬ y.awaitsKey e.tag = true) → t.queue = s.queue ∧ s.KeepsLatch t .visitHeld) ∧
      t = { s with register := t.register, queue := t.queue, disp := t.disp, links := t.links } := by
  obtain ⟨d, l, hexec, _, hans, hkeep⟩ := exec_answered (c := .vehiclePut p e.tag h k f b) rfl hs hserve
  refine ⟨_, hexec, hans, by simp, ?_⟩
  rw [matchWaiting_eq] at hkeep ⊢
  have hmem : ∀ n, n ∈ s.waitingFor e.tag ↔ ∃ y ∈ s.queue, y.awaitsKey e.tag = true ∧ y.number = n := fun n => by
    simp [State.waitingFor, and_assoc]
  refine ⟨fun v hv hw => ⟨visitOf_changeAll (entryTaken_number e) (entryTaken_idem e) hv
      ((hmem _).2 ⟨v, visitOf_mem hv, hw, rfl⟩), fun honly => ?shown⟩, fun v hv hother => mem_changeAll hv fun hn => ?stays,
    fun hnone => ?quiet, ?frame⟩
  case shown =>
    have hshown := heldShown_changeAll (s := { s.abandonFrame p with register := putEntry s.register e })
      (entryTaken_number e) (entryTaken_idem e) hv ((hmem _).2 ⟨v, visitOf_mem hv, hw, rfl⟩) fun n hn => by
        obtain ⟨y, hy, hyw, rfl⟩ := (hmem n).1 hn
        exact honly y hy hyw
    exact hshown.congr (keepsLatch_abandonFrame s p _) (hkeep _)
  case stays =>
    obtain ⟨y, hy, hyw, hyn⟩ := (hmem _).1 hn
    exact hother y hy hyw hyn
  case quiet =>
    have hempty : s.waitingFor e.tag = [] := by
      rw [List.eq_nil_iff_forall_not_mem]
      intro n hn
      obtain ⟨y, hy, hyw, _⟩ := (hmem n).1 hn
      exact hnone y hy hyw
    have hsame : State.changeAll { s.abandonFrame p with register := putEntry s.register e } (entryTaken e)
        (State.waitingFor { s.abandonFrame p with register := putEntry s.register e } e.tag) =
        { s.abandonFrame p with register := putEntry s.register e } :=
      congrArg (State.changeAll _ (entryTaken e)) hempty
    rw [hsame] at hkeep ⊢
    exact ⟨rfl, (keepsLatch_abandonFrame s p _).trans (hkeep _)⟩
  case frame =>
    rw [changeAll_frame { s.abandonFrame p with register := putEntry s.register e }]
    simp [State.abandonFrame]

/-- Settles O24: the refusals, the entry put with the visits that waited for it, and the entry dropped. -/
theorem vehicleRegisterChanges : Obligations.VehicleRegisterChanges := by
  refine ⟨fun p tag h k b f s hs hr => ?refused, fun p e h k b f s r waits hwaits hs htag hh hk hk12 hf hb hr => ?put,
    fun p tag s hs => ⟨fun habsent => ?absent, fun hpresent => ?dropped⟩⟩
  case refused =>
    exact exec_of_unchanged (c := .vehiclePut p tag h k f b) rfl hs (doVehiclePut_badArgument hr)
  case put =>
    have hwait : ∀ v, waits v ↔ v.awaitsKey e.tag = true := fun v => by
      rw [hwaits, awaitsKey_iff]
    have hput := doVehiclePut_eq (s := s.abandonFrame p) htag hh hk hk12 hf hb
    clear hwaits
    subst hr
    refine ⟨fun habsent hfull => ?_, fun hroom => ?_⟩
    · refine exec_of_unchanged (c := .vehiclePut p e.tag h k f b) rfl hs (hput.trans (if_pos ⟨?_, hfull⟩))
      exact fun ⟨x, hx, htag⟩ => habsent x hx htag
    · obtain ⟨t, hexec, hans, hreg, hmatch, hstay, hquiet, hframe⟩ := vehiclePut_accepted hs (hput.trans (if_neg fun h =>
        hroom.elim h.1 fun hlt => absurd h.2 (Nat.not_le.2 hlt)))
      simp only [hwait]
      refine ⟨t, hexec, fun hpresent => ?_, fun habsent => ?_, fun v hv hw => ?_, hstay, hquiet, hframe⟩
      · have hany := (any_tag_iff s.register e.tag).2 hpresent
        rw [State.Answered] at hans ⊢
        rw [hans, hreg, putEntry_of_present hpresent]
        refine ⟨rfl, ?_⟩
        have hany' : ((s.abandonFrame p).register.any fun x => x.tag == e.tag) = true := hany
        have hlist : putEntry (s.abandonFrame p).register e = s.register.map fun x => if x.tag = e.tag then e else x :=
          putEntry_of_present hpresent
        rw [hany', hlist, List.length_map]
        rfl
      · have hany' : ¬ ((s.abandonFrame p).register.any fun x => x.tag == e.tag) = true := fun h => by
          obtain ⟨x, hx, htag⟩ := (any_tag_iff s.register e.tag).1 h
          exact habsent x hx htag
        have hlist : putEntry (s.abandonFrame p).register e = s.register ++ [e] := putEntry_of_absent habsent
        rw [State.Answered] at hans ⊢
        rw [hans, hreg, putEntry_of_absent habsent, if_neg hany', hlist, List.length_append]
        exact ⟨rfl, rfl⟩
      · obtain ⟨hvisit, hshown⟩ := hmatch v hv hw
        exact ⟨_, hvisit, entryTaken_eq e v, entryTaken_hold e v, hshown⟩
  case absent =>
    refine exec_of_unchanged (c := .vehicleDrop p tag) rfl hs ((doVehicleDrop_eq ..).trans (if_neg ?_))
    exact fun ⟨x, hx, htag⟩ => habsent x hx htag
  case dropped =>
    exact exec_of_changed (c := .vehicleDrop p tag) rfl hs ((doVehicleDrop_eq ..).trans (if_pos hpresent)) rfl rfl rfl rfl

end Sys2Proof.Machine
end

section
/-! The journal's counts: what an append writes and leaves available (R145, R146, R148), JOURNAL-LOW judged (R147), and
the return of a reserved slot with the pending DAY-CLOSE it may make room for (R152). -/

namespace Sys2Proof.Machine

variable {s t u : State} {j : Journal} {pg : PageNo} {k : EventKind}

/-! ### Appends (R145, R148) -/

theorem putAt_putAt_self {α : Type} {n : Nat} (v : Vector α n) (i : Fin n) (x y : α) :
    putAt (putAt v i x) i y = putAt v i y := by
  refine Vector.ext fun k hk => ?_
  have hget := fun (w : Vector α n) (z : α) => getElem_putAt w i ⟨k, hk⟩ z
  refine (hget (putAt v i x) y).trans (Eq.trans ?_ (hget v y).symm)
  by_cases h : (⟨k, hk⟩ : Fin n) = i
  · rw [if_pos h, if_pos h]
  · rw [if_neg h, if_neg h]
    exact getElem_putAt_ne v x h

theorem page_succ_ne (pg : PageNo) : pg + 1 ≠ pg := by
  intro h
  have hval := congrArg Fin.val h
  simp [Fin.val_add] at hval
  omega

/-- An append onto the OPEN page: the record on it, and, by its 16th, the page CLOSED and the next one OPEN. -/
theorem append_eq (ho : j.openPage = some pg) (mk : BitVec 24 → Record) : j.append mk =
    if j.pages[pg].records.length = 15 then
      if j.pages[pg + 1].state = .free then
        { j with
          nextSeq := j.nextSeq + 1, newest := pg + 1, cursors := j.cursors.map (·.toOpened (pg + 1))
          pages := putAt (putAt j.pages pg
            { j.pages[pg] with records := j.pages[pg].records ++ [mk j.nextSeq], state := .closed })
            (pg + 1) { j.pages[pg + 1] with state := .opened } }
      else
        { j with
          nextSeq := j.nextSeq + 1
          pages := putAt j.pages pg
            { j.pages[pg] with records := j.pages[pg].records ++ [mk j.nextSeq], state := .closed } }
    else
      { j with
        nextSeq := j.nextSeq + 1
        pages := putAt j.pages pg { j.pages[pg] with records := j.pages[pg].records ++ [mk j.nextSeq] } } := by
  have hne := page_succ_ne pg
  simp only [Journal.append, ho, Journal.closeFull, Journal.becomeOpen, getElem_putAt_self, getElem_putAt_ne _ _ hne,
    putAt_putAt_self, List.length_append, List.length_singleton, Config.pageSlots, Nat.reduceEqDiff]

/-- A journal with the records of another, and its place for the next. -/
structure Journal.SameRecords (j k : Journal) : Prop where
  nextSeq : j.nextSeq = k.nextSeq
  pages : j.pages = k.pages
  newest : j.newest = k.newest
  cursors : j.cursors = k.cursors
  tagging : j.tagging = k.tagging
  walk : j.walk = k.walk

theorem Journal.SameRecords.refl (j : Journal) : j.SameRecords j := ⟨rfl, rfl, rfl, rfl, rfl, rfl⟩

theorem State.Written.congr {x : Record} {s' t' : State} (h : s.Written t pg x)
    (hs : s'.journal.SameRecords s.journal) (ht : t'.journal.SameRecords t.journal) : s'.Written t' pg x := by
  simpa only [State.Written, hs.nextSeq, hs.pages, hs.newest, hs.cursors, hs.tagging, hs.walk, ht.nextSeq, ht.pages,
    ht.newest, ht.cursors, ht.tagging, ht.walk] using h

theorem toOpened_eq (c : Cursor) (pg : PageNo) :
    c.toOpened pg = if c.place = .ringEnd then { c with place := .slot pg 0 } else c := rfl

theorem written_append (ho : s.journal.openPage = some pg) (mk : BitVec 24 → Record)
    (ht : t.journal.SameRecords (s.journal.append mk)) : s.Written t pg (mk s.journal.nextSeq) := by
  have hnewest : pg = s.journal.newest := (Journal.openPage_eq_some.1 ho).1
  have hne := page_succ_ne pg
  refine State.Written.congr (t := s.modJournal fun j => j.append mk) ?_ (.refl _) ht
  simp only [State.Written, modJournal_journal, append_eq ho]
  by_cases h15 : s.journal.pages[pg].records.length = 15
  · by_cases hfree : s.journal.pages[pg + 1].state = .free
    · simp only [h15, hfree, and_self, if_true, true_and, perPort_get_map, toOpened_eq, getElem_putAt_self,
        getElem_putAt_ne _ _ hne.symm, implies_true, and_true]
      intro i hi
      rw [getElem_putAt]
      by_cases hnext : i = pg + 1
      · rw [if_pos hnext, if_pos hnext, hnext]
      · rw [if_neg hnext, if_neg hnext, getElem_putAt_ne _ _ hi]
    · simp only [h15, hfree, and_false, false_and, if_true, if_false, getElem_putAt_self, implies_true, and_true,
        true_and]
      exact fun i hi => getElem_putAt_ne _ _ hi
  · simp only [h15, false_and, if_false, getElem_putAt_self, implies_true, and_true, true_and]
    exact fun i hi => getElem_putAt_ne _ _ hi

/-! ### The available count (R146) -/

theorem countP_putAt_add {α : Type} {n : Nat} (v : Vector α n) (i : Fin n) (x : α) (f : α → Bool) :
    (putAt v i x).toList.countP f + (if f v[i] then 1 else 0) = v.toList.countP f + if f x then 1 else 0 := by
  have hlen : i.val < v.toList.length := by simp
  have hpos : f v[i] = true → 0 < v.toList.countP f := fun h => by
    rw [List.countP_pos_iff]
    exact ⟨v[i], by simp, h⟩
  have hat : v.toList[i.val]'hlen = v[i] := by simp
  rw [putAt, Vector.toList_set, List.countP_set hlen, hat]
  by_cases h : f v[i] = true
  · have hone := hpos h
    rw [if_pos h]
    omega
  · rw [if_neg h]
    omega

/-- How a page put in place of another changes the number of pages in a state. -/
theorem countState_putAt {x : Journal} {i : PageNo} {y : JournalPage} (hx : x.pages = putAt j.pages i y)
    (st : PageState) : x.countState st + (if j.pages[i].state = st then 1 else 0) =
      j.countState st + if y.state = st then 1 else 0 := by
  have hadd := countP_putAt_add j.pages i y fun p => p.state == st
  simp only [beq_iff_eq] at hadd
  rw [Journal.countState, Journal.countState, hx]
  exact hadd

theorem openPage_state (ho : j.openPage = some pg) : pg = j.newest ∧ j.pages[pg].state = .opened := by
  obtain ⟨rfl, hopened⟩ := Journal.openPage_eq_some.1 ho
  exact ⟨rfl, hopened⟩

/-- With an OPEN page: its unused slots, and those of the FREE pages. -/
theorem available_of_open (hn : j.newest = pg) (ho : j.pages[pg].state = .opened) :
    j.available = 16 - j.pages[pg].records.length + 16 * j.countState .free := by
  subst hn
  rw [Journal.available, Journal.openSlots, Journal.openPage, if_pos ho]
  rfl

/-- Without one: the slots of the FREE pages. -/
theorem available_of_not_open (hn : j.newest = pg) (ho : j.pages[pg].state ≠ .opened) :
    j.available = 16 * j.countState .free := by
  subst hn
  rw [Journal.available, Journal.openSlots, Journal.openPage, if_neg ho]
  exact Nat.zero_add _

section
variable {x : Journal} {y z : JournalPage}

/-- The OPEN page replaced by one that is OPEN. -/
theorem available_filled (hp : x.pages = putAt j.pages pg y) (hn : x.newest = pg) (hold : j.pages[pg].state = .opened)
    (hy : y.state = .opened) : x.available = 16 - y.records.length + 16 * j.countState .free := by
  have hpage : x.pages[pg] = y := by rw [hp, getElem_putAt_self]
  have hcount := countState_putAt hp .free
  rw [hold, hy, if_neg nofun] at hcount
  have hopen : x.pages[pg].state = .opened := by rw [hpage, hy]
  rw [available_of_open hn hopen, hpage]
  omega

/-- The OPEN page replaced by one that is CLOSED. -/
theorem available_closed (hp : x.pages = putAt j.pages pg y) (hn : x.newest = pg) (hold : j.pages[pg].state = .opened)
    (hy : y.state = .closed) : x.available = 16 * j.countState .free := by
  have hcount := countState_putAt hp .free
  rw [hold, hy, if_neg nofun, if_neg nofun] at hcount
  have hclosed : x.pages[pg].state ≠ .opened := by
    rw [hp, getElem_putAt_self, hy]
    nofun
  rw [available_of_not_open hn hclosed]
  omega

/-- The OPEN page replaced by one that is CLOSED, and the next, FREE and empty, by one that is OPEN. -/
theorem available_turned (hp : x.pages = putAt (putAt j.pages pg y) (pg + 1) z) (hn : x.newest = pg + 1)
    (hold : j.pages[pg].state = .opened) (hy : y.state = .closed) (hfree : j.pages[pg + 1].state = .free)
    (hz : z.state = .opened) (hempty : z.records = []) : x.available = 16 * j.countState .free := by
  have hne := page_succ_ne pg
  have hpage : x.pages[pg + 1] = z := by rw [hp, getElem_putAt_self]
  have hmid := countState_putAt (j := j) (x := { j with pages := putAt j.pages pg y }) (i := pg) rfl .free
  have hcount := countState_putAt (j := { j with pages := putAt j.pages pg y }) hp .free
  rw [hold, hy, if_neg nofun, if_neg nofun] at hmid
  rw [hz, if_pos (by simpa only [getElem_putAt_ne j.pages y hne] using hfree), if_neg nofun] at hcount
  have hopen : x.pages[pg + 1].state = .opened := by rw [hpage, hz]
  rw [available_of_open hn hopen, hpage, hempty, List.length_nil]
  omega

end

/-- An append takes one slot, where the pages are sound. -/
theorem available_append (h : j.Sound) (ho : j.openPage = some pg) (mk : BitVec 24 → Record) :
    (j.append mk).available + 1 = j.available := by
  have hroom := h.1 pg ho
  obtain ⟨hnewest, hopened⟩ := openPage_state ho
  have happend := append_eq ho mk
  rw [available_of_open hnewest.symm hopened]
  by_cases h15 : j.pages[pg].records.length = 15
  · rw [if_pos h15] at happend
    by_cases hfree : j.pages[pg + 1].state = .free
    · rw [if_pos hfree] at happend
      have hafter := available_turned (congrArg Journal.pages happend) (congrArg Journal.newest happend) hopened rfl hfree
        rfl (h.2 (pg + 1) hfree)
      omega
    · rw [if_neg hfree] at happend
      have hafter := available_closed (congrArg Journal.pages happend)
        ((congrArg Journal.newest happend).trans hnewest.symm) hopened rfl
      omega
  · rw [if_neg h15] at happend
    have hafter := available_filled (congrArg Journal.pages happend)
      ((congrArg Journal.newest happend).trans hnewest.symm) hopened hopened
    rw [List.length_append, List.length_singleton] at hafter
    omega

/-- Neither the reserved count nor the arm, nor anything but the pages, tells what is available. -/
theorem available_congr {x : Journal} (hp : x.pages = j.pages) (hn : x.newest = j.newest) : x.available = j.available := by
  cases x
  cases j
  obtain rfl := hp
  obtain rfl := hn
  rfl

theorem countState_congr {x : Journal} (hp : x.pages = j.pages) (st : PageState) : x.countState st = j.countState st := by
  rw [Journal.countState, Journal.countState, hp]

theorem heldPages_congr {x : Journal} (hp : x.pages = j.pages) : x.heldPages = j.heldPages := by
  rw [Journal.heldPages, Journal.heldPages, hp]

/-! ### JOURNAL-LOW judged (R147) -/

theorem judgeLow_journal (hs : s.part.phase = .running) : s.judgeLow.journal =
    { s.journal with lowArmed := decide (s.journal.reserved + 64 ≤ s.journal.available) } := by
  have hrun : s.running = true := by simp [State.running, hs]
  unfold State.judgeLow
  rw [hrun]
  by_cases hlow : s.journal.available < s.journal.reserved + Config.lowMargin
  · have hfired : decide (s.journal.reserved + 64 ≤ s.journal.available) = false :=
      decide_eq_false (Nat.not_le.2 hlow)
    rw [if_neg (by decide), if_pos hlow, hfired]
    cases harm : s.journal.lowArmed with
    | true => rfl
    | false => rw [if_neg (by decide), ← harm]
  · have harmed : decide (s.journal.reserved + 64 ≤ s.journal.available) = true := decide_eq_true (Nat.not_lt.1 hlow)
    rw [if_neg (by decide), if_neg hlow, harmed]
    rfl

/-- An armed arm fires when the margin is below 64. -/
theorem judgeLow_shows (hs : s.part.phase = .running) (hlow : s.journal.available < s.journal.reserved + 64)
    (harm : s.journal.lowArmed = true) : s.judgeLow.Shows
      (.journalLow s.journal.available s.journal.reserved (s.journal.countState .closed) s.journal.heldPages) := by
  have hrun : s.running = true := by simp [State.running, hs]
  have hlow' : s.journal.available < s.journal.reserved + Config.lowMargin := hlow
  unfold State.judgeLow
  rw [if_neg (by simp [hrun]), if_pos hlow', if_pos harm]
  exact shows_latch _ _

/-- With a margin of 64 or more, or the arm fired already, nothing is latched. -/
theorem judgeLow_quiet (h : s.journal.reserved + 64 ≤ s.journal.available ∨ s.journal.lowArmed = false) (k : EventKind) :
    s.KeepsLatch s.judgeLow k := by
  unfold State.judgeLow
  split
  · exact .refl s k
  · split
    next hlow =>
      have harm : s.journal.lowArmed = false := h.resolve_left (Nat.not_le.2 hlow)
      rw [if_neg (by simp [harm])]
      exact .refl s k
    next => exact .refl s k

theorem lowJudged_judgeLow (hs : s.part.phase = .running) : s.LowJudged s.judgeLow := by
  have hj := judgeLow_journal hs
  have hsame := available_congr (j := s.journal) (x := s.judgeLow.journal) (by rw [hj]) (by rw [hj])
  have hreserved : s.judgeLow.journal.reserved = s.journal.reserved := by rw [hj]
  refine ⟨?_, fun hlow harm => ?_, fun h => judgeLow_quiet ?_ _⟩
  · rw [hj]
    rfl
  · rw [countState_congr (j := s.journal) (by rw [hj]), heldPages_congr (j := s.journal) (by rw [hj]), hsame, hreserved]
    exact judgeLow_shows hs (by rwa [hsame, hreserved] at hlow) harm
  · rwa [hsame, hreserved] at h

/-- JOURNAL-LOW judged between two states is judged between others of which neither differs in what it reads. -/
theorem State.LowJudged.congr {s' t' : State} (h : s.LowJudged t) (hs : s'.journal.lowArmed = s.journal.lowArmed)
    (hk : s'.KeepsLatch s .journalLow) (hj : t'.journal = t.journal) (ht : t.KeepsLatch t' .journalLow) :
    s'.LowJudged t' := by
  obtain ⟨harm, hshown, hquiet⟩ := h
  unfold State.LowJudged
  rw [hj, hs]
  exact ⟨harm, fun hlow ha => (hshown hlow ha).keep ht, fun hq => (hk.trans (hquiet hq)).trans ht⟩

/-! ### A reserved slot returned (R146, R152) -/

theorem openPage_congr {x : Journal} (hp : x.pages = j.pages) (hn : x.newest = j.newest) : x.openPage = j.openPage := by
  cases x
  cases j
  obtain rfl := hp
  obtain rfl := hn
  rfl

theorem writePendingClose_none (h : s.journal.pendingClose = none) : s.writePendingClose = s := by
  rw [State.writePendingClose, h]

theorem writePendingClose_full (h : s.journal.available ≤ s.journal.reserved) : s.writePendingClose = s := by
  unfold State.writePendingClose
  split
  · rfl
  · refine if_neg ?_
    simpa [Journal.hasRoomForClose] using h

theorem writePendingClose_done {d : DayClose} (h : s.journal.pendingClose = some d)
    (hroom : s.journal.reserved < s.journal.available) : s.writePendingClose =
      ((s.appendDayClose d).modJournal fun j => { j with pendingClose := none }).requestPass := by
  rw [State.writePendingClose, h]
  exact if_pos (decide_eq_true hroom)

/-- What an append leaves of the journal beside its records. -/
theorem append_rest (j : Journal) (mk : BitVec 24 → Record) : (j.append mk).reserved = j.reserved ∧
    (j.append mk).pendingClose = j.pendingClose ∧ (j.append mk).balances = j.balances ∧
    (j.append mk).lowArmed = j.lowArmed := by
  cases ho : j.openPage with
  | none => simp [Journal.append, ho]
  | some pg =>
    rw [append_eq ho]
    split
    · split <;> exact ⟨rfl, rfl, rfl, rfl⟩
    · exact ⟨rfl, rfl, rfl, rfl⟩

/-- The judgement changes nothing of the journal but the arm. -/
theorem judgeLow_keeps_journal (s : State) :
    s.judgeLow.journal = { s.journal with lowArmed := s.judgeLow.journal.lowArmed } := by
  unfold State.judgeLow
  split
  · rfl
  · split
    · split <;> rfl
    · rfl

theorem appendDayClose_reserved (s : State) (d : DayClose) : (s.appendDayClose d).journal.reserved = s.journal.reserved := by
  rw [State.appendDayClose, judgeLow_keeps_journal]
  exact (append_rest s.journal fun q => .dayClose q d).1

/-- A DAY-CLOSE appended to sound pages: the record, the event, and JOURNAL-LOW judged. -/
theorem appendDayClose_done (hs : s.part.phase = .running) (hsound : s.PagesSound) (ho : s.journal.openPage = some pg)
    (d : DayClose) (ht : t = s.appendDayClose d) :
    s.Written t pg (.dayClose s.journal.nextSeq d) ∧ t.journal.reserved = s.journal.reserved ∧
      t.journal.pendingClose = s.journal.pendingClose ∧ t.journal.balances = s.journal.balances ∧
      t.Shows (.dayClosed s.journal.nextSeq d.first d.last d.totals.amount) ∧
      t.journal.available + 1 = s.journal.available ∧
      t.journal.lowArmed = decide (s.journal.reserved + 65 ≤ s.journal.available) ∧
      (s.journal.available < s.journal.reserved + 65 → s.journal.lowArmed = true →
        t.Shows (.journalLow (s.journal.available - 1) s.journal.reserved (t.journal.countState .closed)
          t.journal.heldPages)) ∧
      (s.journal.reserved + 65 ≤ s.journal.available ∨ s.journal.lowArmed = false → s.KeepsLatch t .journalLow) := by
  obtain ⟨hreserved, hpending, hbalances, harm⟩ := append_rest s.journal fun q => .dayClose q d
  have hone := available_append (j := s.journal) hsound ho fun q => .dayClose q d
  have hlatched : s.KeepsLatch ((s.modJournal fun j => j.append fun q => .dayClose q d).latch
      (.dayClosed s.journal.nextSeq d.first d.last d.totals.amount)) .journalLow :=
    ((State.KeepsLatch.refl s _).modJournal _).latch _ nofun
  have hjournal : ((s.modJournal fun j => j.append fun q => .dayClose q d).latch
      (.dayClosed s.journal.nextSeq d.first d.last d.totals.amount)).journal =
        s.journal.append fun q => .dayClose q d := rfl
  have hshown := shows_latch (s.modJournal fun j => j.append fun q => .dayClose q d)
    (.dayClosed s.journal.nextSeq d.first d.last d.totals.amount)
  rw [State.appendDayClose] at ht
  have hrun : ((s.modJournal fun j => j.append fun q => .dayClose q d).latch
      (.dayClosed s.journal.nextSeq d.first d.last d.totals.amount)).part.phase = .running := hs
  generalize ((s.modJournal fun j => j.append fun q => .dayClose q d).latch
    (.dayClosed s.journal.nextSeq d.first d.last d.totals.amount)) = u at ht hlatched hjournal hshown hrun
  have hj := judgeLow_journal hrun
  rw [← ht, hjournal, hreserved] at hj
  have havail : t.journal.available = (s.journal.append fun q => .dayClose q d).available :=
    available_congr (by rw [hj]) (by rw [hj])
  have hkept : s.journal.reserved + 64 ≤ (s.journal.append fun q => .dayClose q d).available ↔
      s.journal.reserved + 65 ≤ s.journal.available := by omega
  refine ⟨written_append ho (fun q => .dayClose q d) ?_, by rw [hj, hreserved], by rw [hj, hpending],
    by rw [hj, hbalances], ?_, by omega, ?_, fun hlow ha => ?_, fun h => hlatched.trans ?_⟩
  · rw [hj]
    exact ⟨rfl, rfl, rfl, rfl, rfl, rfl⟩
  · rw [ht]
    exact hshown.keep ((State.KeepsLatch.refl u _).judgeLow nofun)
  · rw [hj]
    exact decide_eq_decide.2 hkept
  · have hlowu : u.journal.available < u.journal.reserved + 64 := by
      rw [hjournal, hreserved]
      omega
    have hfired := judgeLow_shows hrun hlowu (by rw [hjournal, harm, ha])
    have hcount : s.journal.available - 1 = u.journal.available := by
      rw [hjournal]
      omega
    have hpages : t.journal.pages = u.journal.pages := by rw [hj, hjournal]
    rw [countState_congr hpages, heldPages_congr hpages, hcount, ← hreserved, ← hjournal, ht]
    exact hfired
  · rw [ht]
    refine judgeLow_quiet ?_ _
    rw [hjournal, hreserved, harm]
    exact h.imp_left hkept.2

/-- The reserved count fallen and JOURNAL-LOW judged by it. -/
theorem reservedFallen_judged (hs : s.part.phase = .running)
    (ht : t = (s.modJournal fun j => { j with reserved := j.reserved - 1 }).judgeLow) :
    t.part = s.part ∧ t.journal = { s.journal with
      reserved := s.journal.reserved - 1
      lowArmed := decide (s.journal.reserved - 1 + 64 ≤ s.journal.available) } ∧ s.LowJudged t ∧
      (s.journal.available < s.journal.reserved - 1 + 64 → s.journal.lowArmed = true → t.Shows
        (.journalLow s.journal.available (s.journal.reserved - 1) (s.journal.countState .closed) s.journal.heldPages)) ∧
      (s.journal.reserved - 1 + 64 ≤ s.journal.available ∨ s.journal.lowArmed = false → s.KeepsLatch t .journalLow) := by
  have hrun : (s.modJournal fun j => { j with reserved := j.reserved - 1 }).part.phase = .running := hs
  subst ht
  exact ⟨by simp, judgeLow_journal hrun, (lowJudged_judgeLow hrun).congr rfl (.refl s _) rfl (.refl _ _),
    judgeLow_shows hrun, fun h => judgeLow_quiet (by exact h) _⟩

theorem slotReturned_dropReservation (hs : s.part.phase = .running) : s.SlotReturned s.dropReservation := by
  have hdef : s.dropReservation = State.writePendingClose _ := rfl
  obtain ⟨hpart, hj, hjudged, hfired, hquiet⟩ := reservedFallen_judged hs rfl
  generalize (s.modJournal fun j => { j with reserved := j.reserved - 1 }).judgeLow = m at *
  have havail : m.journal.available = s.journal.available := available_congr (by rw [hj]) (by rw [hj])
  have hreserved : m.journal.reserved = s.journal.reserved - 1 := by rw [hj]
  have hpending : m.journal.pendingClose = s.journal.pendingClose := by rw [hj]
  have hstay : s.journal.pendingClose = none ∨ s.journal.available < s.journal.reserved - 1 + 1 → s.dropReservation = m :=
    fun h => hdef.trans (h.elim (fun hnone => writePendingClose_none (hpending.trans hnone))
      fun hfull => writePendingClose_full (by omega))
  have hwrite : ∀ d, s.journal.pendingClose = some d → s.journal.reserved - 1 + 1 ≤ s.journal.available →
      s.dropReservation = ((m.appendDayClose d).modJournal fun j => { j with pendingClose := none }).requestPass :=
    fun d hd hroom => hdef.trans (writePendingClose_done (hpending.trans hd) (by omega))
  refine ⟨?_, fun h => ?_, fun d pg hsound hd hroom ho => ?_⟩
  · by_cases hroom : s.journal.available < s.journal.reserved - 1 + 1
    · rw [hstay (.inr hroom), hreserved]
    · cases hd : s.journal.pendingClose with
      | none => rw [hstay (.inl hd), hreserved]
      | some d =>
        rw [hwrite d hd (Nat.not_lt.1 hroom)]
        exact (appendDayClose_reserved m d).trans hreserved
  · rw [hstay h]
    refine ⟨hjudged, ?_⟩
    rw [hj]
  · rw [hwrite d hd hroom]
    have hopen : m.journal.openPage = some pg := (openPage_congr (by rw [hj]) (by rw [hj])).trans ho
    have hsame : s.journal.SameRecords m.journal := by
      rw [hj]
      exact ⟨rfl, rfl, rfl, rfl, rfl, rfl⟩
    obtain ⟨hwritten, _, _, hbal, hshown, _, harm, hlow, hkept⟩ :=
      appendDayClose_done (s := m) (t := m.appendDayClose d) (hpart ▸ hs)
        (pagesSound_iff.2 ((pagesSound_iff.1 hsound).congr (by rw [hj]) (by rw [hj]))) hopen d rfl
    rw [hreserved, havail] at harm hlow hkept
    have harmed : m.journal.lowArmed = decide (s.journal.reserved - 1 + 64 ≤ s.journal.available) := by rw [hj]
    rw [hj] at hshown hwritten
    refine ⟨hwritten.congr hsame ⟨rfl, rfl, rfl, rfl, rfl, rfl⟩, rfl, hbal.trans (by rw [hj]), hshown, harm,
      fun hbelow ha => ?_, fun hat => ?_, fun hno => ?_⟩
    · have hunarmed : m.journal.lowArmed = false := harmed.trans (decide_eq_false (by omega))
      exact (hfired hbelow ha).keep (hkept (.inr hunarmed))
    · exact hlow (by omega) (harmed.trans (decide_eq_true (by omega)))
    · rcases hno with hhigh | ⟨hbelow, ha⟩
      · exact (hquiet (.inl (by omega))).trans (hkept (.inl (by omega)))
      · exact (hquiet (.inr ha)).trans (hkept (.inr (harmed.trans (decide_eq_false (by omega)))))

end Sys2Proof.Machine
end

section
/-! Calls and their ends: a call that ends without entry (R69, R70), a visit removed (R24), a call timer (R69), and the
entry of a called visit into its bay with the CLAIM of phase 1 (R68, R80, R81). -/

namespace Sys2Proof.Machine

variable {s t u : State} {p : Port} {b : Bay} {k : EventKind}

/-! ### The end of a call (R70) -/

/-- A slot returned between two states is returned between others that latch nothing of what it latches. -/
theorem State.SlotReturned.congr {s' t' : State} (h : s.SlotReturned t) (hs : s'.journal = s.journal)
    (hk : s'.KeepsLatch s .journalLow) (ht : t'.journal = t.journal) (hlow : t.KeepsLatch t' .journalLow)
    (hclosed : t.KeepsLatch t' .dayClosed) : s'.SlotReturned t' := by
  obtain ⟨hreserved, hstay, hwrite⟩ := h
  unfold State.SlotReturned
  rw [hs, ht]
  refine ⟨hreserved, fun hnone => ?_, fun d pg hsound hd hroom ho => ?_⟩
  · obtain ⟨hjudged, heq⟩ := hstay hnone
    exact ⟨hjudged.congr (by rw [hs]) hk ht hlow, heq⟩
  · have hsound' : s.PagesSound := by
      unfold State.PagesSound at hsound ⊢
      rwa [hs] at hsound
    obtain ⟨hwritten, hpend, hbal, hshown, harm, hfired, hat, hquiet⟩ := hwrite d pg hsound' hd hroom ho
    refine ⟨hwritten.congr ?_ ?_, hpend, hbal, hshown.keep hclosed, harm, fun h ha => (hfired h ha).keep hlow,
      fun h => (hat h).keep hlow, fun h => (hk.trans (hquiet h)).trans hlow⟩
    · rw [hs]
      exact .refl _
    · rw [ht]
      exact .refl _

theorem writePendingClose_disp (s : State) : ∃ m, s.writePendingClose.disp = { s.disp with mark := m } := by
  unfold State.writePendingClose
  split
  · exact ⟨_, rfl⟩
  · split
    · exact ⟨true, by simp⟩
    · exact ⟨_, rfl⟩

theorem endCall_disp (s : State) (b : Bay) : (s.endCall b).disp =
    { s.disp with lines := s.disp.lines.filter (fun l => l.bay ≠ b), mark := true } := by
  obtain ⟨m, hm⟩ := writePendingClose_disp ((s.modBay b fun u => { u with settle := none, call := none, record := none }).modJournal
    fun j => { j with reserved := j.reserved - 1 }).judgeLow
  have hdisp : (s.endCall b).disp = (fun d : Dispatcher => { d with
      lines := d.lines.filter (fun l => l.bay ≠ b), mark := true }) ((s.modBay b fun u => { u with
        settle := none, call := none, record := none }).modJournal
          fun j => { j with reserved := j.reserved - 1 }).judgeLow.writePendingClose.disp := rfl
  rw [hdisp, hm]
  simp

theorem endCall_bays (s : State) (b : Bay) : (s.endCall b).bays =
    s.bays.set b { s.bays.get b with settle := none, call := none, record := none } := by
  simp [State.endCall, State.removeLine, modBay_eq]

theorem endCall_slot (hs : s.part.phase = .running) : s.SlotReturned (s.endCall b) :=
  (slotReturned_dropReservation (s := s.modBay b _) hs).congr rfl (.refl _ _) rfl (.refl _ _) (.refl _ _)

/-- A call ended, its bay gone to IDLE or CLOSED: what R70 and R71 say of the bay, the slot, the sign and INTRUSION. -/
theorem cancelCall_done (hs : s.part.phase = .running) (ht : t = (s.endCall b).goIdle b) :
    t.bays = s.bays.set b { s.bays.get b with
      settle := none, call := none, record := none, state := if s.bayIsOpen b then .idle else .closed } ∧
      s.SlotReturned t ∧ s.IntrusionJudged t b ∧
      t.disp = { s.disp with lines := s.disp.lines.filter (fun l => l.bay ≠ b), mark := true } ∧
      t = { s with bays := t.bays, journal := t.journal, disp := t.disp, links := t.links } := by
  have hopen : (s.endCall b).bayIsOpen b = s.bayIsOpen b := by simp [State.bayIsOpen]
  subst ht
  refine ⟨?_, ?_, ?_, ?_, ?_⟩
  · rw [goIdle_bays, endCall_bays, hopen, perBay_set_set, perBay_get_set, if_pos rfl]
  · exact (endCall_slot hs).congr rfl (.refl _ _) (by simp) ((State.KeepsLatch.refl _ _).goIdle b nofun)
      ((State.KeepsLatch.refl _ _).goIdle b nofun)
  · exact (goIdle_intrusion (s.endCall b) b).congr hopen.symm (by simp) (by simp)
      ((State.KeepsLatch.refl s _).endCall b nofun nofun) (.refl _ _)
  · rw [goIdle_disp, hopen, endCall_disp]
    split <;> rfl
  · simp [State.ext_iff]

/-! ### REMOVE_VISIT (R24) -/

theorem dropVisit_queue (s : State) (n : Nat) : (s.dropVisit n).queue = s.queue.filter fun v => v.number ≠ n := rfl

theorem dropVisit_lane (s : State) (n : Nat) : (s.dropVisit n).lane =
    { s.lane with
      meas := s.lane.meas.map fun m =>
        if m.binding = .bound n then { m with binding := .lost, heldNotice := false } else m } := rfl

theorem removeVisit_of_uncalled {n : Nat} {v : Visit} (h : s.visitOf n = some v) (hc : v.call = none) :
    s.removeVisit n = s.dropVisit n := by
  rw [State.removeVisit, h]
  simp only [hc]

theorem removeVisit_of_called {n : Nat} {v : Visit} (h : s.visitOf n = some v) (hc : v.call = some b) :
    s.removeVisit n = ((s.dropVisit n).endCall b).goIdle b := by
  rw [State.removeVisit, h]
  simp only [hc]
  rfl

/-- Settles O23: a visit held in no queue is refused; a queued one goes, with its call if it has one. -/
theorem removeVisitRemoves : Obligations.RemoveVisitRemoves := by
  intro p n s hs
  refine ⟨fun hnone => ?refused, fun v hv => ?removed⟩
  case refused =>
    refine exec_of_unchanged (c := .removeVisit p n) rfl hs ?_
    simp only [State.serve, State.doRemoveVisit, abandonFrame_visitOf, hnone, refuseVisit_eq]
    rfl
  case removed =>
    have hserve : (s.abandonFrame p).serve p (.removeVisit n) = ((s.abandonFrame p).removeVisit n.toNat,
        accept (match v.call with
                | none => []
                | some b => be 1 (bayNumber b))) := by
      simp only [State.serve, State.doRemoveVisit, abandonFrame_visitOf, hv]
      cases v.call <;> rfl
    obtain ⟨d, l, hexec, hd, hans, hkeep⟩ := exec_answered (c := .removeVisit p n) rfl hs hserve
    cases hc : v.call with
    | none =>
      rw [hc] at hans
      rw [removeVisit_of_uncalled (s := s.abandonFrame p) (n := n.toNat) hv hc] at hexec hd
      exact ⟨_, hexec, hans, rfl, rfl, fun _ => ⟨rfl, rfl, by rw [hd]; rfl⟩, nofun, rfl⟩
    | some b =>
      rw [hc] at hans
      obtain ⟨hbays, hslot, hintr, hdisp, hframe⟩ := cancelCall_done (s := (s.abandonFrame p).dropVisit n.toNat) (b := b)
        hs.1 (removeVisit_of_called (s := s.abandonFrame p) (n := n.toNat) hv hc)
      have hkept : ∀ k, s.KeepsLatch ((s.abandonFrame p).dropVisit n.toNat) k := fun k => keepsLatch_abandonFrame s p k
      refine ⟨_, hexec, hans, congrArg State.queue hframe, congrArg State.lane hframe, nofun, ?_, ?_⟩
      · rintro c ⟨⟩
        have hbay : ∀ x, ((s.abandonFrame p).removeVisit n.toNat).bays.get x = _ := fun x =>
          (congrArg (PerBay.get · x) hbays).trans (perBay_get_set ..)
        refine ⟨by rw [hd, hdisp]; rfl, ?_, ?_, hslot.congr rfl (hkept _) rfl (hkeep _) (hkeep _),
          hintr.congr rfl rfl rfl (hkept _) (hkeep _), fun x hx => (hbay x).trans (if_neg hx)⟩
        · exact congrArg BayUnit.record ((hbay b).trans (if_pos rfl))
        · exact congrArg BayUnit.state ((hbay b).trans (if_pos rfl))
      · rw [hframe]
        rfl

/-! ### The call timer (R69) -/

/-- A no-show: the visit kept or dropped with its event, nothing beside the queue, the lane and the links changed. -/
theorem noShow_first {v : Visit} (h : v.noShow = 0) : s.noShow b v =
    (s.putVisit { v with call := none, noShow := 1 }).latch (.callExpired v.number b 1) := if_pos h

theorem noShow_second {v : Visit} (h : v.noShow ≠ 0) : s.noShow b v =
    (s.dropVisit v.number).latch (.visitDropped v.number b v.haulier v.tags.head? v.plate) := if_neg h

theorem keepsLatch_noShow (s : State) (b : Bay) (v : Visit) (h1 : k ≠ .callExpired) (h2 : k ≠ .visitDropped) :
    s.KeepsLatch (s.noShow b v) k := by
  by_cases h : v.noShow = 0
  · rw [noShow_first h]
    exact keepsLatch_latch _ h1
  · rw [noShow_second h]
    exact keepsLatch_latch _ h2

/-- Settles O35: the no-show, then the end of the call, the bay gone to IDLE or CLOSED. -/
theorem callTimerEndsCall : Obligations.CallTimerEndsCall := by
  intro b s v hs hst hcall hv
  have hf : s.callExpired b = ((s.noShow b v).endCall b).goIdle b := by
    simp only [State.callExpired, hst, hcall, and_self, if_true, hv]
  obtain ⟨hbays, hslot, hintr, hdisp, hframe⟩ := cancelCall_done (s := s.noShow b v) (b := b) (by simpa using hs.1) rfl
  obtain ⟨d, hexec, hd⟩ := event_settled (exec_callTimerExpiry b s) hs hf
  have hkept : ∀ k, k ≠ .callExpired → k ≠ .visitDropped → s.KeepsLatch (s.noShow b v) k := fun k h1 h2 =>
    keepsLatch_noShow s b v h1 h2
  have hafter : ∀ k, k ≠ .journalLow → k ≠ .dayClosed → k ≠ .intrusion →
      (s.noShow b v).KeepsLatch (((s.noShow b v).endCall b).goIdle b) k := fun k h1 h2 h3 =>
    ((State.KeepsLatch.refl _ k).endCall b h1 h2).goIdle b h3
  have hbay : ∀ x, (((s.noShow b v).endCall b).goIdle b).bays.get x = _ := fun x =>
    (congrArg (PerBay.get · x) hbays).trans (perBay_get_set ..)
  have hopen : (s.noShow b v).bayIsOpen b = s.bayIsOpen b := by simp [State.bayIsOpen]
  have hsame : (s.noShow b v).bays = s.bays := by simp
  refine ⟨_, hexec, fun hfirst => ?first, fun hsecond => ?second, (hbay b).trans ((if_pos rfl).trans (by rw [hopen, hsame])),
    fun c hc => (hbay c).trans ((if_neg hc).trans (by simp)), ?slot, ?intrusion,
    by rw [hd, hdisp]; simp, by rw [hd, hdisp], ?frame⟩
  case first =>
    have hrow := noShow_first (s := s) (b := b) hfirst
    have hshown : (s.noShow b v).Shows (.callExpired v.number b 1) := hrow ▸ shows_latch _ _
    refine ⟨(congrArg State.lane hframe).trans (by rw [hrow]; rfl), (congrArg State.queue hframe).trans (by rw [hrow]; rfl),
      hshown.keep (hafter _ nofun nofun nofun)⟩
  case second =>
    have hrow := noShow_second (s := s) (b := b) hsecond
    have hshown : (s.noShow b v).Shows (.visitDropped v.number b v.haulier v.tags.head? v.plate) :=
      hrow ▸ shows_latch _ _
    refine ⟨(congrArg State.lane hframe).trans (by rw [hrow]; rfl), (congrArg State.queue hframe).trans (by rw [hrow]; rfl),
      hshown.keep (hafter _ nofun nofun nofun)⟩
  case slot =>
    exact hslot.congr (by simp) (hkept _ nofun nofun) rfl (.refl _ _) (.refl _ _)
  case intrusion =>
    exact hintr.congr hopen.symm (by simp) (by simp) (hkept _ nofun nofun) (.refl _ _)
  case frame =>
    rw [hframe]
    simp

/-! ### The entry of a called visit (R68, R80, R81) -/

/-- What entry into CLAIM of a phase makes of a work record (R81). -/
def State.claimed (s : State) (k : Nat) (r : WorkRecord) : WorkRecord :=
  match r.terms.phases[k - 1]? with
  | none => { r with phase := k, sub := .claim }
  | some t => { r with
      phase := k, sub := .claim, claimTank := (s.reclaimOffer t.source).1
      entries := r.entries.modify (k - 1) fun e => { e with rPhase := (s.reclaimOffer t.source).2 } }

theorem enterClaim_eq (s : State) (b : Bay) (k : Nat) : s.enterClaim b k = s.modRecord b (s.claimed k) := rfl

/-- The tank a phase may claim from, and the share it publishes (R81). -/
theorem reclaimOffer_eq (s : State) (src : WaterSource) : s.reclaimOffer src =
    (fun tank : Option Tank => (tank, (tank.bind fun i => (s.tanks.get i).share).getD 0))
      (if src = .reclaimPreferred then s.service.filter fun i => !s.lines.low.get i else none) := by
  unfold State.reclaimOffer
  cases src with
  | freshOnly => rfl
  | reclaimPreferred =>
    cases hsv : s.service with
    | none => rfl
    | some i =>
      cases hlow : s.lines.low.get i <;> simp [Option.filter, hlow]

theorem claimed_eq {r : WorkRecord} {ph : PhaseTerms} {k : Nat} (h : r.terms.phases[k - 1]? = some ph) :
    s.claimed k r = s.claimRecord r ph k := by
  simp only [State.claimed, h, reclaimOffer_eq, State.claimRecord]

/-- Without a phase of that number, the place in the wash alone changes. -/
theorem claimed_place (s : State) (k : Nat) (r : WorkRecord) : s.claimed k r =
    { r with phase := k, sub := .claim, claimTank := (s.claimed k r).claimTank, entries := (s.claimed k r).entries } := by
  unfold State.claimed
  split <;> rfl

/-- The claim reads what a bay's entry leaves alone. -/
theorem claimed_congr {k : Nat} (hsv : t.service = s.service) (hl : t.lines = s.lines) (ht : t.tanks = s.tanks)
    (r : WorkRecord) : t.claimed k r = s.claimed k r := by
  simp only [State.claimed, reclaimOffer_eq, hsv, hl, ht]

theorem enterBay_eq {v : Visit} {r : WorkRecord} (hr : s.record b = some r) : s.enterBay b v =
    { s with
      queue := s.queue.filter fun x => x.number ≠ v.number
      bays := s.bays.set b { s.bays.get b with
        state := .washing, settle := none, call := none
        record := some (s.claimed 1 { r with visit := some v, startTime := some s.clock.time }) }
      disp := { s.disp with lines := s.disp.lines.filter (fun l => l.bay ≠ b), mark := true } } := by
  have hrec : (s.bays.get b).record = some r := hr
  simp only [State.enterBay, enterClaim_eq, State.removeLine, State.modRecord, modBay_eq, State.modDisp, perBay_set_set,
    perBay_get_set, if_true, hrec, Option.map_some]
  rfl

/-- Settles O34: the bay entered, and what CLAIM of phase 1 offers. -/
theorem entrySettleStartsWash : Obligations.EntrySettleStartsWash := by
  intro b s v r hs hst hsettle hv hr
  have hf : s.settleExpired b = s.enterBay b v := by
    simp only [State.settleExpired, hst, hsettle, and_self, if_true, hv]
  obtain ⟨d, hexec, hd⟩ := event_settled (exec_entrySettleExpiry b s) hs (hf.trans (enterBay_eq hr))
  refine ⟨_, s.claimed 1 { r with visit := some v, startTime := some s.clock.time }, hexec, rfl,
    (perBay_get_set ..).trans (if_pos rfl), claimed_place .., fun ph k hph hsrc hsv hlow => ?offered,
    fun ph hph hno => ?none, fun c hc => (perBay_get_set ..).trans (if_neg hc), by rw [hd], by rw [hd], rfl⟩
  all_goals rw [List.head?_eq_getElem?] at hph
  case offered =>
    have hclaim := claimed_eq (s := s) (r := { r with visit := some v, startTime := some s.clock.time }) (k := 1) hph
    simp only [State.claimRecord, hsrc, if_true, hsv, Option.filter, hlow] at hclaim
    rw [hclaim]
    exact ⟨rfl, rfl⟩
  case none =>
    have hclaim := claimed_eq (s := s) (r := { r with visit := some v, startTime := some s.clock.time }) (k := 1) hph
    have htank : (if ph.source = .reclaimPreferred then s.service.filter fun i => !s.lines.low.get i else none) = none := by
      rcases hno with hfresh | hlow
      · rw [hfresh]
        rfl
      · split
        · cases hsv : s.service with
          | none => rfl
          | some i => simp [Option.filter, hlow i hsv]
        · rfl
    simp only [State.claimRecord, htank] at hclaim
    rw [hclaim]
    exact ⟨rfl, rfl⟩

end Sys2Proof.Machine
end

section
/-! The end of a wash: the charging step (R91, R149), the ways out of WASHING (R89, R92), and the marks that an abort
leaves (R88 to R90). -/

namespace Sys2Proof.Machine

variable {s t u : State} {b : Bay} {k : EventKind} {pg : PageNo} {r : WorkRecord}

/-! ### The charging step (R91) -/

/-- The work record as a charging step leaves it. -/
def State.chargedRecord (s : State) (r : WorkRecord) : WorkRecord :=
  { r with endTime := some s.clock.time, chargeSeq := some s.journal.nextSeq, sub := .outside }

theorem chargeStep_eq (hr : (s.bays.get b).record = some r) : s.chargeStep b =
    (State.appendCharge { s with bays := s.bays.set b { s.bays.get b with record := some (s.chargedRecord r) } }
      ({ r with endTime := some s.clock.time }.price b false)).latch
      (chargeEvent r ({ r with endTime := some s.clock.time }.price b false) s.journal.nextSeq) := by
  have hrec : s.record b = some r := hr
  rw [State.chargeStep, hrec]
  simp only [modRecord_eq hr]
  rfl

theorem chargeStep_none (hr : (s.bays.get b).record = none) : s.chargeStep b = s := by
  have hrec : s.record b = none := hr
  rw [State.chargeStep, hrec]

theorem charged_eq (k : Totals) (c : Charge) : k.charged c =
    k.plus { charges := 1, amount := c.amount, fresh := c.fresh, reclaim := c.litres - c.fresh, overdraw := 0 } := rfl

theorem appendCharge_keepsLatch (s : State) (c : Charge) (hk : k ≠ .journalLow) : s.KeepsLatch (s.appendCharge c) k := by
  rw [State.appendCharge]
  exact State.KeepsLatch.judgeLow (keepsLatch_of_links rfl k) hk

/-- A CHARGE append onto the OPEN page: the record, the reservation, the balance, the notice and JOURNAL-LOW. -/
theorem appendCharge_done (hs : s.part.phase = .running) (ho : s.journal.openPage = some pg) (c : Charge)
    (ht : t = s.appendCharge c) :
    s.Written t pg (.charge s.journal.nextSeq c) ∧ t.journal.reserved = s.journal.reserved - 1 ∧
      (∀ h, t.journal.balances[h] = s.journal.balances[h] + (if h = c.haulier then c.amount else 0)) ∧
      t.journal.pendingClose = s.journal.pendingClose ∧ t.clock = { s.clock with acc := s.clock.acc.charged c } ∧
      s.LowJudged t := by
  obtain ⟨_, hpending, hbalances, harm⟩ := append_rest s.journal fun q => .charge q c
  have hjudged := lowJudged_judgeLow (s := (s.modJournal fun j =>
      let j' := j.append fun q => .charge q c
      { j' with reserved := j.reserved - 1,
                balances := putAt j.balances c.haulier (j.balances[c.haulier] + c.amount) }).noteCharge c)
    (by simpa [State.noteCharge] using hs)
  have hj := judgeLow_keeps_journal ((s.modJournal fun j =>
      let j' := j.append fun q => .charge q c
      { j' with reserved := j.reserved - 1,
                balances := putAt j.balances c.haulier (j.balances[c.haulier] + c.amount) }).noteCharge c)
  rw [State.appendCharge] at ht
  rw [← ht] at hj hjudged
  refine ⟨written_append ho (fun q => .charge q c) ?_, by rw [hj]; rfl, fun h => ?_, by rw [hj]; exact hpending, ?_,
    hjudged.congr harm.symm (.refl s _) rfl (.refl t _)⟩
  · rw [hj]
    exact ⟨rfl, rfl, rfl, rfl, rfl, rfl⟩
  · have hbal : t.journal.balances = putAt s.journal.balances c.haulier (s.journal.balances[c.haulier] + c.amount) := by
      rw [hj]
      rfl
    rw [hbal, getElem_putAt]
    split
    next h => rw [h]
    next => rfl
  · rw [ht]
    simp [State.noteCharge, charged_eq]

/-- The wash of a bay charged, its record with the end time: as R91 has it. -/
theorem charged_chargeStep (hs : s.part.phase = .running) (hr : (s.bays.get b).record = some r)
    (ho : s.journal.openPage = some pg) :
    s.Charged (s.chargeStep b) pg b { r with endTime := some s.clock.time } s.clock.acc := by
  rw [chargeStep_eq hr]
  obtain ⟨hwritten, hreserved, hbalances, hpending, hclock, hlow⟩ := appendCharge_done
    (s := { s with bays := s.bays.set b { s.bays.get b with record := some (s.chargedRecord r) } }) hs ho
    ({ r with endTime := some s.clock.time }.price b false) rfl
  have hkind : ∀ c q, (chargeEvent r c q).kind ≠ .journalLow := fun c q => by
    unfold chargeEvent
    split <;> nofun
  have hshown := shows_latch (State.appendCharge
    { s with bays := s.bays.set b { s.bays.get b with record := some (s.chargedRecord r) } }
      ({ r with endTime := some s.clock.time }.price b false))
      (chargeEvent r ({ r with endTime := some s.clock.time }.price b false) s.journal.nextSeq)
  refine ⟨hwritten.congr (.refl _) (.refl _), hreserved, hbalances, hpending, hclock,
    hlow.congr rfl (.refl _ _) rfl (keepsLatch_latch _ (hkind _ _).symm), fun hmark => ?_, fun hmark => ?_⟩
  · have hevent : chargeEvent r ({ r with endTime := some s.clock.time }.price b false) s.journal.nextSeq = _ := if_pos hmark
    rw [hevent] at hshown ⊢
    exact hshown
  · have hevent : chargeEvent r ({ r with endTime := some s.clock.time }.price b false) s.journal.nextSeq = _ := if_neg hmark
    rw [hevent] at hshown ⊢
    exact hshown

/-- A wash charged between two states is charged between others of which neither differs in what is read, the two records
priced alike. -/
theorem State.Charged.congr {s' t' : State} {r' : WorkRecord} {acc : Totals} (h : s.Charged t pg b r acc)
    (hj : s'.journal = s.journal) (hc : s'.clock = { s.clock with acc := s'.clock.acc })
    (hk : s'.KeepsLatch s .journalLow) (hprice : r'.price b false = r.price b false) (habort : r'.abort = r.abort)
    (hphase : r'.phase = r.phase) (htj : t'.journal = t.journal) (htc : t'.clock = t.clock)
    (ht : ∀ k, k = .journalLow ∨ k = .washDone ∨ k = .washAborted → t.KeepsLatch t' k) :
    s'.Charged t' pg b r' acc := by
  obtain ⟨hwritten, hreserved, hbalances, hpending, hclock, hlow, hdone, haborted⟩ := h
  have hkeep : ∀ e : Event, e.kind = .washDone ∨ e.kind = .washAborted → t.Shows e → t'.Shows e := fun e he hshown =>
    hshown.keep (ht _ (.inr he))
  unfold State.Charged
  rw [hprice, habort, hphase, htj, hj, htc]
  refine ⟨hwritten.congr ?_ ?_, hreserved, hbalances, hpending, ?_, hlow.congr (by rw [hj]) hk htj (ht _ (by simp)),
    fun hmark => hkeep (.washDone ..) (.inl rfl) (hdone hmark),
    fun hmark => hkeep (.washAborted ..) (.inr rfl) (haborted hmark)⟩
  · rw [hj]
    exact .refl _
  · rw [htj]
    exact .refl _
  · rw [hclock, hc]

/-! ### A bay's BAY_OPEN bit cleared (R89, R101) -/

theorem bayNumber_pos (b : Bay) : 1 ≤ bayNumber b := by
  cases b <;> decide

theorem bayBit_injective {c : Bay} (h : bayBit b = bayBit c) : b = c := by
  have hb := bayNumber_pos b
  have hc := bayNumber_pos c
  unfold bayBit at h
  exact bayNumber_injective (by omega)

theorem bayBit_lt (b : Bay) : bayBit b < 6 := by
  cases b <;> decide

/-- One bit cleared, the others as they were. -/
theorem getLsbD_clear (x : BitVec 6) (b c : Bay) :
    (x &&& ~~~(1#6 <<< bayBit b)).getLsbD (bayBit c) = if c = b then false else x.getLsbD (bayBit c) := by
  have hlt := bayBit_lt c
  by_cases hc : c = b
  · subst hc
    simp [hlt]
  · have hne : bayBit c ≠ bayBit b := fun h => hc (bayBit_injective h)
    simp [hlt, hc]
    omega

/-- Open notices to bays of which none is to move. -/
theorem openNotices_of_still (old : BitVec 6)
    (h : ∀ c, old.getLsbD (bayBit c) ≠ s.bayIsOpen c → (s.bays.get c).state ≠ .closed ∧ (s.bays.get c).state ≠ .idle) :
    s.openNotices old = s := by
  have hstep : ∀ l : List Bay, l.foldl (fun s b =>
      if old.getLsbD (bayBit b) = s.bayIsOpen b then s else s.openNotice b) s = s := by
    intro l
    induction l with
    | nil => rfl
    | cons c l ih =>
      have hone : (if old.getLsbD (bayBit c) = s.bayIsOpen c then s else s.openNotice c) = s := by
        split
        · rfl
        next hne =>
          obtain ⟨hclosed, hidle⟩ := h c hne
          unfold State.openNotice
          split
          next hst => exact absurd hst hclosed
          next hst => exact absurd hst hidle
          next => rfl
      rw [List.foldl_cons, hone]
      exact ih
  exact hstep allBays

/-- The fault notice of a bay that is in FAULT already: its bit cleared, no bay moved. -/
theorem faultNotice_eq (h : (s.bays.get b).state = .fault) : ∃ m, s.faultNotice b =
    { s with
      water := { s.water with bayOpen := s.water.bayOpen &&& ~~~(1#6 <<< (bayNumber b - 1)) }
      disp := { s.disp with mark := m } } := by
  unfold State.faultNotice State.setBayOpen
  split
  next hsame =>
    refine ⟨s.disp.mark, ?_⟩
    have hbit : s.water.bayOpen &&& ~~~(1#6 <<< (bayNumber b - 1)) = s.water.bayOpen := hsame.symm
    rw [hbit]
  next =>
    refine ⟨true, ?_⟩
    rw [openNotices_of_still]
    · rfl
    · intro c hne
      have hcb : c = b := by
        by_contra hc
        refine hne ?_
        have hclear := getLsbD_clear s.water.bayOpen b c
        rw [if_neg hc] at hclear
        exact hclear.symm
      subst hcb
      have hst : ∀ w, (State.bays (s.modWater w)).get c = s.bays.get c := fun _ => rfl
      rw [hst, h]
      exact ⟨nofun, nofun⟩

/-- Entry into FAULT: the bay empty, its bit cleared, and BAY-FAULT. -/
theorem enterFault_eq (s : State) (b : Bay) (st : BayState) : ∃ m, s.enterFault b st =
    State.latch { s with
      bays := s.bays.set b ((s.bays.get b).emptied .fault)
      water := { s.water with bayOpen := s.water.bayOpen &&& ~~~(1#6 <<< (bayNumber b - 1)) }
      disp := { s.disp with mark := m } } (.bayFault b st (s.recordVisit b)) := by
  obtain ⟨m, hm⟩ := faultNotice_eq (s := s.modBay b fun u => u.emptied .fault) (b := b)
    (by simp [BayUnit.emptied])
  refine ⟨m, ?_⟩
  rw [State.enterFault, hm]
  rfl

/-! ### The ways out of WASHING (R89, R92) -/

/-- Entry into EXIT under a truck. -/
theorem enterExit_present (h : s.lines.presence.get b = true) : s.enterExit b =
    { s with bays := s.bays.set b { s.bays.get b with
      state := .exit, exit := some (s.laneTime + 1000 * s.active.exitTimeout) } } := by
  simp only [State.enterExit, h, if_true, modBay_modBay]
  rfl

/-- Entry into EXIT of a bay that is empty already. -/
theorem enterExit_absent (h : s.lines.presence.get b = false) : s.enterExit b = (s.modBay b fun u => { u with
    state := .exit, record := none, exit := none }).goIdle b := by
  simp only [State.enterExit, h, Bool.false_eq_true, if_false, State.leaveExit, modBay_modBay]

/-- What a charging step changes: the record, the journal, the accumulators and the links. -/
theorem chargeStep_shape (hr : (s.bays.get b).record = some r) : ∃ j c l, s.chargeStep b =
    { s with bays := s.bays.set b { s.bays.get b with record := some (s.chargedRecord r) }
             journal := j, clock := c, links := l } := by
  refine ⟨(s.chargeStep b).journal, (s.chargeStep b).clock, (s.chargeStep b).links, ?_⟩
  rw [chargeStep_eq hr]
  simp [State.ext_iff]

theorem enterExit_absent_bays (h : s.lines.presence.get b = false) : (s.enterExit b).bays =
    s.bays.set b { s.bays.get b with
      state := if s.bayIsOpen b then .idle else .closed, record := none, exit := none } := by
  have hopen : (s.modBay b fun u => { u with state := .exit, record := none, exit := none }).bayIsOpen b =
      s.bayIsOpen b := rfl
  rw [enterExit_absent h, goIdle_bays, hopen]
  simp only [modBay_eq, perBay_set_set, perBay_get_set, if_true]

theorem State.KeepsLatch.enterExit (h : s.KeepsLatch t k) (b : Bay) (hi : k ≠ .intrusion) :
    s.KeepsLatch (t.enterExit b) k := by
  cases hp : t.lines.presence.get b with
  | true =>
    rw [enterExit_present hp]
    exact h
  | false =>
    rw [enterExit_absent hp]
    exact (h.modBay b _).goIdle b hi

theorem chargeStep_keepsLatch (hl : k ≠ .journalLow) (hd : k ≠ .washDone) (ha : k ≠ .washAborted) :
    s.KeepsLatch (s.chargeStep b) k := by
  cases hr : (s.bays.get b).record with
  | none =>
    rw [chargeStep_none hr]
    exact .refl s k
  | some r =>
    rw [chargeStep_eq hr]
    refine State.KeepsLatch.latch ?_ _ ?_
    · exact appendCharge_keepsLatch _ _ hl
    · unfold chargeEvent
      split
      · exact hd
      · exact ha

theorem perBay_get_self {α : Type} (x : PerBay α) (b : Bay) (v : α) : (x.set b v).get b = v := by simp

theorem perBay_get_other {α : Type} (x : PerBay α) {b c : Bay} (v : α) (h : c ≠ b) : (x.set b v).get c = x.get c := by
  simp [h]

/-- A bay that leaves WASHING charges, and then goes where its mark and its presence line send it. -/
theorem leaveWashing_left (hr : (s.bays.get b).record = some r) (ht : t = s.leaveWashing b) :
    s.LeftBay t b r.abort ∧ t.water = { s.water with bayOpen := t.water.bayOpen } ∧
      ((s.bays.get b).wait = none → (t.bays.get b).wait = none) ∧
      ((s.bays.get b).runOnTimer = none → (t.bays.get b).runOnTimer = none) ∧
      t.journal = (s.chargeStep b).journal ∧ t.clock = (s.chargeStep b).clock ∧
      (∀ k, k ≠ .bayFault → k ≠ .intrusion → (s.chargeStep b).KeepsLatch t k) ∧
      t = { s with water := t.water, bays := t.bays, journal := t.journal, clock := t.clock, disp := t.disp,
                   links := t.links } := by
  have hmark : s.abortMark b = r.abort := by
    have hrec : s.record b = some r := hr
    rw [State.abortMark, hrec]
  obtain ⟨j, c, l, hm⟩ := chargeStep_shape hr
  rw [State.leaveWashing, hmark] at ht
  by_cases he : r.abort = .eStop
  · obtain ⟨m, hf⟩ := enterFault_eq (s.chargeStep b) b .washing
    have hvisit : (s.chargeStep b).recordVisit b = s.recordVisit b := by
      simp [State.recordVisit, State.record, hm, hr, State.chargedRecord]
    rw [if_pos he, hf, hvisit] at ht
    rw [hm] at ht ⊢
    simp only [perBay_get_self, perBay_set_set] at ht
    subst ht
    refine ⟨⟨fun h => absurd he h, fun _ => ⟨rfl, ?_, ?_, shows_latch _ _⟩, fun x hx => perBay_get_other _ _ hx⟩, rfl,
      fun _ => ?_, fun _ => ?_, rfl, rfl, fun k hf _ => keepsLatch_latch _ hf, rfl⟩
    · exact congrArg BayUnit.state (perBay_get_self ..)
    · exact congrArg BayUnit.record (perBay_get_self ..)
    · exact congrArg BayUnit.wait (perBay_get_self ..)
    · exact congrArg BayUnit.runOnTimer (perBay_get_self ..)
  · rw [if_neg he] at ht
    cases hp : s.lines.presence.get b with
    | true =>
      rw [enterExit_present (by simpa using hp), hm] at ht
      rw [hm]
      simp only [perBay_get_self, perBay_set_set] at ht
      subst ht
      refine ⟨⟨fun _ => ⟨rfl, fun _ => ⟨?_, ?_, ?_⟩, fun h => absurd (hp.symm.trans h) nofun⟩, fun h => absurd h he,
        fun x hx => perBay_get_other _ _ hx⟩, rfl, fun hw => ?_, fun hw => ?_, rfl, rfl, fun k _ _ => .refl _ _, rfl⟩
      · exact congrArg BayUnit.state (perBay_get_self ..)
      · exact congrArg BayUnit.exit (perBay_get_self ..)
      · exact congrArg (fun u : BayUnit => u.record.map (·.chargeSeq)) (perBay_get_self ..)
      · exact (congrArg BayUnit.wait (perBay_get_self ..)).trans hw
      · exact (congrArg BayUnit.runOnTimer (perBay_get_self ..)).trans hw
    | false =>
      have hbays := enterExit_absent_bays (s := s.chargeStep b) (b := b) (by simpa using hp)
      have hopen : (s.chargeStep b).bayIsOpen b = s.bayIsOpen b := by simp [State.bayIsOpen]
      rw [hopen, ← ht, hm] at hbays
      simp only [perBay_get_self, perBay_set_set] at hbays
      have hwater : t.water = s.water := by simp [ht]
      refine ⟨⟨fun _ => ⟨by rw [hwater], fun h => absurd (hp.symm.trans h) nofun, fun _ => ⟨?_, ?_⟩⟩, fun h => absurd h he,
        fun x hx => ?_⟩, by rw [hwater], fun hw => ?_, fun hw => ?_, by simp [ht], by simp [ht],
        fun k _ hk => ht ▸ (State.KeepsLatch.refl _ k).enterExit b hk, by simp [ht, State.ext_iff]⟩
      · rw [hbays, perBay_get_self]
      · exact (congrArg (fun x : PerBay BayUnit => (x.get b).record) hbays).trans (congrArg _ (perBay_get_self ..))
      · rw [hbays, perBay_get_other _ _ hx]
      · rw [hbays, perBay_get_self, hw]
      · rw [hbays, perBay_get_self, hw]

end Sys2Proof.Machine
end

section
/-! Washes ended early (R82, R88 to R90): the lines of presence and e-stop, BAY_ABORT, and the bay timers. -/

namespace Sys2Proof.Machine

variable {s t m : State} {b : Bay} {k : EventKind} {pg : PageNo} {r : WorkRecord} {p : Port}

theorem recordVisit_of (hr : (s.bays.get b).record = some r) : s.recordVisit b = r.visit.map (·.number) := by
  have hrec : s.record b = some r := hr
  rw [State.recordVisit, hrec]

/-! ### A wash that ends in WATER-WAIT -/

/-- A bay that has left WASHING from one state has left it from another that differs in nothing that is read. -/
theorem State.LeftBay.congr {a : AbortMark} {t' : State} (h : m.LeftBay t b a) (hm : m = { s with
      water := { m.water with bayOpen := s.water.bayOpen }, bays := m.bays, journal := m.journal, clock := m.clock
      disp := m.disp, links := m.links })
    (hq : m.journal.nextSeq = s.journal.nextSeq) (hv : m.recordVisit b = s.recordVisit b)
    (hb : ∀ c, c ≠ b → m.bays.get c = s.bays.get c) (hw : t'.water.bayOpen = t.water.bayOpen) (ht : t'.bays = t.bays)
    (hk : t.KeepsLatch t' .bayFault) : s.LeftBay t' b a := by
  obtain ⟨hfree, hstop, hother⟩ := h
  have hopen : m.water.bayOpen = s.water.bayOpen := by rw [hm]
  have hlines : m.lines = s.lines := by rw [hm]
  have hactive : m.active = s.active := by rw [hm]
  have htime : m.laneTime = s.laneTime := by rw [hm]; rfl
  have hbit : m.bayIsOpen b = s.bayIsOpen b := congrArg (BitVec.getLsbD · (bayBit b)) hopen
  rw [hopen, hlines, hactive, htime, hbit, hq] at hfree
  rw [hopen, hv] at hstop
  have hrec : t'.record b = t.record b := by rw [State.record, State.record, ht]
  unfold State.LeftBay
  rw [ht, hw, hrec]
  refine ⟨hfree, fun ha => ?_, fun c hc => (hother c hc).trans (hb c hc)⟩
  obtain ⟨hbit', hst, hrecord, hshown⟩ := hstop ha
  exact ⟨hbit', hst, hrecord, State.Shows.keep (e := .bayFault b .washing (s.recordVisit b)) hshown hk⟩

/-- The state in which a bay whose wash ends in WATER-WAIT is charged: off the list, its record as given. -/
def State.withdrawn (s : State) (b : Bay) (r : WorkRecord) : State :=
  { s with
    water := { s.water with waits := s.water.waits.filter fun x => x.bay ≠ b }
    bays := s.bays.set b { s.bays.get b with wait := none, record := some r } }

theorem withdraw_eq (s : State) (b : Bay) : s.withdraw b = { s with
    water := { s.water with waits := s.water.waits.filter fun x => x.bay ≠ b }
    bays := s.bays.set b { s.bays.get b with wait := none } } := rfl

/-- A wash that leaves WASHING, in a state that differs from another in its bay, the water, the accumulators and the
links alone: charged, where there is an OPEN page, and its bay left. -/
theorem leaveWashing_done (hs : s.part.phase = .running) (hm : m = { s with
      water := { m.water with bayOpen := s.water.bayOpen }, bays := m.bays
      clock := { s.clock with acc := m.clock.acc }, links := m.links })
    (hr : (m.bays.get b).record = some r) (hv : r.visit.map (·.number) = s.recordVisit b)
    (hb : ∀ c, c ≠ b → m.bays.get c = s.bays.get c) (hl : s.KeepsLatch m .journalLow) (ht : t = m.leaveWashing b) :
    (∀ pg, s.journal.openPage = some pg → s.Charged t pg b { r with endTime := some s.clock.time } m.clock.acc) ∧
      s.LeftBay t b r.abort ∧ t.water = { m.water with bayOpen := t.water.bayOpen } ∧
      ((m.bays.get b).wait = none → (t.bays.get b).wait = none) ∧
      ((m.bays.get b).runOnTimer = none → (t.bays.get b).runOnTimer = none) ∧
      (∀ k, k ≠ .journalLow → k ≠ .washDone → k ≠ .washAborted → k ≠ .bayFault → k ≠ .intrusion → m.KeepsLatch t k) ∧
      t = { s with water := t.water, bays := t.bays, journal := t.journal, clock := t.clock, disp := t.disp,
                   links := t.links } := by
  have hpart : m.part = s.part := by rw [hm]
  have hj : m.journal = s.journal := by rw [hm]
  have hc : m.clock = { s.clock with acc := m.clock.acc } := by rw [hm]
  have htime : m.clock.time = s.clock.time := by rw [hm]
  obtain ⟨hleft, hwater, hwait, hrunOn, htj, htc, hk, hframe⟩ := leaveWashing_left hr ht
  have hvisit := (recordVisit_of hr).trans hv
  refine ⟨fun pg ho => ?_, hleft.congr ?_ (by rw [hj]) hvisit hb rfl rfl (.refl _ _), hwater, hwait, hrunOn,
    fun k h1 h2 h3 h4 h5 => (chargeStep_keepsLatch h1 h2 h3).trans (hk k h4 h5), ?_⟩
  · have hcharged := charged_chargeStep (s := m) (hpart ▸ hs) hr (hj ▸ ho)
    rw [htime] at hcharged
    refine hcharged.congr hj.symm ?_ hl rfl rfl rfl htj htc fun k hk' => hk k ?_ ?_
    · rw [hc]
    · rcases hk' with rfl | rfl | rfl <;> nofun
    · rcases hk' with rfl | rfl | rfl <;> nofun
  · rw [hm]
  · rw [hframe, hm]

/-- A wash that leaves from WATER-WAIT: charged, and its bay left. -/
theorem waitAborted_of (hs : s.part.phase = .running) (ho : s.journal.openPage = some pg)
    (hv : r.visit.map (·.number) = s.recordVisit b) {l : PerPort Link} (hl : s.KeepsLatch { s with links := l } .journalLow)
    (ht : t = State.leaveWashing { s.withdrawn b r with links := l } b) :
    s.WaitAborted t pg b { r with endTime := some s.clock.time } ∧
      (∀ k, k ≠ .journalLow → k ≠ .washDone → k ≠ .washAborted → k ≠ .bayFault → k ≠ .intrusion →
        State.KeepsLatch { s with links := l } t k) ∧
      t = { s with water := t.water, bays := t.bays, journal := t.journal, clock := t.clock, disp := t.disp,
                   links := t.links } := by
  have hbay : (State.bays { s.withdrawn b r with links := l }).get b =
      { s.bays.get b with wait := none, record := some r } := perBay_get_self ..
  obtain ⟨hcharged, hleft, hwater, hwait, _, hkeep, hframe⟩ := leaveWashing_done (m := { s.withdrawn b r with links := l })
    hs rfl (congrArg BayUnit.record hbay) hv (fun c hc => perBay_get_other _ _ hc) hl ht
  exact ⟨⟨hcharged pg ho, hleft, hwait (congrArg BayUnit.wait hbay), hwater⟩, hkeep, hframe⟩

/-! ### Abort marks (R88 to R90) -/

/-- A bay of a wash with the mark set. -/
def State.marked (s : State) (b : Bay) (r : WorkRecord) (a : AbortMark) : State :=
  { s with bays := s.bays.set b { s.bays.get b with record := some { r with abort := a } } }

theorem abortWash_of_marked (hr : (s.bays.get b).record = some r) (ha : r.abort ≠ .unmarked) (a : AbortMark) :
    s.abortWash b a = s := by
  have hrec : s.record b = some r := hr
  rw [State.abortWash, State.abortMark, hrec]
  exact if_neg ha

theorem abortWash_of_unmarked (hr : (s.bays.get b).record = some r) (ha : r.abort = .unmarked) (a : AbortMark) :
    s.abortWash b a = (s.marked b r a).abortBySub b := by
  have hrec : s.record b = some r := hr
  rw [State.abortWash, State.abortMark, hrec]
  exact (if_pos ha).trans (congrArg (State.abortBySub · b) (modRecord_eq hr _))

theorem eStopWash_eq (hr : (s.bays.get b).record = some r) : s.eStopWash b = (s.marked b r .eStop).abortBySub b :=
  congrArg (State.abortBySub · b) (modRecord_eq hr _)

section
variable {a : AbortMark} (hw : (s.bays.get b).state = .washing)
include hw

theorem subState_marked : (s.marked b r a).subState b = r.sub := by
  simp [State.subState, State.record, State.marked, hw]

theorem abortBySub_kept (hsub : r.sub = .claim ∨ r.sub = .runOn) : (s.marked b r a).abortBySub b = s.marked b r a := by
  rw [State.abortBySub, subState_marked hw]
  rcases hsub with hsub | hsub <;> rw [hsub]

theorem abortBySub_run (hsub : r.sub = .run) : (s.marked b r a).abortBySub b = { s with
    bays := s.bays.set b { s.bays.get b with
      supply := false, blend := 0, pumpPos := 0, pumpDuty := 0, limit := none, runOn := 0, spilled := false
      runOnTimer := some (s.laneTime + 2000)
      record := some { r with
        abort := a, sub := .runOn
        entries := r.entries.modify (r.phase - 1) fun e => { e with status := .aborted } } } } := by
  rw [State.abortBySub, subState_marked hw, hsub]
  refine (endRun_eq (r := { r with abort := a }) (congrArg BayUnit.record (perBay_get_self ..)) .aborted).trans ?_
  simp only [State.marked, perBay_get_self, perBay_set_set]
  rfl

theorem abortBySub_wait (hsub : r.sub = .waterWait) : (s.marked b r a).abortBySub b =
    (s.withdrawn b { r with abort := a }).leaveWashing b := by
  have hleaves : (s.marked b r a).abortBySub b = ((s.marked b r a).withdraw b).leaveWashing b := by
    rw [State.abortBySub, subState_marked hw, hsub]
  refine hleaves.trans (congrArg (State.leaveWashing · b) ?_)
  simp only [withdraw_eq, State.marked, perBay_get_self, perBay_set_set]
  rfl

end

/-! ### The lines of presence (R59, R68, R71, R88, R92) -/

theorem leaveExit_eq (s : State) (b : Bay) (hi : s.lines.presence.get b = false) : s.leaveExit b = { s with
    bays := s.bays.set b { s.bays.get b with
      record := none, exit := none, state := if s.bayIsOpen b then .idle else .closed }
    disp := if s.bayIsOpen b then { s.disp with mark := true } else s.disp } := by
  have hopen : (s.modBay b fun u => { u with record := none, exit := none }).bayIsOpen b = s.bayIsOpen b := rfl
  have hline : (s.modBay b fun u => { u with record := none, exit := none }).lines.presence.get b = false := hi
  rw [State.leaveExit, State.goIdle, hopen]
  by_cases ho : s.bayIsOpen b = true
  · rw [if_pos ho, if_pos ho, if_pos ho, hline]
    simp only [modBay_modBay, Bool.false_eq_true, if_false]
    rfl
  · rw [if_neg ho, if_neg ho, if_neg ho, modBay_modBay]
    rfl

theorem presenceCleared_washing (hw : (s.bays.get b).state = .washing) :
    s.presenceCleared b = s.abortWash b .presence := by
  rw [State.presenceCleared, hw]

theorem recordVisit_bind {v : Option WorkRecord} (hr : v = some r) : r.visit.map (·.number) = (v.bind (·.visit)).map (·.number) := by
  rw [hr]
  rfl

/-- A wash in WATER-WAIT aborted by an event: its state after the sign's judgement. -/
theorem exec_waitAborted {c : Instr} {f : State → State} {a : AbortMark} (hc : exec c t = s.event f) (hs : s.Running)
    (hr : (s.bays.get b).record = some r) (ho : s.journal.openPage = some pg)
    (hf : f s = (s.withdrawn b { r with abort := a }).leaveWashing b) : ∃ t', exec c t = .next t' ∧
      s.WaitAborted t' pg b { r with abort := a, endTime := some s.clock.time } ∧
      t' = { s with water := t'.water, bays := t'.bays, journal := t'.journal, clock := t'.clock, disp := t'.disp,
                    links := t'.links } := by
  obtain ⟨haborted, _, hframe⟩ := waitAborted_of (r := { r with abort := a }) (l := s.links) hs.1 ho (recordVisit_of hr).symm
    (.refl _ _) rfl
  rw [hc, event_running hs.1, hf]
  obtain ⟨d, hd, _⟩ := settleSign_frame s ((s.withdrawn b { r with abort := a }).leaveWashing b)
  refine ⟨_, congrArg _ hd, haborted, ?_⟩
  rw [show (s.withdrawn b { r with abort := a }).leaveWashing b = _ from hframe]

/-- Settles O32: by the state of the bay and, in a wash, by mark and sub-state. -/
theorem presenceActsOnBay : Obligations.PresenceActsOnBay := by
  refine ⟨fun b s s' hs hs' => ?asserts, fun b s s' u hs hu hs' => ?clears⟩
  case asserts =>
    have hexec : exec (.presenceAssert b) s = s'.event fun s => s.presenceAsserted b := hs' ▸ exec_presenceAssert b s
    have hrun : s'.Running := hs' ▸ hs
    have hst : (s'.bays.get b).state = (s.bays.get b).state := by rw [hs']
    refine ⟨fun hc => ?_, fun hi => ?_, fun hc hi => event_eq hexec hrun ?_ (.refl _)⟩
    · refine event_eq hexec hrun ?_ (sameSign_bays ..)
      rw [State.presenceAsserted, hst, hc, hs']
      rfl
    · refine event_eq hexec hrun ?_ (sameSign_latch ..)
      rw [State.presenceAsserted, hst, hi, hs']
    · unfold State.presenceAsserted
      split
      next h => exact absurd (hst.symm.trans h) hc
      next h => exact absurd (hst.symm.trans h) hi
      all_goals rfl
  case clears =>
    have hexec : exec (.presenceClear b) s = s'.event fun s => s.presenceCleared b := hs' ▸ exec_presenceClear b s
    have hrun : s'.Running := hs' ▸ hs
    have hbay : s'.bays.get b = u := by rw [hs', hu]
    have hline : s'.lines.presence.get b = false := by
      rw [hs']
      exact perBay_get_self ..
    have hbays : s'.bays = s.bays := by rw [hs']
    have htime : s'.laneTime = s.laneTime := by rw [hs']; rfl
    have hclock : s'.clock = s.clock := by rw [hs']
    have hdisp : s.disp = s'.disp := by rw [hs']
    have hopen : s.bayIsOpen b = s'.bayIsOpen b := by rw [hs']; rfl
    refine ⟨fun hc => ?called, fun hi => ?idle, fun hcf => ?still, fun he => ?exit, fun r hw hr =>
      ⟨fun ha => ?marked, fun ha hsub => ?kept, fun ha hsub => ?run, fun pg ha hsub ho => ?wait⟩⟩
    case called =>
      have hrow : s'.presenceCleared b = s'.modBay b fun u => { u with settle := none } := by
        rw [State.presenceCleared, hbay, hc]
      refine event_eq hexec hrun (hrow.trans ?_) (sameSign_bays ..)
      rw [modBay_eq, hbay, hbays]
    case idle =>
      have hrow : s'.presenceCleared b = s'.requestPass := by
        rw [State.presenceCleared, hbay, hi]
      rw [hdisp]
      exact event_eq hexec hrun hrow ⟨rfl, rfl, rfl⟩
    case still =>
      refine event_eq hexec hrun ?_ (.refl _)
      rw [State.presenceCleared, hbay]
      rcases hcf with h | h <;> rw [h]
    case exit =>
      have hrow : s'.presenceCleared b = s'.leaveExit b := by
        rw [State.presenceCleared, hbay, he]
      rw [hdisp, hopen]
      refine event_eq hexec hrun (hrow.trans ((leaveExit_eq s' b hline).trans ?_)) ⟨?_, ?_, rfl⟩
      · rw [hbay, hbays]
      all_goals
        dsimp only
        split <;> rfl
    all_goals
      have hw' : (s'.bays.get b).state = .washing := hbay ▸ hw
      have hr' : (s'.bays.get b).record = some r := hbay ▸ hr
      have hrow := presenceCleared_washing hw'
    case marked => exact event_eq hexec hrun (hrow.trans (abortWash_of_marked hr' ha _)) (.refl _)
    all_goals have hmark := hrow.trans (abortWash_of_unmarked hr' ha .presence)
    case kept =>
      refine event_eq hexec hrun (hmark.trans ((abortBySub_kept hw' hsub).trans ?_)) (sameSign_bays ..)
      rw [State.marked, hbay, hbays]
    case run =>
      refine event_eq hexec hrun (hmark.trans ((abortBySub_run hw' hsub).trans ?_)) (sameSign_bays ..)
      rw [hbay, hbays, htime]
    case wait =>
      have hopen : s'.journal.openPage = some pg := by rw [hs']; exact ho
      obtain ⟨t, ht, haborted, hframe⟩ := exec_waitAborted hexec hrun hr' hopen (hmark.trans (abortBySub_wait hw' hsub))
      rw [hclock] at haborted
      exact ⟨t, ht, haborted, hframe⟩

/-! ### BAY_ABORT (R90) -/

/-- What a reply and the sign's judgement leave of a wash that has been aborted. -/
theorem State.WaitAborted.keep {t' : State} (h : s.WaitAborted t pg b r) (hw : t'.water = t.water) (hb : t'.bays = t.bays)
    (hj : t'.journal = t.journal) (hc : t'.clock = t.clock) (hk : ∀ k, t.KeepsLatch t' k) : s.WaitAborted t' pg b r := by
  obtain ⟨hcharged, hleft, hwait, hwater⟩ := h
  refine ⟨hcharged.congr rfl rfl (.refl _ _) rfl rfl rfl hj hc fun k _ => hk k,
    hleft.congr rfl rfl rfl (fun _ _ => rfl) (by rw [hw]) hb (hk _), by rw [hb]; exact hwait, ?_⟩
  rw [hw]
  exact hwater

theorem doBayAbort_eq {n : Nat} (h : bayOf n = some b) (hw : (s.bays.get b).state = .washing)
    (hr : (s.bays.get b).record = some r) :
    s.doBayAbort n = (s.abortWash b .host, accept (be 1 r.phase ++ be 1 r.sub.ctorIdx)) := by
  have hrec : s.record b = some r := hr
  rw [State.doBayAbort, h]
  simp only [hw, if_true, hrec, subState_of_washing hw hr]
  rfl

theorem doBayAbort_refused {n : Nat} (h : bayOf n = some b) (hw : (s.bays.get b).state ≠ .washing) :
    s.doBayAbort n = (s, refuse .refusedState) := by
  rw [State.doBayAbort, h]
  exact if_neg hw

/-- Settles O33: refused out of a wash, and in one by mark and sub-state. -/
theorem bayAbortMarksWash : Obligations.BayAbortMarksWash := by
  intro p n b s u hs hn hu
  subst hu
  have hbay : bayOf n.toNat = some b := hn ▸ bayOf_bayNumber b
  refine ⟨fun hw => ?refused, fun r a hw hr ha => ?washing⟩
  case refused =>
    exact exec_of_unchanged (c := .bayAbort p n) rfl hs (doBayAbort_refused (s := s.abandonFrame p) hbay hw)
  subst ha
  have hserve := doBayAbort_eq (s := s.abandonFrame p) hbay hw hr
  have hmark := fun h => abortWash_of_unmarked (s := s.abandonFrame p) hr h .host
  refine ⟨fun h => ?marked, fun h hsub => ?kept, fun h hsub => ?run, fun pg h hsub ho => ?wait⟩
  case marked =>
    rw [abortWash_of_marked (s := s.abandonFrame p) hr h] at hserve
    exact exec_of_unchanged (c := .bayAbort p n) rfl hs hserve
  case kept =>
    rw [hmark h, abortBySub_kept (s := s.abandonFrame p) hw hsub] at hserve
    exact exec_of_changed (c := .bayAbort p n) (t := s.marked b r .host) rfl hs hserve rfl rfl rfl rfl
  case run =>
    rw [hmark h, abortBySub_run (s := s.abandonFrame p) hw hsub] at hserve
    exact exec_of_changed (c := .bayAbort p n) rfl hs hserve rfl rfl rfl rfl
  case wait =>
    rw [hmark h, abortBySub_wait (s := s.abandonFrame p) hw hsub] at hserve
    obtain ⟨d, l, hexec, hd, hans, hkeep⟩ := exec_answered (c := .bayAbort p n) rfl hs hserve
    obtain ⟨haborted, _, hframe⟩ := waitAborted_of (r := { r with abort := .host }) (l := (s.abandonFrame p).links)
      hs.1 ho (recordVisit_of hr).symm (keepsLatch_abandonFrame s p _) rfl
    refine ⟨_, hexec, hans, haborted.keep rfl rfl rfl rfl hkeep, ?_⟩
    rw [show ((s.abandonFrame p).withdrawn b { r with abort := .host }).leaveWashing b = _ from hframe]

/-! ### E-stop (R89) -/

/-- A bay taken to FAULT out of a state, the sign then judged. -/
theorem exec_enterFault {c : Instr} {f : State → State} {st : BayState} (hc : exec c t = s.event f) (hs : s.Running)
    (hf : f s = m.enterFault b st) : ∃ t', exec c t = .next t' ∧
      t'.bays = m.bays.set b ((m.bays.get b).emptied .fault) ∧
      t'.water = { m.water with bayOpen := m.water.bayOpen &&& ~~~(1#6 <<< (bayNumber b - 1)) } ∧
      t'.Shows (.bayFault b st (m.recordVisit b)) ∧ t'.disp.lines = m.disp.lines ∧
      (∀ k, k ≠ .bayFault → m.KeepsLatch t' k) ∧
      t' = { m with bays := t'.bays, water := t'.water, disp := t'.disp, links := t'.links } := by
  obtain ⟨x, hx⟩ := enterFault_eq m b st
  obtain ⟨d, hexec, hd⟩ := event_settled hc hs (hf.trans hx)
  exact ⟨_, hexec, rfl, rfl, shows_latch _ _, by rw [hd]; rfl, fun k hk => keepsLatch_latch _ hk, rfl⟩

/-- The state of a called bay whose call an e-stop has ended. -/
def State.uncalled (s : State) (b : Bay) : State :=
  (match s.calledTo b with
    | some v => s.clearCall v
    | none => s).endCall b

theorem uncalled_bays (s : State) (b : Bay) : (s.uncalled b).bays =
    s.bays.set b { s.bays.get b with settle := none, call := none, record := none } := by
  rw [State.uncalled, endCall_bays]
  split <;> rfl

theorem uncalled_frame (s : State) (b : Bay) : s.uncalled b = { s with
    queue := (s.uncalled b).queue, bays := (s.uncalled b).bays, journal := (s.uncalled b).journal
    disp := (s.uncalled b).disp, links := (s.uncalled b).links } := by
  unfold State.uncalled
  split <;> simp [State.ext_iff]

theorem uncalled_called {v : Visit} (hs : s.part.phase = .running) (hv : s.calledTo b = some v) :
    (s.uncalled b).queue = s.queue.map (fun x => if x.number = v.number then { v with call := none } else x) ∧
      s.SlotReturned (s.uncalled b) ∧ (s.uncalled b).disp.lines = s.disp.lines.filter (fun l => l.bay ≠ b) := by
  have hrow : s.uncalled b = (s.clearCall v).endCall b := by
    rw [State.uncalled, hv]
  rw [hrow]
  refine ⟨by simp [State.clearCall, State.putVisit], ?_, by rw [endCall_disp]; rfl⟩
  exact (endCall_slot (s := s.clearCall v) hs).congr rfl (.refl _ _) rfl (.refl _ _) (.refl _ _)

theorem eStopAsserted_called (h : (s.bays.get b).state = .called) :
    s.eStopAsserted b = (s.uncalled b).enterFault b .called := by
  rw [State.eStopAsserted, h]
  rfl

theorem eStopAsserted_other (hf : (s.bays.get b).state ≠ .fault) (hw : (s.bays.get b).state ≠ .washing)
    (hc : (s.bays.get b).state ≠ .called) : s.eStopAsserted b = s.enterFault b (s.bays.get b).state := by
  unfold State.eStopAsserted
  split
  next h => rw [h]
  next h => rw [h]
  next h => exact absurd h hc
  next h => exact absurd h hw
  next h => rw [h]
  next h => exact absurd h hf

/-- Settles O36: out of a wash the bay empties into FAULT, in one the mark acts by the sub-state. -/
theorem eStopTakesBayToFault : Obligations.EStopTakesBayToFault := by
  refine ⟨fun b s => exec_eStopClear b s, fun b s s' u hs hu hs' => ?_⟩
  have hexec : exec (.eStopAssert b) s = s'.event fun s => s.eStopAsserted b := hs' ▸ exec_eStopAssert b s
  have hrun : s'.Running := hs' ▸ hs
  have hbay : s'.bays.get b = u := by rw [hs', hu]
  have hbays : s'.bays = s.bays := by rw [hs']
  have htime : s'.laneTime = s.laneTime := by rw [hs']; rfl
  have hclock : s'.clock = s.clock := by rw [hs']
  have hwash : ∀ r, u.state = .washing → u.record = some r →
      s'.eStopAsserted b = (s'.marked b r .eStop).abortBySub b := fun r hw hr => by
    have hrow : s'.eStopAsserted b = s'.eStopWash b := by
      rw [State.eStopAsserted, hbay, hw]
    exact hrow.trans (eStopWash_eq (hbay ▸ hr))
  refine ⟨fun hf => ?fault, fun hf hw => ?faulted, fun r hw hr hsub => ?run, fun r hw hr hsub => ?kept,
    fun r pg hw hr hsub ho => ?wait⟩
  case fault =>
    refine event_eq hexec hrun ?_ (.refl _)
    rw [State.eStopAsserted, hbay, hf]
  case faulted =>
    by_cases hc : u.state = .called
    · obtain ⟨t, ht, htb, htw, hshown, hlines, hkeep, hframe⟩ :=
        exec_enterFault hexec hrun (eStopAsserted_called (hbay ▸ hc))
      have hub := uncalled_bays s' b
      have huf := uncalled_frame s' b
      have hcalled := fun v hv => uncalled_called (b := b) (v := v) hrun.1 hv
      have hnone : (s'.uncalled b).recordVisit b = none := by
        simp [State.recordVisit, State.record, hub]
      have hj : t.journal = (s'.uncalled b).journal := by rw [hframe]
      have hq : t.queue = (s'.uncalled b).queue := by rw [hframe]
      have huw : (s'.uncalled b).water = s'.water := by rw [huf]
      rw [hub, perBay_set_set, perBay_get_self] at htb
      rw [huw] at htw
      rw [hnone] at hshown
      subst hs'
      subst hu
      refine ⟨t, ht, ?_, fun c hcb => ?_, htw, ?_, fun h => absurd hc h, fun v _ hv => ?_, ?_⟩
      · rw [htb]
        exact perBay_get_self ..
      · rw [htb]
        exact perBay_get_other _ _ hcb
      · rw [if_pos hc, hc]
        exact hshown
      · obtain ⟨hqueue, hslot, hgone⟩ := hcalled v hv
        exact ⟨hq.trans hqueue, hslot.congr rfl (.refl s _) hj (hkeep _ nofun) (hkeep _ nofun), hlines.trans hgone⟩
      · rw [hframe, huf]
    · obtain ⟨t, ht, htb, htw, hshown, hlines, hkeep, hframe⟩ :=
        exec_enterFault hexec hrun (eStopAsserted_other (hbay ▸ hf) (hbay ▸ hw) (hbay ▸ hc))
      have hj : t.journal = s'.journal := by rw [hframe]
      have hq : t.queue = s'.queue := by rw [hframe]
      subst hs'
      subst hu
      refine ⟨t, ht, ?_, fun c hcb => ?_, htw, ?_, fun _ => ⟨hq, hj, hlines⟩, fun v h => absurd h hc, ?_⟩
      · rw [htb]
        exact perBay_get_self ..
      · rw [htb]
        exact perBay_get_other _ _ hcb
      · rw [if_neg hc]
        exact hshown
      · rw [hframe]
  case run =>
    refine event_eq hexec hrun ((hwash r hw hr).trans ((abortBySub_run (hbay ▸ hw) hsub).trans ?_)) (sameSign_bays ..)
    rw [hbay, hbays, htime]
  case kept =>
    refine event_eq hexec hrun ((hwash r hw hr).trans ((abortBySub_kept (hbay ▸ hw) hsub).trans ?_)) (sameSign_bays ..)
    rw [State.marked, hbay, hbays]
  case wait =>
    have hopen : s'.journal.openPage = some pg := by rw [hs']; exact ho
    obtain ⟨t, ht, haborted, hframe⟩ := exec_waitAborted hexec hrun (hbay ▸ hr) hopen
      ((hwash r hw hr).trans (abortBySub_wait (hbay ▸ hw) hsub))
    rw [hclock] at haborted
    exact ⟨t, ht, haborted, hframe⟩

end Sys2Proof.Machine
end

section
/-! The claims of a wash (R81 to R83, R104 to R107): entry into RUN, grants, a phase skipped, the bay timers and the
answer to a claim. -/

namespace Sys2Proof.Machine

variable {s t m : State} {b : Bay} {k : EventKind} {pg : PageNo} {r : WorkRecord} {ph : PhaseTerms} {e : PhaseEntry}

/-! ### The moves after a phase (R82, R87) -/

theorem nextPhase_later (hr : (s.bays.get b).record = some r) (h : r.phase < r.terms.phases.length) :
    s.nextPhase b = { s with
      bays := s.bays.set b { s.bays.get b with record := some (s.claimed (r.phase + 1) r) } } := by
  have hrec : s.record b = some r := hr
  rw [State.nextPhase, hrec]
  exact (if_pos h).trans (modRecord_eq hr _)

theorem nextPhase_last (hr : (s.bays.get b).record = some r) (h : r.terms.phases.length ≤ r.phase) :
    s.nextPhase b = s.leaveWashing b := by
  have hrec : s.record b = some r := hr
  rw [State.nextPhase, hrec]
  exact if_neg (Nat.not_lt.2 h)

/-- The claim of a phase leaves the entries of the others. -/
theorem claimed_entry {k i : Nat} (h : i ≠ k - 1) : (s.claimed k r).entries[i]? = r.entries[i]? := by
  unfold State.claimed
  split
  · rfl
  · exact List.getElem?_modify_ne _ _ h.symm

/-- The work record with its phase SKIPPED. -/
def WorkRecord.skipped (r : WorkRecord) : WorkRecord :=
  { r with entries := r.entries.modify (r.phase - 1) fun e => { e with status := .skipped, lb := 0, lf := 0, fk := 0 } }

theorem skipPhase_eq (hr : (s.bays.get b).record = some r) : s.skipPhase b =
    State.nextPhase ((s.withdrawn b r.skipped).latch (.phaseSkipped b r.visitNumber r.phase)) b := by
  have hrec : s.record b = some r := hr
  rw [State.skipPhase, hrec]
  have hwait : ((s.withdraw b).bays.get b).record = some r := (congrArg BayUnit.record (perBay_get_self ..)).trans hr
  refine congrArg (fun x => State.nextPhase (State.latch x _) b) ?_
  rw [modRecord_eq hwait, withdraw_eq]
  simp only [perBay_get_self, perBay_set_set]
  rfl

theorem withdrawn_record (s : State) (b : Bay) (r : WorkRecord) (l : PerPort Link) :
    ((State.bays { s.withdrawn b r with links := l }).get b).record = some r := congrArg BayUnit.record (perBay_get_self ..)

/-- A phase skipped, with a later one. -/
theorem skipPhase_later (hr : (s.bays.get b).record = some r) (h : r.phase < r.terms.phases.length) :
    s.skipPhase b = State.latch { s with
      water := { s.water with waits := s.water.waits.filter fun x => x.bay ≠ b }
      bays := s.bays.set b { s.bays.get b with wait := none, record := some (s.claimed (r.phase + 1) r.skipped) } }
      (.phaseSkipped b r.visitNumber r.phase) := by
  rw [skipPhase_eq hr]
  have hbay : (State.bays (State.latch (s.withdrawn b r.skipped) (.phaseSkipped b r.visitNumber r.phase))).get b =
      { s.bays.get b with wait := none, record := some r.skipped } := perBay_get_self ..
  refine (nextPhase_later (congrArg BayUnit.record hbay) (by exact h)).trans ?_
  rw [hbay]
  simp only [State.latch, State.withdrawn, perBay_set_set]
  rfl

/-- What a skipped phase, with a later one, leaves in the record. -/
theorem claimed_skipped (s : State) (r : WorkRecord) : (s.claimed (r.phase + 1) r.skipped).phase = r.phase + 1 ∧
    (s.claimed (r.phase + 1) r.skipped).sub = .claim ∧ (s.claimed (r.phase + 1) r.skipped).abort = r.abort ∧
    (∀ e, 1 ≤ r.phase → r.entries[r.phase - 1]? = some e → (s.claimed (r.phase + 1) r.skipped).entries[r.phase - 1]? =
      some { e with status := .skipped, lb := 0, lf := 0, fk := 0 }) ∧
    ∀ ph, r.terms.phases[r.phase]? = some ph →
      s.claimed (r.phase + 1) r.skipped = s.claimRecord r.skipped ph (r.phase + 1) := by
  refine ⟨by rw [claimed_place], by rw [claimed_place], by rw [claimed_place]; rfl, fun e h he => ?_,
    fun ph hph => claimed_eq hph⟩
  rw [claimed_entry (by omega), WorkRecord.skipped, List.getElem?_modify_eq, he]
  rfl

/-! ### The bay timers (R82, R84, R92) -/

/-- Settles O38: each timer where it runs, the water wait with a later phase or at the last. -/
theorem bayTimersExpire : Obligations.BayTimersExpire := by
  refine ⟨fun b s u hs hu => ⟨fun hno => ?limitIdle, fun r d hw hr hsub hd => ?limit, fun hno => ?exitIdle,
    fun d n hst hd hn => ?exit⟩, fun b s r d hs hw hr hsub hd hlt => ?later, fun b s r r' d pg hs hw hr hsub hd ha hle ho hr' => ?last⟩
  case limitIdle =>
    refine event_eq (exec_timeLimitExpiry b s) hs (if_neg fun h => ?_) (.refl _)
    rcases hno with hno | hno
    · exact hno h.1
    · exact absurd h.2 (by rw [← hu, hno]; nofun)
  case limit =>
    subst hu
    refine event_eq (exec_timeLimitExpiry b s) hs ((if_pos ⟨?_, ?_⟩).trans (endRun_eq hr .short)) (sameSign_bays ..)
    · rw [subState_of_washing hw hr, hsub]
    · rw [hd]
      rfl
  case exitIdle =>
    refine event_eq (exec_exitTimerExpiry b s) hs (if_neg fun h => ?_) (.refl _)
    rcases hno with hno | hno
    · exact hno (hu ▸ h.1)
    · exact absurd h.2 (by rw [← hu, hno]; nofun)
  case exit =>
    subst hu
    refine event_eq (exec_exitTimerExpiry b s) hs ((if_pos ⟨hst, ?_⟩).trans ?_) ((sameSign_bays ..).trans (sameSign_latch ..))
    · rw [hn]
      rfl
    · rw [hd]
      rfl
  all_goals
    have hskip : s.waitExpired b = s.skipPhase b := by
      rw [State.waitExpired, subState_of_washing hw hr, hsub, hd]
      exact if_pos ⟨rfl, rfl⟩
  case later =>
    obtain ⟨hphase, hclaim, habort, hentry, hrow⟩ := claimed_skipped s r
    exact ⟨_, s.claimed (r.phase + 1) r.skipped, event_eq (exec_waterWaitExpiry b s) hs (hskip.trans (skipPhase_later hr hlt))
      ⟨rfl, rfl, rfl⟩, rfl, perBay_get_self .., hphase, hclaim, habort, hentry, hrow, shows_latch _ _,
      fun c hc => perBay_get_other _ _ hc, rfl⟩
  case last =>
    have hleave := hskip.trans ((skipPhase_eq hr).trans (nextPhase_last
      (congrArg BayUnit.record (perBay_get_self ..)) (by exact hle)))
    obtain ⟨haborted, hkeep, hframe⟩ := waitAborted_of (r := r.skipped)
      (l := (s.latch (.phaseSkipped b r.visitNumber r.phase)).links) hs.1 ho (recordVisit_of hr).symm
      (keepsLatch_latch s nofun) rfl
    have hshown : State.Shows { s with links := (s.latch (.phaseSkipped b r.visitNumber r.phase)).links }
      (.phaseSkipped b r.visitNumber r.phase) := shows_latch s _
    obtain ⟨d', hexec, _⟩ := event_settled (exec_waterWaitExpiry b s) hs hleave
    subst hr'
    exact ⟨_, hexec, haborted, hshown.keep (hkeep _ nofun nofun nofun nofun nofun),
      congrArg (fun x : State => { x with disp := d' }) hframe⟩

/-! ### RUN and grants (R83, R106, R107) -/

/-- A bay as entry into RUN of a phase leaves it, at a share and with its record as given (R83). -/
def State.ranBay (s : State) (u : BayUnit) (ph : PhaseTerms) (share : Nat) (r : WorkRecord) : BayUnit :=
  { u with
    dose := BitVec.ofNat 16 (65536 - ph.dose), blend := share, supply := true, pumpPos := 0
    pumpDuty := if s.lines.supplyLow then ph.duty / 2 else ph.duty
    limit := some (s.laneTime + 1000 * ph.limit), wait := none, record := some { r with sub := .run } }

section
variable (hph : r.terms.phases[r.phase - 1]? = some ph)
include hph

theorem enterRun_eq (hr : (s.bays.get b).record = some r) (he : r.entries[r.phase - 1]? = some e) :
    s.enterRun b = { s with bays := s.bays.set b (s.ranBay (s.bays.get b) ph e.rPhase r) } := by
  have hrec : s.record b = some r := hr
  have hterms : r.phaseTerms = some ph := hph
  have hentry : r.entry = some e := he
  rw [State.enterRun, hrec]
  simp only [hterms, hentry, modBay_eq, BayUnit.run, hr, Option.map_some]
  rfl

/-- A grant: the litres out of FRESH_REMAIN, the claim outstanding, the bay in RUN. -/
theorem grant_eq (hr : (s.bays.get b).record = some r) (he : r.entries[r.phase - 1]? = some e) (n : Nat) :
    s.grant b n = { s with
      water := { s.water with fresh := s.water.fresh - n }
      bays := s.bays.set b (s.ranBay (s.bays.get b) ph e.rPhase { r with claim := n }) } := by
  have hclaim := modRecord_eq (s := s.modWater fun w => { w with fresh := w.fresh - n }) hr fun r => { r with claim := n }
  rw [State.grant, hclaim]
  refine (enterRun_eq (r := { r with claim := n }) hph (congrArg BayUnit.record (perBay_get_self ..)) he).trans ?_
  simp only [perBay_get_self, perBay_set_set, State.ranBay]
  rfl

end

/-- A first-fit pass over entries of which none fits. -/
theorem firstFitOver_of_none {l : List WaitEntry} (h : ∀ x ∈ l, s.water.fresh < x.estimate) :
    State.firstFitOver l s = s := by
  induction l with
  | nil => rfl
  | cons x l ih =>
    rw [State.firstFitOver, if_neg (Nat.not_le.2 (h x List.mem_cons_self))]
    exact ih fun y hy => h y (List.mem_cons_of_mem _ hy)

/-! ### The answer to a claim (R81, R82, R88, R105) -/

theorem estimate_eq (dose share : Nat) : estimate dose share = (dose * (256 - share) + 255) / 256 := by
  unfold estimate divUp
  generalize dose * (256 - share) = n
  omega

/-- A bay that waits for water, its record as WAIT leaves it. -/
def State.waiting (s : State) (b : Bay) (r : WorkRecord) (n : Nat) : State :=
  State.latch { s with
    water := { s.water with waits := s.water.waits ++ [⟨b, n⟩] }
    bays := s.bays.set b { s.bays.get b with record := some { r with sub := .waterWait } } }
    (.waterWait b r.visitNumber r.phase n)

section
variable (hw : (s.bays.get b).state = .washing) (hr : (s.bays.get b).record = some r) (hsub : r.sub = .claim)
  (hph : r.terms.phases[r.phase - 1]? = some ph) (he : r.entries[r.phase - 1]? = some e)
include hw hr hsub hph he

theorem claimAnswer_eq : s.claimAnswer b = s.answerClaim b r ph e := by
  have hrec : s.record b = some r := hr
  have hterms : r.phaseTerms = some ph := hph
  have hentry : r.entry = some e := he
  rw [State.claimAnswer, subState_of_washing hw hr, hsub, if_pos rfl, hrec]
  simp only [hterms, hentry]

theorem claimAnswer_granted (ha : r.abort = .unmarked) (h : estimate ph.dose e.rPhase ≤ s.water.fresh) :
    s.claimAnswer b = s.grant b (estimate ph.dose e.rPhase) := by
  have hun : ¬ r.abort ≠ .unmarked := not_not.2 ha
  rw [claimAnswer_eq hw hr hsub hph he, State.answerClaim]
  simp only [h, if_true, hun, if_false]

theorem claimAnswer_degraded (ha : r.abort = .unmarked) (h : s.water.fresh < estimate ph.dose e.rPhase)
    (hshare : 0 < e.rPhase) (hsrc : ph.source = .reclaimPreferred) : s.claimAnswer b = { s with
      bays := s.bays.set b (s.ranBay (s.bays.get b) ph 256 { r with
        claim := 0
        entries := r.entries.modify (r.phase - 1) fun x => { x with rPhase := 256, degraded := true } }) } := by
  have hun : ¬ r.abort ≠ .unmarked := not_not.2 ha
  rw [claimAnswer_eq hw hr hsub hph he, State.answerClaim]
  simp only [Nat.not_le.2 h, if_false, hshare, hsrc, and_self, if_true, hun, modRecord_eq hr]
  refine (enterRun_eq (r := { r with
    claim := 0
    entries := r.entries.modify (r.phase - 1) fun x => { x with rPhase := 256, degraded := true } })
    (e := { e with rPhase := 256, degraded := true }) hph (congrArg BayUnit.record (perBay_get_self ..)) ?_).trans ?_
  · simp [he]
  · simp only [perBay_get_self, perBay_set_set, State.ranBay]
    rfl

theorem claimAnswer_waits (ha : r.abort = .unmarked) (h : s.water.fresh < estimate ph.dose e.rPhase)
    (hno : e.rPhase = 0 ∨ ph.source = .freshOnly) : s.claimAnswer b =
      if s.active.waterWaitLimit = 0 then (s.waiting b r (estimate ph.dose e.rPhase)).skipPhase b
      else (s.waiting b r (estimate ph.dose e.rPhase)).modBay b fun u => { u with
        wait := some (s.laneTime + 1000 * s.active.waterWaitLimit) } := by
  have hnot : ¬ (0 < e.rPhase ∧ ph.source = .reclaimPreferred) := fun hboth => by
    rcases hno with hno | hno
    · omega
    · exact absurd (hno.symm.trans hboth.2) nofun
  have hrec := modRecord_eq (s := s.modWater fun w => { w with waits := w.waits ++ [⟨b, estimate ph.dose e.rPhase⟩] }) hr
    fun r => { r with sub := .waterWait }
  have hun : ¬ r.abort ≠ .unmarked := not_not.2 ha
  rw [claimAnswer_eq hw hr hsub hph he, State.answerClaim]
  simp only [Nat.not_le.2 h, if_false, hnot, hun, hrec]
  rfl

end

/-! ### A wait with a limit of 0, and a claim under a mark (R82, R88) -/

theorem claimed_of_sub (s : State) (k : Nat) (r : WorkRecord) (x : SubState) :
    s.claimed k { r with sub := x } = s.claimed k r := by
  cases h : r.terms.phases[k - 1]? <;> simp only [State.claimed, h]

theorem waits_filter_own (l : List WaitEntry) (b : Bay) (n : Nat) :
    (l ++ [WaitEntry.mk b n]).filter (fun x => x.bay ≠ b) = l.filter fun x => x.bay ≠ b := by
  simp

/-- A wait skipped at once, with a later phase. -/
theorem waiting_skip_later (n : Nat) (h : r.phase < r.terms.phases.length) :
    (s.waiting b r n).skipPhase b = State.latch (State.latch { s with
      water := { s.water with waits := s.water.waits.filter fun x => x.bay ≠ b }
      bays := s.bays.set b { s.bays.get b with wait := none, record := some (s.claimed (r.phase + 1) r.skipped) } }
      (.waterWait b r.visitNumber r.phase n)) (.phaseSkipped b r.visitNumber r.phase) := by
  have hbay : (s.waiting b r n).bays.get b = { s.bays.get b with record := some { r with sub := .waterWait } } :=
    perBay_get_self ..
  refine (skipPhase_later (congrArg BayUnit.record hbay) (by exact h)).trans ?_
  have hclaim : (s.waiting b r n).claimed (r.phase + 1) (WorkRecord.skipped { r with sub := .waterWait }) =
      s.claimed (r.phase + 1) r.skipped := claimed_of_sub s _ r.skipped _
  rw [hbay, hclaim, State.waiting]
  simp only [State.latch, waits_filter_own, perBay_set_set]
  rfl

/-- A wait skipped at once at the last phase: charged, and its bay left. -/
theorem waiting_skip_last (hs : s.part.phase = .running) (hr : (s.bays.get b).record = some r) (n : Nat)
    (h : r.terms.phases.length ≤ r.phase) (ht : t = (s.waiting b r n).skipPhase b) :
    t.Shows (.waterWait b r.visitNumber r.phase n) ∧ t.Shows (.phaseSkipped b r.visitNumber r.phase) ∧
      (∀ pg, s.journal.openPage = some pg → s.WaitAborted t pg b { r.skipped with endTime := some s.clock.time }) ∧
      t = { s with water := t.water, bays := t.bays, journal := t.journal, clock := t.clock, disp := t.disp,
                   links := t.links } := by
  have hbay : (s.waiting b r n).bays.get b = { s.bays.get b with record := some { r with sub := .waterWait } } :=
    perBay_get_self ..
  have hleave := (skipPhase_eq (congrArg BayUnit.record hbay)).trans (nextPhase_last
    (congrArg BayUnit.record (perBay_get_self ..)) (by exact h))
  generalize hm : State.latch ((s.waiting b r n).withdrawn b (WorkRecord.skipped { r with sub := .waterWait }))
    (.phaseSkipped b (WorkRecord.visitNumber { r with sub := .waterWait }) r.phase) = m at hleave
  have hbays : m.bays = s.bays.set b { s.bays.get b with
      wait := none, record := some (WorkRecord.skipped { r with sub := .waterWait }) } := by
    rw [← hm]
    simp only [State.latch, State.withdrawn, State.waiting, perBay_get_self, perBay_set_set]
  have hmb : m.bays.get b = _ := (congrArg (PerBay.get · b) hbays).trans (perBay_get_self ..)
  have hshown : m.Shows (.phaseSkipped b r.visitNumber r.phase) := hm ▸ shows_latch _ _
  have hwait : m.Shows (.waterWait b r.visitNumber r.phase n) := hm ▸ (shows_latch _ _).latch nofun
  have hwater : m.water = { s.water with waits := s.water.waits.filter fun x => x.bay ≠ b } := by
    rw [← hm]
    simp only [State.latch, State.withdrawn, State.waiting, waits_filter_own]
  have hclock : m.clock = s.clock := hm ▸ rfl
  have hkept : s.KeepsLatch m .journalLow := by
    rw [← hm]
    refine State.KeepsLatch.latch ?_ _ nofun
    exact keepsLatch_latch s (e := .waterWait b r.visitNumber r.phase n) nofun
  have hframe : m = { s with
      water := { m.water with bayOpen := s.water.bayOpen }, bays := m.bays
      clock := { s.clock with acc := m.clock.acc }, links := m.links } := by
    rw [← hm]
    rfl
  obtain ⟨hcharged, hleft, htw, hnone, _, hkeep, htf⟩ := leaveWashing_done hs hframe (congrArg BayUnit.record hmb)
    (recordVisit_of hr).symm (fun c hc => by rw [hbays, perBay_get_other _ _ hc]) hkept (ht.trans hleave)
  refine ⟨hwait.keep (hkeep _ nofun nofun nofun nofun nofun), hshown.keep (hkeep _ nofun nofun nofun nofun nofun),
    fun pg ho => ⟨?_, hleft, hnone (congrArg BayUnit.wait hmb), ?_⟩, htf⟩
  · rw [hclock] at hcharged
    exact (hcharged pg ho).congr rfl rfl (.refl _ _) rfl rfl rfl rfl rfl fun k _ => .refl _ k
  · rw [htw, hwater]

/-- A claim granted and given back at once: FRESH_REMAIN is as before, and no waiting bay is served. -/
theorem settleClaim_given_back (hr : (s.bays.get b).record = some r) {n : Nat} (h : n ≤ s.water.fresh)
    (hbound : s.water.fresh ≤ 262143) (hwaits : ∀ x ∈ s.water.waits, s.water.fresh < x.estimate) :
    State.settleClaim (((s.modWater fun w => { w with fresh := w.fresh - n }).modRecord b fun r => { r with claim := n }))
      b n 0 = { s with bays := s.bays.set b { s.bays.get b with record := some { r with claim := 0 } } } := by
  have hclaim := modRecord_eq (s := s.modWater fun w => { w with fresh := w.fresh - n }) hr fun r => { r with claim := n }
  have hzero := modRecord_eq (s := (s.modWater fun w => { w with fresh := w.fresh - n }).modRecord b
    fun r => { r with claim := n }) (r := { r with claim := n }) (b := b)
    (by rw [hclaim]; exact congrArg BayUnit.record (perBay_get_self ..)) fun r => { r with claim := 0 }
  rw [State.settleClaim, hzero, hclaim]
  simp only [perBay_get_self, perBay_set_set]
  by_cases hn : 0 < n
  · have hback : satAdd Config.maxLitres (s.water.fresh - n) (n - 0) = s.water.fresh := by
      unfold satAdd Config.maxLitres
      omega
    rw [if_pos hn]
    refine (firstFitOver_of_none (fun x hx => ?_)).trans ?_
    · exact (congrArg (· < x.estimate) hback).mpr (hwaits x hx)
    · simp only [State.modWater, hback]
  · obtain rfl : n = 0 := by omega
    rw [if_neg hn, if_pos (Nat.zero_le _)]
    rfl

/-- The state in which a wash leaves from a claim under a mark: its phase NOT-REACHED, R_phase 0. -/
def State.givenUp (s : State) (b : Bay) (r : WorkRecord) (c : Nat) : State :=
  { s with
    bays := s.bays.set b { s.bays.get b with record := some { r with
      claim := c, entries := r.entries.modify (r.phase - 1) fun x => { x with rPhase := 0, degraded := false } } } }

/-- A claim answered under an abort mark: no water kept, and the wash charged. -/
theorem claimAnswer_marked (hw : (s.bays.get b).state = .washing) (hr : (s.bays.get b).record = some r)
    (hsub : r.sub = .claim) (hph : r.terms.phases[r.phase - 1]? = some ph) (he : r.entries[r.phase - 1]? = some e)
    (ha : r.abort ≠ .unmarked) (hbound : s.water.fresh ≤ 262143)
    (hwaits : ∀ x ∈ s.water.waits, s.water.fresh < x.estimate) : ∃ c, s.claimAnswer b = (s.givenUp b r c).leaveWashing b := by
  have hleave : s.leaveClaim b = (s.givenUp b r r.claim).leaveWashing b :=
    congrArg (State.leaveWashing · b) (modRecord_eq hr _)
  rw [claimAnswer_eq hw hr hsub hph he, State.answerClaim]
  by_cases hfit : estimate ph.dose e.rPhase ≤ s.water.fresh
  · refine ⟨0, ?_⟩
    simp only [hfit, if_true, ha, ne_eq, not_false_eq_true, settleClaim_given_back hr hfit hbound hwaits]
    refine congrArg (State.leaveWashing · b) ((modRecord_eq (r := { r with claim := 0 })
      (congrArg BayUnit.record (perBay_get_self ..)) _).trans ?_)
    simp only [perBay_get_self, perBay_set_set]
    rfl
  · refine ⟨r.claim, ?_⟩
    simp only [hfit, if_false, ha, ne_eq, not_false_eq_true, if_true]
    split <;> exact hleave

/-- Settles O39: unmarked by the estimate and the share, marked always charged. -/
theorem claimAnswerDecides : Obligations.ClaimAnswerDecides := by
  refine ⟨fun b s u r ph e est run hs hu hw hr hsub ha hph he hest hrun => ?unmarked,
    fun b s r r' ph e hs hw hr hsub ha hph he hwaits hbound hr' => ?marked⟩
  case unmarked =>
    subst hu
    obtain rfl : est = estimate ph.dose e.rPhase := hest.trans (estimate_eq _ _).symm
    have hbay : ∀ share x, run share x = s.ranBay (s.bays.get b) ph share x := fun share x => by rw [hrun]; rfl
    clear hrun hest
    simp only [hbay]
    have hexec := exec_claimAnswer b s
    refine ⟨fun h => ?granted, fun h hshare hsrc => ?degraded, fun h hno hlim => ?waits, fun h hno hlim hphase => ?skips⟩
    case granted =>
      exact event_eq hexec hs ((claimAnswer_granted hw hr hsub hph he ha h).trans (grant_eq hph hr he _)) ⟨rfl, rfl, rfl⟩
    case degraded =>
      exact event_eq hexec hs (claimAnswer_degraded hw hr hsub hph he ha h hshare hsrc) (sameSign_bays ..)
    case waits =>
      refine event_eq hexec hs ((claimAnswer_waits hw hr hsub hph he ha h hno).trans ((if_neg hlim).trans ?_)) ⟨rfl, rfl, rfl⟩
      simp only [State.waiting, modBay_eq, State.latch, perBay_get_self, perBay_set_set]
    case skips =>
      have hrow := (claimAnswer_waits hw hr hsub hph he ha h hno).trans (if_pos hlim)
      by_cases hlast : r.phase < r.terms.phases.length
      · obtain ⟨hnext, hclaim, habort, hentry, hx⟩ := claimed_skipped s r
        refine ⟨_, event_eq hexec hs (hrow.trans (waiting_skip_later _ hlast)) ⟨rfl, rfl, rfl⟩,
          (shows_latch _ _).latch nofun, shows_latch _ _, fun _ => ⟨_, rfl, hnext, hclaim, habort.trans ha,
            hentry e hphase he, hx, rfl, rfl⟩, fun pg hle => absurd hle (Nat.not_le.2 hlast)⟩
      · obtain ⟨hwait, hshown, haborted, hframe⟩ := waiting_skip_last hs.1 hr (estimate ph.dose e.rPhase)
          (Nat.not_lt.1 hlast) rfl
        obtain ⟨d, hd, _⟩ := event_settled hexec hs hrow
        exact ⟨_, hd, hwait, hshown, fun hlt => absurd hlt hlast, fun pg _ ho => ⟨haborted pg ho,
          congrArg (fun x : State => { x with disp := d }) hframe⟩⟩
  case marked =>
    obtain ⟨c, hrow⟩ := claimAnswer_marked hw hr hsub hph he ha hbound hwaits
    obtain ⟨d, hd, _⟩ := event_settled (exec_claimAnswer b s) hs hrow
    obtain ⟨hcharged, hleft, hwater, _, _, hkeep, hframe⟩ := leaveWashing_done (m := s.givenUp b r c) hs.1
      rfl (congrArg BayUnit.record (perBay_get_self ..)) (recordVisit_of hr).symm
      (fun x hx => perBay_get_other _ _ hx) (.refl s _) rfl
    subst hr'
    exact ⟨_, hd, fun pg ho => (hcharged pg ho).congr rfl rfl (.refl _ _) rfl rfl rfl rfl rfl fun k _ => .refl _ k,
      hleft, hwater, hkeep _ nofun nofun nofun nofun nofun, hkeep _ nofun nofun nofun nofun nofun,
      congrArg (fun x : State => { x with disp := d }) hframe⟩

end Sys2Proof.Machine
end

section
/-! The end of the run-on window (R87): the settlement with its overdraw and its first-fit pass (R107 to R109), and the
next phase or the charge that follows. -/

namespace Sys2Proof.Machine

variable {s t m : State} {b c : Bay} {k : EventKind} {pg : PageNo} {r q : WorkRecord} {e h : PhaseEntry} {f n : Nat}

/-! ### The settlement (R108, R109) -/

/-- The work record as a settlement of its phase leaves it. -/
def WorkRecord.settled (r : WorkRecord) (f : Nat) : WorkRecord :=
  { r with claim := 0, entries := r.entries.modify (r.phase - 1) fun x => { x with fk := f } }

/-- FRESH_REMAIN after a settlement. -/
def State.freshSettled (s : State) (claim f : Nat) : Nat :=
  if f < claim then min 262143 (s.water.fresh + (claim - f)) else s.water.fresh - (f - claim)

/-- OVERDRAW after a settlement. -/
def State.overdrawSettled (s : State) (claim f : Nat) : Nat :=
  if claim + s.water.fresh < f then min 262143 (s.water.overdraw + (f - claim - s.water.fresh)) else s.water.overdraw

/-- The state in which the run-on window of a bay has ended and its phase is settled, before any first-fit pass. -/
def State.windowSettled (s : State) (b : Bay) (r : WorkRecord) (f : Nat) : State :=
  let t : State := { s with
    water := { s.water with fresh := s.freshSettled r.claim f, overdraw := s.overdrawSettled r.claim f }
    bays := s.bays.set b { s.bays.get b with
      runOnTimer := none, runOn := 0, spilled := false, record := some (r.settled f) }
    clock := { s.clock with acc := s.accSettled r.claim f } }
  if s.shortfall r.claim f = 0 then t
  else t.latch (.overdraw b r.visitNumber r.phase (s.shortfall r.claim f)
    (min 262143 (s.water.overdraw + s.shortfall r.claim f)))

theorem windowSettled_links (s : State) (b : Bay) (r : WorkRecord) (f : Nat) : ∃ l, s.windowSettled b r f = { s with
    water := { s.water with fresh := s.freshSettled r.claim f, overdraw := s.overdrawSettled r.claim f }
    bays := s.bays.set b { s.bays.get b with
      runOnTimer := none, runOn := 0, spilled := false, record := some (r.settled f) }
    clock := { s.clock with acc := s.accSettled r.claim f }, links := l } := by
  unfold State.windowSettled
  dsimp only
  split
  · exact ⟨s.links, rfl⟩
  · exact ⟨_, rfl⟩

theorem windowSettled_overdraw (s : State) (b : Bay) (r : WorkRecord) (f : Nat) :
    s.OverdrawLatched (s.windowSettled b r f) b r f := by
  unfold State.OverdrawLatched State.windowSettled
  dsimp only
  refine ⟨fun hs => ?_, fun hs => ?_⟩
  · rw [if_neg hs]
    exact shows_latch _ _
  · rw [if_pos hs]
    exact .refl s _

theorem windowSettled_keepsLatch (s : State) (b : Bay) (r : WorkRecord) (f : Nat) (hk : k ≠ .overdraw) :
    s.KeepsLatch (s.windowSettled b r f) k := by
  unfold State.windowSettled
  dsimp only
  split
  · exact .refl s k
  · exact keepsLatch_latch _ hk

/-- The claim of a bay settled, the window's timer and counters cleared and F_k written. -/
theorem settleClaim_window (hr : (s.bays.get b).record = some r) :
    State.settleClaim ((s.modBay b fun u => { u with runOnTimer := none, runOn := 0, spilled := false }).modRecord b
      fun r => r.modEntry fun e => { e with fk := f }) b r.claim f =
      if f < r.claim then (s.windowSettled b r f).firstFit else s.windowSettled b r f := by
  have hwritten := modRecord_eq (s := s.modBay b fun u => { u with runOnTimer := none, runOn := 0, spilled := false })
    ((congrArg BayUnit.record (perBay_get_self ..)).trans hr) fun r => r.modEntry fun e => { e with fk := f }
  have hzero : ((s.modBay b fun u => { u with runOnTimer := none, runOn := 0, spilled := false }).modRecord b
      fun r => r.modEntry fun e => { e with fk := f }).modRecord b (fun r => { r with claim := 0 }) =
        { s with bays := s.bays.set b { s.bays.get b with
          runOnTimer := none, runOn := 0, spilled := false, record := some (r.settled f) } } := by
    rw [hwritten]
    refine (modRecord_eq (congrArg BayUnit.record (perBay_get_self ..)) _).trans ?_
    simp only [modBay_eq, perBay_get_self, perBay_set_set]
    rfl
  rw [State.settleClaim, hzero, hwritten]
  by_cases hlt : f < r.claim
  · have hno : s.shortfall r.claim f = 0 := by
      unfold State.shortfall
      omega
    rw [if_pos hlt, if_pos hlt, State.windowSettled, if_pos hno]
    refine congrArg State.firstFit ?_
    simp only [State.freshSettled, hlt, if_true, State.overdrawSettled, State.accSettled, hno,
      show ¬ r.claim + s.water.fresh < f by omega, if_false]
    rfl
  · rw [if_neg hlt, if_neg hlt]
    by_cases hfit : f - r.claim ≤ s.water.fresh
    · have hno : s.shortfall r.claim f = 0 := by
        unfold State.shortfall
        omega
      refine (if_pos (by exact hfit)).trans ?_
      rw [State.windowSettled, if_pos hno]
      simp only [State.freshSettled, hlt, if_false, State.overdrawSettled, State.accSettled, hno, if_true,
        show ¬ r.claim + s.water.fresh < f by omega]
      rfl
    · have hshort : s.shortfall r.claim f = f - r.claim - s.water.fresh := by
        unfold State.shortfall
        omega
      have hover : s.shortfall r.claim f ≠ 0 := by omega
      refine (if_neg (by exact hfit)).trans ?_
      have hzerofresh : s.water.fresh - (f - r.claim) = 0 := by omega
      have hacc : s.accSettled r.claim f = s.clock.acc.raised 0 0 0 0 (f - r.claim - s.water.fresh) := by
        rw [State.accSettled, if_neg hover, hshort]
      have hrec : ∀ u : BayUnit, State.record { s with bays := s.bays.set b u } b = u.record := fun u =>
        congrArg BayUnit.record (perBay_get_self ..)
      rw [State.windowSettled, if_neg hover, hacc, hshort, State.freshSettled, State.overdrawSettled, if_neg hlt,
        if_pos (by omega), hzerofresh, State.overdrawBy, hrec]
      rfl

/-- The end of the run-on window: the settlement, a first-fit pass where litres come back, and then the move. -/
theorem endRunOn_eq (hr : (s.bays.get b).record = some r) (he : r.entries[r.phase - 1]? = some e)
    (hf : f = (e.lb * (256 - e.rPhase) + 255) / 256 + e.lf) : s.endRunOn b =
      if r.abort = .unmarked then
        (if f < r.claim then (s.windowSettled b r f).firstFit else s.windowSettled b r f).nextPhase b
      else (if f < r.claim then (s.windowSettled b r f).firstFit else s.windowSettled b r f).leaveWashing b := by
  have hrec : s.record b = some r := hr
  have hentry : r.entry = some e := he
  have hfresh : freshLitres e.rPhase e.lb e.lf = f := by
    rw [hf, ← estimate_eq]
    rfl
  rw [State.endRunOn, hrec]
  simp only [hentry, hfresh, settleClaim_window hr]

theorem runOnExpired_eq {d : Nat} (hw : (s.bays.get b).state = .washing) (hr : (s.bays.get b).record = some r)
    (hsub : r.sub = .runOn) (hd : (s.bays.get b).runOnTimer = some d) : s.runOnExpired b = s.endRunOn b := by
  rw [State.runOnExpired, subState_of_washing hw hr, hsub, hd]
  exact if_pos ⟨rfl, rfl⟩

/-- With no bay waiting, the settlement alone. -/
theorem windowSettled_firstFit (hwaits : s.water.waits = []) :
    (if f < r.claim then (s.windowSettled b r f).firstFit else s.windowSettled b r f) = s.windowSettled b r f := by
  obtain ⟨l, hl⟩ := windowSettled_links s b r f
  have hempty : (s.windowSettled b r f).water.waits = [] := by rw [hl]; exact hwaits
  have hfirst : (s.windowSettled b r f).firstFit = s.windowSettled b r f := by
    rw [State.firstFit, hempty]
    rfl
  rw [hfirst, ite_self]

/-- The record of the bay whose window has ended. -/
theorem windowSettled_record (s : State) (b : Bay) (r : WorkRecord) (f : Nat) : (s.windowSettled b r f).bays.get b =
    { s.bays.get b with runOnTimer := none, runOn := 0, spilled := false, record := some (r.settled f) } := by
  obtain ⟨l, hl⟩ := windowSettled_links s b r f
  rw [hl]
  exact perBay_get_self ..

/-! ### The end of the wash -/

/-- Settles O41: the settlement, then the wash charged and its bay left. -/
theorem runOnExpiryChargesWash : Obligations.RunOnExpiryChargesWash := by
  intro b s r r' e d f pg hs hw hr hsub hd he hwaits hlast hf ho hr'
  have hmove : s.runOnExpired b = (s.windowSettled b r f).leaveWashing b := by
    rw [runOnExpired_eq hw hr hsub hd, endRunOn_eq hr he hf, windowSettled_firstFit hwaits]
    split
    next hun =>
      exact nextPhase_last (congrArg BayUnit.record (windowSettled_record s b r f))
        (hlast.resolve_left fun hmarked => hmarked hun)
    next => rfl
  obtain ⟨l, hl⟩ := windowSettled_links s b r f
  have hrecord := windowSettled_record s b r f
  obtain ⟨x, hx, _⟩ := event_settled (exec_runOnExpiry b s) hs hmove
  obtain ⟨hcharged, hleft, hwater, _, htimer, hkeep, hframe⟩ := leaveWashing_done (m := s.windowSettled b r f) hs.1
    (by rw [hl]) (congrArg BayUnit.record hrecord) (recordVisit_of hr).symm
    (fun c hc => by rw [hl]; exact perBay_get_other _ _ hc) (windowSettled_keepsLatch s b r f nofun) rfl
  have hacc : (s.windowSettled b r f).clock.acc = s.accSettled r.claim f := by rw [hl]
  have hmw : (s.windowSettled b r f).water = { s.water with
    fresh := s.freshSettled r.claim f, overdraw := s.overdrawSettled r.claim f } := by rw [hl]
  rw [hacc] at hcharged
  rw [hmw] at hwater
  have hover := windowSettled_overdraw s b r f
  have hlatch := hkeep .overdraw nofun nofun nofun nofun nofun
  subst hr'
  exact ⟨_, hx, hcharged pg ho, hleft, ⟨fun h => State.Shows.keep (e := .overdraw ..) (hover.1 h) hlatch,
    fun h => (hover.2 h).trans hlatch⟩, htimer (congrArg BayUnit.runOnTimer hrecord), hwater,
    congrArg (fun y : State => { y with disp := x }) hframe⟩

/-! ### The next phase -/

/-- The move to the next phase from a state that has settled the window, whatever a first-fit pass has made of the other
bays: the state, and what is read of it. -/
theorem nextPhase_settled {nx : PhaseTerms} {x : PerBay BayUnit} {w : Resources} (hnx : r.terms.phases[r.phase]? = some nx)
    (hb : x.get b = { s.bays.get b with
      runOnTimer := none, runOn := 0, spilled := false, record := some (r.settled f) }) {a : Totals} {l : PerPort Link} :
    State.nextPhase { s with water := w, bays := x, clock := { s.clock with acc := a }, links := l } b = { s with
      water := w, clock := { s.clock with acc := a }, links := l
      bays := x.set b { s.bays.get b with
        runOnTimer := none, runOn := 0, spilled := false
        record := some (s.claimRecord (r.settled f) nx (r.phase + 1)) } } := by
  have hlt : r.phase < r.terms.phases.length := (List.getElem?_eq_some_iff.1 hnx).1
  refine (nextPhase_later (r := r.settled f) (congrArg BayUnit.record hb) hlt).trans ?_
  have hclaim : State.claimed { s with water := w, bays := x, clock := { s.clock with acc := a }, links := l } (r.phase + 1)
      (r.settled f) = s.claimRecord (r.settled f) nx (r.phase + 1) :=
    (claimed_congr (s := s) rfl rfl rfl _).trans (claimed_eq hnx)
  have hplace : (r.settled f).phase = r.phase := rfl
  rw [hplace, hclaim]
  simp only [hb]

/-- The grant to the only waiting bay, if its estimate fits. -/
theorem firstFit_one {ph : PhaseTerms} (hwaits : m.water.waits = [⟨c, n⟩]) (hn : n ≤ m.water.fresh)
    (hq : (m.bays.get c).record = some q) (hph : q.terms.phases[q.phase - 1]? = some ph)
    (hh : q.entries[q.phase - 1]? = some h) : m.firstFit = { m with
      water := { m.water with fresh := m.water.fresh - n, waits := [] }
      bays := m.bays.set c (m.ranBay (m.bays.get c) ph h.rPhase { q with claim := n }) } := by
  have hrow : m.firstFit = m.grantWaiter ⟨c, n⟩ := by
    rw [State.firstFit, hwaits, State.firstFitOver, if_pos hn]
    rfl
  have hrec : ((m.withdraw c).bays.get c).record = some q := (congrArg BayUnit.record (perBay_get_self ..)).trans hq
  have hnone : m.water.waits.filter (fun x => x.bay ≠ c) = [] := by
    rw [hwaits]
    simp
  rw [hrow, State.grantWaiter, grant_eq hph hrec hh, withdraw_eq, hnone]
  simp only [perBay_get_self, perBay_set_set]
  rfl

/-- The only waiting bay waits on if its estimate does not fit. -/
theorem firstFit_none (hwaits : m.water.waits = [⟨c, n⟩]) (hn : m.water.fresh < n) : m.firstFit = m := by
  refine firstFitOver_of_none fun x hx => ?_
  rw [hwaits, List.mem_singleton] at hx
  rw [hx]
  exact hn

/-- Settles O40: the settlement, the pass over the one waiting bay, and CLAIM of the next phase. -/
theorem runOnExpirySettlesPhase : Obligations.RunOnExpirySettlesPhase := by
  intro b s r r' nx e d f hs hw hr hsub hd he hun hphase hnx hf hr'
  have hmove : s.runOnExpired b =
      State.nextPhase (if f < r.claim then (s.windowSettled b r f).firstFit else s.windowSettled b r f) b := by
    rw [runOnExpired_eq hw hr hsub hd, endRunOn_eq hr he hf, if_pos hun]
  obtain ⟨l, hl⟩ := windowSettled_links s b r f
  have hover := windowSettled_overdraw s b r f
  have hr'' : s.claimRecord (r.settled f) nx (r.phase + 1) = r' := hr'.symm
  refine ⟨fun c n g q ph h hcb hwaits hcw hq hph hh hg => ?one, fun hwaits => ?none⟩
  case none =>
    rw [windowSettled_firstFit hwaits, hl, nextPhase_settled hnx (perBay_get_self ..), hr''] at hmove
    rw [hl] at hover
    refine ⟨_, event_eq (exec_runOnExpiry b s) hs hmove ⟨rfl, rfl, rfl⟩, rfl, rfl, perBay_get_self .., ?_, ?_, ?_, ?_, rfl,
      hover, fun c hc => ?_, rfl⟩
    · rw [hr']
      rfl
    · rw [hr']
      rfl
    · rw [hr']
      rfl
    · have hclaim := claimed_eq (s := s) (r := r.settled f) (k := r.phase + 1) hnx
      rw [← hr'', ← hclaim, claimed_entry (by omega), WorkRecord.settled, List.getElem?_modify_eq, he]
      rfl
    · exact (perBay_get_other _ _ hc).trans (perBay_get_other _ _ hc)
  case one =>
    have hexec : ∀ x w, x.get b = { s.bays.get b with
          runOnTimer := none, runOn := 0, spilled := false, record := some (r.settled f) } →
        (if f < r.claim then (s.windowSettled b r f).firstFit else s.windowSettled b r f) = { s with
          water := w, bays := x, clock := { s.clock with acc := s.accSettled r.claim f }, links := l } →
        w.bayOpen = s.water.bayOpen → exec (.runOnExpiry b) s = .next { s with
          water := w, clock := { s.clock with acc := s.accSettled r.claim f }, links := l
          bays := x.set b { s.bays.get b with
            runOnTimer := none, runOn := 0, spilled := false, record := some r' } } := fun x w hb hy hopen => by
      rw [hy, nextPhase_settled hnx hb, hr''] at hmove
      exact event_eq (exec_runOnExpiry b s) hs hmove ⟨rfl, rfl, by simp only [State.signStatus, hopen]⟩
    have hsub' : ∀ t : State, t.bays.get b = { s.bays.get b with
        runOnTimer := none, runOn := 0, spilled := false, record := some r' } → t.subState b = .claim := fun t ht => by
      rw [subState_of_washing (r := r') (by rw [ht]; exact hw) (by rw [ht]), hr']
      rfl
    have hlinks : s.OverdrawLatched { s with links := l } b r f := by
      rw [hl] at hover
      exact hover
    by_cases hlt : f < r.claim
    · have hfresh : s.freshSettled r.claim f = g := hg ▸ if_pos hlt
      have hover' : s.overdrawSettled r.claim f = s.water.overdraw := if_neg (by omega)
      have hother : ∀ u : BayUnit, (s.bays.set b u).get c = s.bays.get c := fun u => perBay_get_other _ _ hcb
      by_cases hn : n ≤ g
      · have hgranted := firstFit_one (m := s.windowSettled b r f) (c := c) (n := n) (by rw [hl]; exact hwaits)
          (by rw [hl]; exact hfresh.symm ▸ hn) (by rw [hl]; exact (congrArg BayUnit.record (hother _)).trans hq) hph hh
        have hpass : (if f < r.claim then (s.windowSettled b r f).firstFit else s.windowSettled b r f) = { s with
            water := { s.water with fresh := g - n, waits := [] }
            bays := (s.bays.set b { s.bays.get b with
              runOnTimer := none, runOn := 0, spilled := false, record := some (r.settled f) }).set c
                (s.ranBay (s.bays.get c) ph h.rPhase { q with claim := n })
            clock := { s.clock with acc := s.accSettled r.claim f }, links := l } := by
          rw [if_pos hlt, hgranted, hl]
          simp only [hfresh, hover', hother]
          rfl
        refine ⟨_, hexec _ _ ((perBay_get_other _ _ hcb.symm).trans (perBay_get_self ..)) hpass rfl,
          hsub' _ (perBay_get_self ..), perBay_get_self .., fun _ _ => ⟨rfl, ?_⟩, fun _ h => absurd hn (Nat.not_le.2 h),
          fun h => absurd hlt (Nat.not_lt.2 h), rfl, hlinks, fun x hx hxc => ?_, rfl⟩
        · exact (perBay_get_other _ _ hcb).trans (perBay_get_self ..)
        · exact (perBay_get_other _ _ hx).trans ((perBay_get_other _ _ hxc).trans (perBay_get_other _ _ hx))
      · have hstay := firstFit_none (m := s.windowSettled b r f) (c := c) (n := n) (by rw [hl]; exact hwaits)
          (by rw [hl]; exact hfresh.symm ▸ Nat.not_le.1 hn)
        have hpass : (if f < r.claim then (s.windowSettled b r f).firstFit else s.windowSettled b r f) = { s with
            water := { s.water with fresh := g }
            bays := s.bays.set b { s.bays.get b with
              runOnTimer := none, runOn := 0, spilled := false, record := some (r.settled f) }
            clock := { s.clock with acc := s.accSettled r.claim f }, links := l } := by
          rw [if_pos hlt, hstay, hl, hfresh, hover']
        refine ⟨_, hexec _ _ (perBay_get_self ..) hpass rfl, hsub' _ (perBay_get_self ..), perBay_get_self ..,
          fun _ h => absurd h hn, fun _ _ => ⟨rfl, ?_⟩, fun h => absurd hlt (Nat.not_lt.2 h), rfl, hlinks,
          fun x hx _ => ?_, rfl⟩
        · exact (perBay_get_other _ _ hcb).trans (perBay_get_other _ _ hcb)
        · exact (perBay_get_other _ _ hx).trans (perBay_get_other _ _ hx)
    · have hfresh : s.freshSettled r.claim f = s.water.fresh - (f - r.claim) := if_neg hlt
      refine ⟨_, hexec _ _ (perBay_get_self ..) ((if_neg hlt).trans hl) rfl, hsub' _ (perBay_get_self ..),
        perBay_get_self .., fun h => absurd h hlt, fun h => absurd h hlt, fun _ => ⟨?_, ?_⟩, rfl, hlinks,
        fun x hx _ => ?_, rfl⟩
      · rw [hfresh, State.overdrawSettled]
      · exact (perBay_get_other _ _ hcb).trans (perBay_get_other _ _ hcb)
      · exact (perBay_get_other _ _ hx).trans (perBay_get_other _ _ hx)

end Sys2Proof.Machine
end

section
/-! The Resource Table's host requests (R99 to R102, R110): SWAP with what follows a change, and ALLOWANCE_SET; first,
what a rule taken at each bay in turn leaves. -/

namespace Sys2Proof.Machine

variable {s t u : State} {p : Port} {b : Bay} {k : EventKind}

/-! ### A rule taken at each bay, in ascending bay number -/

theorem allBays_ascending : allBays.Pairwise fun b c => bayNumber b < bayNumber c := by decide

theorem allBays_nodup : allBays.Nodup := by decide

/-- A rule for one bay that reads, beside that bay, only what it keeps itself: what it makes of the bay, and when it
latches which event of a kind. -/
structure BayRule (inv : State → Prop) (step : State → Bay → State) (k : EventKind) (f : Bay → BayUnit → BayUnit)
    (found : Bay → BayUnit → Prop) (event : Bay → BayUnit → Event) : Prop where
  keeps : ∀ s b, inv s → inv (step s b)
  bays : ∀ s b, inv s → (step s b).bays = s.bays.set b (f b (s.bays.get b))
  kind : ∀ b u, (event b u).kind = k
  shows : ∀ s b, inv s → found b (s.bays.get b) → (step s b).Shows (event b (s.bays.get b))
  quiet : ∀ s b, inv s → ¬ found b (s.bays.get b) → s.KeepsLatch (step s b) k

section
variable {inv : State → Prop} {step : State → Bay → State} {f : Bay → BayUnit → BayUnit}
  {found : Bay → BayUnit → Prop} {event : Bay → BayUnit → Event} (h : BayRule inv step k f found event)
include h

theorem BayRule.foldl_inv {l : List Bay} (hs : inv s) : inv (l.foldl step s) := by
  induction l generalizing s with
  | nil => exact hs
  | cons b l ih => exact ih (h.keeps s b hs)

theorem BayRule.foldl_bays_of_not_mem {l : List Bay} (hs : inv s) {c : Bay} (hc : c ∉ l) :
    (l.foldl step s).bays.get c = s.bays.get c := by
  induction l generalizing s with
  | nil => rfl
  | cons b l ih =>
    rw [List.foldl_cons, ih (h.keeps s b hs) fun hm => hc (List.mem_cons_of_mem _ hm), h.bays s b hs]
    exact perBay_get_other _ _ fun he => hc (he ▸ List.mem_cons_self)

theorem BayRule.foldl_bays {l : List Bay} (hl : l.Nodup) (hs : inv s) {c : Bay} (hc : c ∈ l) :
    (l.foldl step s).bays.get c = f c (s.bays.get c) := by
  induction l generalizing s with
  | nil => exact absurd hc List.not_mem_nil
  | cons b l ih =>
    obtain ⟨hb, hl⟩ := List.nodup_cons.1 hl
    rw [List.foldl_cons]
    by_cases hcb : c = b
    · subst hcb
      rw [h.foldl_bays_of_not_mem (h.keeps s c hs) hb, h.bays s c hs, perBay_get_self]
    · rw [ih hl (h.keeps s b hs) ((List.mem_cons.1 hc).resolve_left hcb), h.bays s b hs, perBay_get_other _ _ hcb]

theorem BayRule.foldl_quiet {l : List Bay} (hl : l.Nodup) (hs : inv s) (hno : ∀ c ∈ l, ¬ found c (s.bays.get c)) :
    s.KeepsLatch (l.foldl step s) k := by
  induction l generalizing s with
  | nil => exact .refl s k
  | cons b l ih =>
    obtain ⟨hb, hl⟩ := List.nodup_cons.1 hl
    refine (h.quiet s b hs (hno b List.mem_cons_self)).trans (ih hl (h.keeps s b hs) fun c hc => ?_)
    have hcb : c ≠ b := fun he => hb (he ▸ hc)
    rw [h.bays s b hs, perBay_get_other _ _ hcb]
    exact hno c (List.mem_cons_of_mem _ hc)

/-- The last bay of the list at which the rule latches is the one shown. -/
theorem BayRule.foldl_shows {l : List Bay} (hl : l.Pairwise fun b c => bayNumber b < bayNumber c) (hs : inv s) {c : Bay}
    (hc : c ∈ l) (hfound : found c (s.bays.get c))
    (hlast : ∀ d, bayNumber c < bayNumber d → ¬ found d (s.bays.get d)) :
    (l.foldl step s).Shows (event c (s.bays.get c)) := by
  induction l generalizing s with
  | nil => exact absurd hc List.not_mem_nil
  | cons b l ih =>
    obtain ⟨hb, hl⟩ := List.pairwise_cons.1 hl
    have hnodup : l.Nodup := hl.imp fun hlt => fun he => by simp [he] at hlt
    have hsame : ∀ d, d ≠ b → (step s b).bays.get d = s.bays.get d := fun d hd => by
      rw [h.bays s b hs, perBay_get_other _ _ hd]
    rw [List.foldl_cons]
    by_cases hcb : c = b
    · subst hcb
      have hkept := h.foldl_quiet hnodup (h.keeps s c hs) fun d hd => by
        rw [hsame d fun he => by simpa [he] using hb d hd]
        exact hlast d (hb d hd)
      rw [← h.kind c (s.bays.get c)] at hkept
      exact (h.shows s c hs hfound).keep hkept
    · have hcs := hsame c hcb
      rw [← hcs]
      refine ih hl (h.keeps s b hs) ((List.mem_cons.1 hc).resolve_left hcb) (hcs ▸ hfound) fun d hd => ?_
      have hdb : d ≠ b := fun he => by
        have hlt := hb c ((List.mem_cons.1 hc).resolve_left hcb)
        rw [he] at hd
        omega
      rw [hsame d hdb]
      exact hlast d hd

end

/-! ### A change of BAY_OPEN (R77, R101) -/

/-- What an open notice, given where the bit changed, makes of a bay. -/
def noticed (old new : BitVec 6) (b : Bay) (u : BayUnit) : BayUnit :=
  { u with
    state :=
      if u.state = .closed ∧ old.getLsbD (bayBit b) = false ∧ new.getLsbD (bayBit b) = true then .idle
      else if u.state = .idle ∧ old.getLsbD (bayBit b) = true ∧ new.getLsbD (bayBit b) = false then .closed
      else u.state }

theorem openNotice_still (h : (s.bays.get b).state = .closed → s.bayIsOpen b = false)
    (h' : (s.bays.get b).state = .idle → s.bayIsOpen b = true) : s.openNotice b = s := by
  unfold State.openNotice
  split
  next hst => rw [if_neg (by simp [h hst])]
  next hst => rw [if_pos (h' hst)]
  next => rfl

theorem openNotice_moves (h : (s.bays.get b).state = .closed ∧ s.bayIsOpen b = true ∨
    (s.bays.get b).state = .idle ∧ s.bayIsOpen b = false) : s.openNotice b = s.goIdle b := by
  unfold State.openNotice
  rcases h with ⟨hst, ho⟩ | ⟨hst, ho⟩
  · rw [hst]
    exact if_pos ho
  · rw [hst]
    exact if_neg (by simp [ho])

theorem perBay_set_same {α : Type} (x : PerBay α) {b : Bay} {v : α} (h : v = x.get b) : x.set b v = x := by
  rw [h, perBay_set_get]

/-- A bay moves at an open notice if its bit has changed against its state. -/
def Moves (old new : BitVec 6) (b : Bay) (u : BayUnit) : Prop :=
  u.state = .closed ∧ old.getLsbD (bayBit b) = false ∧ new.getLsbD (bayBit b) = true ∨
    u.state = .idle ∧ old.getLsbD (bayBit b) = true ∧ new.getLsbD (bayBit b) = false

theorem noticed_of_moves {old new : BitVec 6} {u : BayUnit} (h : Moves old new b u) :
    noticed old new b u = { u with state := if new.getLsbD (bayBit b) then .idle else .closed } := by
  unfold noticed
  rcases h with ⟨hst, ho, hn⟩ | ⟨hst, ho, hn⟩ <;> simp [hst, ho, hn]

theorem noticed_of_still {old new : BitVec 6} {u : BayUnit} (h : ¬ Moves old new b u) : noticed old new b u = u := by
  unfold noticed
  rw [if_neg fun hm => h (.inl hm), if_neg fun hm => h (.inr hm)]

/-- An open notice where the bit changed: the bay moves, or nothing changes. -/
theorem openNotice_step {old : BitVec 6} (b : Bay) :
    (Moves old s.water.bayOpen b (s.bays.get b) →
      (if old.getLsbD (bayBit b) = s.bayIsOpen b then s else s.openNotice b) = s.goIdle b) ∧
    (¬ Moves old s.water.bayOpen b (s.bays.get b) →
      (if old.getLsbD (bayBit b) = s.bayIsOpen b then s else s.openNotice b) = s) := by
  have hbit : s.bayIsOpen b = s.water.bayOpen.getLsbD (bayBit b) := rfl
  refine ⟨fun h => ?_, fun h => ?_⟩
  · rcases h with ⟨hst, ho, hn⟩ | ⟨hst, ho, hn⟩
    · rw [if_neg (by rw [hbit, ho, hn]; nofun), openNotice_moves (.inl ⟨hst, hbit.trans hn⟩)]
    · rw [if_neg (by rw [hbit, ho, hn]; nofun), openNotice_moves (.inr ⟨hst, hbit.trans hn⟩)]
  · split
    next => rfl
    next hne =>
      rw [hbit] at hne
      refine openNotice_still (fun hst => ?_) fun hst => ?_
      · rw [hbit]
        by_contra hn
        have hn' := Bool.not_eq_false _ ▸ hn
        exact h (.inl ⟨hst, by simpa [hn'] using hne, hn'⟩)
      · rw [hbit]
        by_contra hn
        have hn' := Bool.not_eq_true _ ▸ hn
        exact h (.inr ⟨hst, by simpa [hn'] using hne, hn'⟩)

theorem openNotices_rule (old new : BitVec 6) (lines : Lines) (time : DepotTime) :
    BayRule (fun s => s.water.bayOpen = new ∧ s.lines = lines ∧ s.clock.time = time)
      (fun s b => if old.getLsbD (bayBit b) = s.bayIsOpen b then s else s.openNotice b) .intrusion (noticed old new)
      (fun b u => u.state = .closed ∧ old.getLsbD (bayBit b) = false ∧ new.getLsbD (bayBit b) = true ∧
        lines.presence.get b = true) (fun b _ => .intrusion b time) where
  keeps s b hs := by
    split
    · exact hs
    · simpa using hs
  bays s b hs := by
    obtain ⟨hnew, _, _⟩ := hs
    subst hnew
    obtain ⟨hmoves, hstill⟩ := openNotice_step (s := s) (old := old) b
    by_cases hm : Moves old s.water.bayOpen b (s.bays.get b)
    · rw [hmoves hm, goIdle_bays, noticed_of_moves hm]
      rfl
    · rw [hstill hm, noticed_of_still hm, perBay_set_get]
  kind _ _ := rfl
  shows s b hs hfound := by
    obtain ⟨hnew, hlines, htime⟩ := hs
    subst hnew hlines htime
    obtain ⟨hst, ho, hn, hp⟩ := hfound
    have hjudged := goIdle_intrusion s b
    rw [State.IntrusionJudged, if_pos ⟨hn, hp⟩] at hjudged
    rw [(openNotice_step (s := s) (old := old) b).1 (.inl ⟨hst, ho, hn⟩)]
    exact hjudged
  quiet s b hs hno := by
    obtain ⟨hnew, hlines, htime⟩ := hs
    subst hnew hlines htime
    obtain ⟨hmoves, hstill⟩ := openNotice_step (s := s) (old := old) b
    by_cases hm : Moves old s.water.bayOpen b (s.bays.get b)
    · have hjudged := goIdle_intrusion s b
      rw [State.IntrusionJudged, if_neg] at hjudged
      · rw [hmoves hm]
        exact hjudged
      · rintro ⟨hn, hp⟩
        rcases hm with ⟨hst, ho, hn'⟩ | ⟨_, _, hn'⟩
        · exact hno ⟨hst, ho, hn', hp⟩
        · exact absurd (hn.symm.trans hn') nofun
    · rw [hstill hm]
      exact .refl s _

/-! ### SWAP (R99) -/

section
variable {n e w : Nat} {r : Resource}

theorem swapRefused_iff : swapRefused p r e w = true ↔ resourceBound r < w ∨
    r = .settleOwner ∧ w ≠ 0 ∧ w ≠ portNumber p ∨
    r = .settleOwner ∧ w = portNumber p ∧ e = portNumber (otherPort p) := by
  simp only [swapRefused, badOwnerSwap, Bool.or_eq_true, Bool.and_eq_true, decide_eq_true_eq]
  tauto

theorem swapRefused_of_right (hb : w ≤ resourceBound r)
    (ho : r ≠ .settleOwner ∨ w = 0 ∨ w = portNumber p ∧ e ≠ portNumber (otherPort p)) : ¬ swapRefused p r e w = true := by
  rw [swapRefused_iff]
  have hpos : portNumber p ≠ 0 := by cases p <;> decide
  rintro (h | ⟨hr, h0, hp⟩ | ⟨hr, hp, he⟩)
  · omega
  · rcases ho with ho | ho | ho
    · exact ho hr
    · exact h0 ho
    · exact hp ho.1
  · rcases ho with ho | ho | ho
    · exact ho hr
    · exact hpos (hp.symm.trans ho)
    · exact ho.2 he

theorem doSwap_noResource (h : resourceOf n = none) : s.doSwap p n e w = (s, refuse .badArgument) := by
  rw [State.doSwap, h]

theorem doSwap_refused (h : resourceOf n = some r) (hr : swapRefused p r e w = true) :
    s.doSwap p n e w = (s, refuse .badArgument) := by
  rw [State.doSwap, h]
  exact if_pos hr

theorem doSwap_mismatch (h : resourceOf n = some r) (hr : ¬ swapRefused p r e w = true) (hv : s.water.value r ≠ e) :
    s.doSwap p n e w = (s, answer .mismatch (be 3 (s.water.value r))) := by
  rw [State.doSwap, h]
  exact (if_neg hr).trans (if_pos hv)

theorem doSwap_done (h : resourceOf n = some r) (hr : ¬ swapRefused p r e w = true) (hv : s.water.value r = e)
    (ht : s.setResource r w = t) : s.doSwap p n e w =
      (t, { accept (be 3 e) with releaseReset := decide (t.journal.tagging ≠ s.journal.tagging) }) := by
  subst ht hv
  rw [State.doSwap, h]
  exact (if_neg hr).trans (if_neg (not_not.2 rfl))

/-- A swap that leaves the tagging: the plain reply. -/
theorem doSwap_plain (h : resourceOf n = some r) (hr : ¬ swapRefused p r e w = true) (hv : s.water.value r = e)
    (ht : s.setResource r w = t) (htag : t.journal.tagging = s.journal.tagging) :
    s.doSwap p n e w = (t, accept (be 3 e)) := by
  rw [doSwap_done h hr hv ht, htag]
  simp [accept]

end

theorem ownerOf_ownerNumber (o : Option Port) : ownerOf (ownerNumber o) = o := by
  cases o with
  | none => rfl
  | some q => cases q <;> rfl

theorem ownerNumber_ownerOf {n : Nat} (h : n ≤ 2) : ownerNumber (ownerOf n) = n := by
  match n, h with
  | 0, _ => rfl
  | 1, _ => rfl
  | 2, _ => rfl

/-- A resource given the value it has. -/
theorem setResource_same (s : State) (r : Resource) : s.setResource r (s.water.value r) = s := by
  cases r with
  | freshRemain => exact if_neg (Nat.lt_irrefl _)
  | overdraw => rfl
  | bayOpen => exact if_pos (by simp [Resources.value])
  | settleOwner => exact if_pos (ownerOf_ownerNumber _).symm

theorem setFresh_plain {n : Nat} (h : n ≤ s.water.fresh ∨ s.water.waits = []) :
    s.setFresh n = { s with water := { s.water with fresh := n } } := by
  unfold State.setFresh
  split
  next hlt =>
    have hnone := h.resolve_left (Nat.not_le.2 hlt)
    exact congrArg (fun l => State.firstFitOver l { s with water := { s.water with fresh := n } }) hnone
  next => rfl

/-- A rise that does not serve the first waiting bay, and serves the second. -/
theorem setFresh_second {n : Nat} {x y : WaitEntry} {r : WorkRecord} {ph : PhaseTerms} {f : PhaseEntry}
    (hn : s.water.fresh < n) (hwaits : s.water.waits = [x, y]) (hxy : x.bay ≠ y.bay) (hx : n < x.estimate)
    (hy : y.estimate ≤ n) (hr : (s.bays.get y.bay).record = some r) (hph : r.terms.phases[r.phase - 1]? = some ph)
    (hf : r.entries[r.phase - 1]? = some f) : s.setFresh n = { s with
      water := { s.water with fresh := n - y.estimate, waits := [x] }
      bays := s.bays.set y.bay (s.ranBay (s.bays.get y.bay) ph f.rPhase { r with claim := y.estimate }) } := by
  have hpass : s.setFresh n = State.grantWaiter { s with water := { s.water with fresh := n } } y := by
    rw [State.setFresh, if_pos hn, State.firstFit]
    refine (congrArg (fun l => State.firstFitOver l { s with water := { s.water with fresh := n } }) hwaits).trans ?_
    rw [State.firstFitOver, if_neg (Nat.not_le.2 hx), State.firstFitOver, if_pos hy]
    rfl
  have hrec : ((State.withdraw { s with water := { s.water with fresh := n } } y.bay).bays.get y.bay).record = some r :=
    (congrArg BayUnit.record (perBay_get_self ..)).trans hr
  have hleft : s.water.waits.filter (fun z => z.bay ≠ y.bay) = [x] := by
    rw [hwaits]
    simp [hxy]
  rw [hpass, State.grantWaiter, grant_eq hph hrec hf, withdraw_eq, hleft]
  simp only [perBay_get_self, perBay_set_set]
  rfl

/-- A change of BAY_OPEN: where the bays go, and the INTRUSION shown. -/
theorem setBayOpen_done {v : BitVec 6} (hv : s.water.bayOpen ≠ v) (ht : t = s.setBayOpen v) :
    t.water = { s.water with bayOpen := v } ∧ t.disp.mark = true ∧
      (∀ b, t.bays.get b = noticed s.water.bayOpen v b (s.bays.get b)) ∧
      (∀ b, (s.bays.get b).state = .closed → s.bayIsOpen b = false → v.getLsbD (bayBit b) = true →
        s.lines.presence.get b = true →
        (∀ c, bayNumber b < bayNumber c → ¬ ((s.bays.get c).state = .closed ∧ s.bayIsOpen c = false ∧
          v.getLsbD (bayBit c) = true ∧ s.lines.presence.get c = true)) → t.Shows (.intrusion b s.clock.time)) ∧
      ((∀ b, ¬ ((s.bays.get b).state = .closed ∧ s.bayIsOpen b = false ∧ v.getLsbD (bayBit b) = true ∧
        s.lines.presence.get b = true)) → s.KeepsLatch t .intrusion) ∧
      t = { s with water := t.water, bays := t.bays, disp := t.disp, links := t.links } := by
  have hrule := openNotices_rule s.water.bayOpen v s.lines s.clock.time
  have hinv : (fun x : State => x.water.bayOpen = v ∧ x.lines = s.lines ∧ x.clock.time = s.clock.time)
      (s.modWater fun w => { w with bayOpen := v }) := ⟨rfl, rfl, rfl⟩
  have hset : t = (State.openNotices (s.modWater fun w => { w with bayOpen := v }) s.water.bayOpen).requestPass :=
    ht.trans (if_neg hv)
  subst hset
  refine ⟨by simp, rfl, fun b => hrule.foldl_bays allBays_nodup hinv (mem_allBays b), fun b hst ho hn hp hlast =>
    hrule.foldl_shows allBays_ascending hinv (mem_allBays b) ⟨hst, ho, hn, hp⟩ hlast,
    fun hno => hrule.foldl_quiet allBays_nodup hinv fun c _ => hno c, by simp [State.ext_iff]⟩

/-- A CLOSED bay goes to IDLE exactly where its bit has come to be set. -/
theorem found_iff (v : BitVec 6) (b : Bay) {u : BayUnit} (hu : u = noticed s.water.bayOpen v b (s.bays.get b)) :
    ((s.bays.get b).state = .closed ∧ u.state = .idle ∧ s.lines.presence.get b = true) ↔
      ((s.bays.get b).state = .closed ∧ s.bayIsOpen b = false ∧ v.getLsbD (bayBit b) = true ∧
        s.lines.presence.get b = true) := by
  subst hu
  refine and_congr_right fun hst => ?_
  unfold noticed State.bayIsOpen
  rw [hst]
  cases s.water.bayOpen.getLsbD (bayBit b) <;> cases v.getLsbD (bayBit b) <;> simp

theorem setOwner_eq {o : Option Port} (h : s.water.owner ≠ o) : s.setOwner o = { s with
    water := { s.water with owner := o }, journal := { s.journal with tagging := .untagged }
    staging := if s.staging.map (fun g => g.port) = o then s.staging else none } := by
  have hclose : closeStaging s.staging o = if s.staging.map (fun g => g.port) = o then s.staging else none := by
    cases s.staging with
    | none => simp [closeStaging]
    | some g => simp [closeStaging, eq_comm]
  rw [State.setOwner, if_neg h, hclose]
  rfl

/-! ### ALLOWANCE_SET (R110) -/

theorem noneWashing_iff : s.noneWashing = true ↔ ∀ b, s.subState b = .outside := by
  simp [State.noneWashing, mem_allBays]

theorem doAllowanceSet_refused {n : Nat} (h : 262143 < n) : s.doAllowanceSet n = (s, refuse .badArgument) := if_pos h

theorem doAllowanceSet_now {n : Nat} (h : n ≤ 262143) (hb : ∀ b, s.subState b = .outside) : s.doAllowanceSet n =
    ({ s with water := { s.water with fresh := n, preload := n } }, accept (be 1 0 ++ be 3 n)) :=
  (if_neg (Nat.not_lt.2 h)).trans (if_pos (noneWashing_iff.2 hb))

theorem doAllowanceSet_later {n : Nat} (h : n ≤ 262143) (hb : ∃ b, s.subState b ≠ .outside) : s.doAllowanceSet n =
    ({ s with water := { s.water with preload := n } }, accept (be 1 1 ++ be 3 s.water.fresh)) :=
  (if_neg (Nat.not_lt.2 h)).trans (if_neg fun hnone => by
    obtain ⟨b, hne⟩ := hb
    exact hne (noneWashing_iff.1 hnone b))

/-- The sign is current after a request at a ready port. -/
theorem answered_status {c : Instr} (hs : s.Ready p) (h : exec c s = .next t) :
    t.disp.status = t.signStatus := by
  obtain ⟨u, hu, hsign⟩ := exec_signCurrent c (s := s) ⟨hs.2.2.2, .inl hs.1⟩
  obtain rfl := Host.Outcome.next.inj (h.symm.trans hu)
  exact hsign.1

/-- Settles O44: SWAP by its tests and its resource, and ALLOWANCE_SET. -/
theorem waterRequests : Obligations.WaterRequests := by
  refine ⟨fun p n e w s hs => ⟨fun hn => ?number, fun k hk => ⟨fun hr => ?refused, fun hb ho =>
    ⟨fun hv => ?mismatch, fun hv => ⟨fun hwe => ?same, fun hk' => ?overdraw, fun hk' hfr => ?fresh,
      fun x y r ph f hk' hlt hwaits hxy hx hy hw hr hph hf => ?second, fun hk' hwe => ?bays, fun hk' hwe => ?owner⟩⟩⟩⟩,
    fun p n s hs => ⟨fun hn => ?beyond, fun hn => ⟨fun hnone => ?now, fun hsome => ?later⟩⟩⟩
  case number =>
    refine exec_of_unchanged (c := .swap p n e w) rfl hs (doSwap_noResource ?_)
    generalize n.toNat = m at hn
    match m, hn with
    | 0, _ => rfl
    | m + 5, _ => rfl
  case refused =>
    exact exec_of_unchanged (c := .swap p n e w) rfl hs (doSwap_refused hk (swapRefused_iff.2 hr))
  case beyond => exact exec_of_unchanged (c := .allowanceSet p n) rfl hs (doAllowanceSet_refused hn)
  case now =>
    exact exec_of_changed (c := .allowanceSet p n) rfl hs (doAllowanceSet_now (s := s.abandonFrame p) hn hnone) rfl rfl rfl rfl
  case later =>
    exact exec_of_changed (c := .allowanceSet p n) rfl hs (doAllowanceSet_later (s := s.abandonFrame p) hn hsome) rfl rfl rfl rfl
  all_goals have haccept := swapRefused_of_right hb ho
  case mismatch => exact exec_of_unchanged (c := .swap p n e w) rfl hs (doSwap_mismatch (s := s.abandonFrame p) hk haccept hv)
  all_goals have hplain := fun t => doSwap_plain (s := s.abandonFrame p) (t := t) hk haccept hv
  case same =>
    subst hwe
    refine exec_of_unchanged (c := .swap p n w w) rfl hs (hplain _ ?_ rfl)
    rw [← hv]
    exact setResource_same (s.abandonFrame p) k
  case overdraw =>
    subst hk'
    exact exec_of_changed (c := .swap p n e w) rfl hs (hplain _ rfl rfl) rfl rfl rfl rfl
  case fresh =>
    subst hk'
    exact exec_of_changed (c := .swap p n e w) rfl hs
      (hplain _ (setFresh_plain (s := s.abandonFrame p) (hfr.imp_left fun h => h.trans (Nat.le_of_eq hv.symm))) rfl) rfl rfl rfl rfl
  case second =>
    subst hk'
    exact exec_of_changed (c := .swap p n e w) rfl hs
      (hplain _ (setFresh_second (s := s.abandonFrame p) (Nat.lt_of_le_of_lt (Nat.le_of_eq hv) hlt) hwaits hxy hx hy hr hph hf) rfl) rfl rfl rfl rfl
  case bays =>
    subst hk'
    have hne : (s.abandonFrame p).water.bayOpen ≠ BitVec.ofNat 6 w.toNat := fun he => by
      have hval : s.water.bayOpen.toNat = e.toNat := hv
      have hopen : s.water.bayOpen = BitVec.ofNat 6 w.toNat := he
      have hb' : w.toNat ≤ 63 := hb
      rw [hopen, BitVec.toNat_ofNat, Nat.mod_eq_of_lt (by omega)] at hval
      exact hwe (BitVec.eq_of_toNat_eq hval)
    obtain ⟨hwater, hmark, hbays, hshown, hquiet, hframe⟩ := setBayOpen_done hne rfl
    have htag : ((s.abandonFrame p).setBayOpen (BitVec.ofNat 6 w.toNat)).journal.tagging =
        (s.abandonFrame p).journal.tagging := by simp
    obtain ⟨d, l, hexec, hd, hans, hkeep⟩ := exec_answered (c := .swap p n e w) rfl hs
      (hplain ((s.abandonFrame p).setBayOpen (BitVec.ofNat 6 w.toNat)) rfl htag)
    have hbit : ∀ b, ((s.abandonFrame p).setBayOpen (BitVec.ofNat 6 w.toNat)).bayIsOpen b =
        (BitVec.ofNat 6 w.toNat).getLsbD (bayBit b) := fun b => by rw [State.bayIsOpen, hwater]
    have hfound := fun b => found_iff (s := s.abandonFrame p) (BitVec.ofNat 6 w.toNat) b (hbays b)
    refine ⟨_, hexec, hans, hwater, by rw [hd]; exact hmark, fun b => (hbays b).trans ?_, fun found hf => ?_,
      answered_status hs hexec, congrArg (fun x : State => { x with disp := d, links := l }) hframe⟩
    · rw [show State.bayIsOpen { (s.abandonFrame p).setBayOpen (BitVec.ofNat 6 w.toNat) with disp := d, links := l } b = _
        from hbit b]
      rfl
    · subst hf
      refine ⟨fun b hfb hlast => ?_, fun hno => ?_⟩
      · obtain ⟨hst, ho', hn', hp⟩ := (hfound b).1 hfb
        exact (hshown b hst ho' hn' hp fun c hc hfc => hlast c hc ((hfound c).2 hfc)).keep (hkeep _)
      · exact ((keepsLatch_abandonFrame s p _).trans (hquiet fun b hfb => hno b ((hfound b).2 hfb))).trans (hkeep _)
  case owner =>
    subst hk'
    have hne : (s.abandonFrame p).water.owner ≠ ownerOf w.toNat := fun he => by
      have hval : ownerNumber s.water.owner = e.toNat := hv
      have howner : s.water.owner = ownerOf w.toNat := he
      have hb' : w.toNat ≤ 2 := hb
      rw [howner, ownerNumber_ownerOf hb'] at hval
      exact hwe (BitVec.eq_of_toNat_eq hval)
    have hserve := doSwap_done (s := s.abandonFrame p) hk haccept hv (setOwner_eq hne)
    refine exec_of_changed (c := .swap p n e w) rfl hs (hserve.trans (Prod.ext rfl ?_)) rfl rfl rfl rfl
    exact congrArg (fun x => { accept (be 3 e.toNat) with releaseReset := x }) (decide_eq_decide.2 ne_comm)

end Sys2Proof.Machine
end

section
/-! The reclaim-loss notice (R85, R121), and a tank's change of state: where it rests, what it abandons, and the service
it leaves (R113, R118, R119). -/

namespace Sys2Proof.Machine

variable {s t u : State} {b : Bay} {k : Tank} {r : WorkRecord} {e : PhaseEntry} {st : TankState} {c : TankCause}

/-! ### The reclaim-loss notice -/

/-- The record and entry of a bay that draws reclaim from a tank in RUN and has not lost it yet. -/
def BayUnit.drawing (k : Tank) (u : BayUnit) : Option (WorkRecord × PhaseEntry) :=
  u.record.bind fun r => r.entry.bind fun e =>
    if u.state = .washing ∧ r.sub = .run ∧ 0 < e.rPhase ∧ r.claimTank = some k ∧ e.lost = false then some (r, e)
    else none

theorem drawing_iff : (s.bays.get b).drawing k = some (r, e) ↔ s.LosesReclaim k b r e := by
  have hentry : ∀ x : WorkRecord, x.entry = x.entries[x.phase - 1]? := fun _ => rfl
  simp only [BayUnit.drawing, State.LosesReclaim, Option.bind_eq_some_iff, hentry]
  constructor
  · rintro ⟨x, hx, y, hy, hxy⟩
    split at hxy
    next hcond =>
      obtain ⟨rfl, rfl⟩ := Prod.mk.inj (Option.some.inj hxy)
      obtain ⟨hst, hsub, hpos, hk, hlost⟩ := hcond
      exact ⟨hst, hx, hsub, hy, hpos, hk, hlost⟩
    next => exact absurd hxy nofun
  · rintro ⟨hst, hx, hsub, hy, hpos, hk, hlost⟩
    exact ⟨r, hx, e, hy, if_pos ⟨hst, hsub, hpos, hk, hlost⟩⟩

theorem not_drawing_iff : (s.bays.get b).drawing k = none ↔ ∀ r e, ¬ s.LosesReclaim k b r e := by
  simp only [← drawing_iff]
  refine ⟨fun h r e => by simp [h], fun h => ?_⟩
  cases hd : (s.bays.get b).drawing k with
  | none => rfl
  | some x => exact absurd hd (h x.1 x.2)

/-- What a reclaim-loss notice makes of a bay. -/
def BayUnit.unblended (k : Tank) (u : BayUnit) : BayUnit :=
  ((u.drawing k).map fun x =>
    { u with blend := 0, record := some (x.1.modEntry fun e => { e with lost := true }) }).getD u

/-- The RECLAIM-LOST of a bay that takes the notice. -/
def BayUnit.lossEvent (k : Tank) (b : Bay) (u : BayUnit) : Event :=
  ((u.drawing k).map fun x => Event.reclaimLost b x.1.visitNumber x.1.phase k x.2.lb).getD (.reclaimLost b 0 0 k 0)

theorem lossEvent_kind (k : Tank) (b : Bay) (u : BayUnit) : (u.lossEvent k b).kind = .reclaimLost := by
  unfold BayUnit.lossEvent
  cases u.drawing k <;> rfl

theorem loseReclaim_of_drawing (h : (s.bays.get b).drawing k = some (r, e)) : s.loseReclaim k b =
    State.latch { s with bays := s.bays.set b { s.bays.get b with
      blend := 0, record := some (r.modEntry fun e => { e with lost := true }) } }
      (.reclaimLost b r.visitNumber r.phase k e.lb) := by
  obtain ⟨hst, hr, hsub, he, hpos, hk, hlost⟩ := drawing_iff.1 h
  have hrec : s.record b = some r := hr
  have hentry : r.entry = some e := he
  have hcond : s.subState b = .run ∧ 0 < e.rPhase ∧ r.claimTank = some k ∧ e.lost = false :=
    ⟨(subState_of_washing hst hr).trans hsub, hpos, hk, hlost⟩
  unfold State.loseReclaim
  simp only [hrec, hentry, if_pos hcond, modRecord_eq hr, modBay_eq, perBay_get_self, perBay_set_set]

theorem loseReclaim_of_still (h : (s.bays.get b).drawing k = none) : s.loseReclaim k b = s := by
  unfold State.loseReclaim
  split
  next => rfl
  next r hr =>
    split
    next => rfl
    next e he =>
      refine if_neg fun hcond => ?_
      obtain ⟨hsub, hpos, hk, hlost⟩ := hcond
      have hst : (s.bays.get b).state = .washing := by
        by_contra hne
        exact absurd ((subState_of_not_washing hne).symm.trans hsub) nofun
      exact not_drawing_iff.1 h r e
        ⟨hst, hr, (subState_of_washing hst hr).symm.trans hsub, he, hpos, hk, hlost⟩

theorem loseReclaim_rule (k : Tank) : BayRule (fun _ => True) (fun s b => s.loseReclaim k b) .reclaimLost
    (fun _ u => u.unblended k) (fun _ u => (u.drawing k).isSome = true) (fun b u => u.lossEvent k b) where
  keeps _ _ _ := trivial
  bays s b _ := by
    cases hd : (s.bays.get b).drawing k with
    | none => rw [loseReclaim_of_still hd, BayUnit.unblended, hd, Option.map_none, Option.getD_none, perBay_set_get]
    | some x => rw [loseReclaim_of_drawing hd, BayUnit.unblended, hd]; rfl
  kind b u := lossEvent_kind k b u
  shows s b _ hfound := by
    obtain ⟨x, hd⟩ := Option.isSome_iff_exists.1 hfound
    rw [loseReclaim_of_drawing hd, BayUnit.lossEvent, hd]
    exact shows_latch _ _
  quiet s b _ hno := by
    rw [loseReclaim_of_still (Option.not_isSome_iff_eq_none.1 hno)]
    exact .refl s _

theorem unblended_drawing (k : Tank) (u : BayUnit) : (u.unblended k).drawing k = none := by
  cases hd : u.drawing k with
  | none => rw [BayUnit.unblended, hd]; exact hd
  | some x =>
    rw [BayUnit.unblended, hd]
    simp only [Option.map_some, Option.getD_some, BayUnit.drawing, Option.bind_some]
    have hplace : ∀ f, (x.1.modEntry f).place = x.1.place := fun _ => rfl
    simp only [WorkRecord.entry, hplace]
    simp only [WorkRecord.modEntry, List.getElem?_modify_eq]
    cases x.1.entries[x.1.place]? <;> simp

theorem reclaimLoss_bays (s : State) (k : Tank) (b : Bay) :
    (s.reclaimLoss k).bays.get b = (s.bays.get b).unblended k :=
  (loseReclaim_rule k).foldl_bays allBays_nodup trivial (mem_allBays b)

theorem reclaimLoss_of_still (h : ∀ b, (s.bays.get b).drawing k = none) : s.reclaimLoss k = s := by
  have hfold : ∀ l : List Bay, l.foldl (fun s b => s.loseReclaim k b) s = s := fun l => by
    induction l with
    | nil => rfl
    | cons b l ih => rw [List.foldl_cons, loseReclaim_of_still (h b), ih]
  exact hfold allBays

/-- A second notice for the same tank finds no bay to act on. -/
theorem reclaimLoss_twice (s : State) (k : Tank) : (s.reclaimLoss k).reclaimLoss k = s.reclaimLoss k :=
  reclaimLoss_of_still fun b => by rw [reclaimLoss_bays]; exact unblended_drawing k _

theorem reclaimLoss_lost (s : State) (k : Tank) : s.ReclaimLost (s.reclaimLoss k) k := by
  refine ⟨fun b r e h => ⟨?_, fun hlast => ?_⟩, fun b h => ?_, fun h => ?_⟩
  · rw [reclaimLoss_bays, BayUnit.unblended, drawing_iff.2 h]
    rfl
  · have hd := drawing_iff.2 h
    have hshown := (loseReclaim_rule k).foldl_shows (s := s) allBays_ascending trivial (mem_allBays b)
      (by rw [hd]; rfl) fun d hlt => by
        rw [not_drawing_iff.2 fun q f => hlast d q f hlt]
        nofun
    rw [BayUnit.lossEvent, hd] at hshown
    exact hshown
  · rw [reclaimLoss_bays, BayUnit.unblended, not_drawing_iff.2 h]
    rfl
  · refine (loseReclaim_rule k).foldl_quiet allBays_nodup trivial fun b _ => ?_
    rw [not_drawing_iff.2 (h b)]
    nofun

theorem State.KeepsLatch.reclaimLoss {i : EventKind} (h : s.KeepsLatch t i) (hi : i ≠ .reclaimLost) :
    s.KeepsLatch (t.reclaimLoss k) i := by
  have hfold : ∀ (l : List Bay) (x : State), x.KeepsLatch (l.foldl (fun s b => s.loseReclaim k b) x) i := fun l => by
    induction l with
    | nil => exact fun x => .refl x i
    | cons b l ih =>
      intro x
      refine State.KeepsLatch.trans ?_ (ih (x.loseReclaim k b))
      cases hd : (x.bays.get b).drawing k with
      | none => rw [loseReclaim_of_still hd]; exact .refl x i
      | some y => rw [loseReclaim_of_drawing hd]; exact keepsLatch_latch _ hi
  exact h.trans (hfold allBays t)

theorem State.ReclaimLost.congr (h : s.ReclaimLost t k) (hb : u.bays = t.bays) (hl : t.KeepsLatch u .reclaimLost) :
    s.ReclaimLost u k := by
  obtain ⟨hacts, hothers, hquiet⟩ := h
  refine ⟨fun b r e hloses => ?_, fun b hno => ?_, fun hno => (hquiet hno).trans hl⟩
  · obtain ⟨hbay, hshows⟩ := hacts b r e hloses
    exact ⟨by rw [hb]; exact hbay, fun hlast => (hshows hlast).keep hl⟩
  · rw [hb]
    exact hothers b hno

/-! ### One tank beside the other -/

theorem perTank_set_set {α : Type} (x : PerTank α) (k : Tank) (v w : α) : (x.set k v).set k w = x.set k w := by
  cases k <;> rfl

theorem perTank_get_self {α : Type} (x : PerTank α) (k : Tank) (v : α) : (x.set k v).get k = v := by
  cases k <;> rfl

theorem perTank_get_other {α : Type} (x : PerTank α) (k : Tank) (v : α) :
    (x.set k v).get (otherTank k) = x.get (otherTank k) := by
  cases k <;> rfl

theorem perTank_get_first {α : Type} (x : PerTank α) (k : Tank) (v : α) :
    (x.set (otherTank k) v).get k = x.get k := by
  cases k <;> rfl

theorem perTank_set_get {α : Type} (x : PerTank α) (k : Tank) : x.set k (x.get k) = x := by
  cases k <;> rfl

theorem modTank_eq (s : State) (k : Tank) (f : TankUnit → TankUnit) :
    s.modTank k f = { s with tanks := s.tanks.set k (f (s.tanks.get k)) } := rfl

/-! ### Where a tank that enters a state comes to rest (R113, R114, R118) -/

/-- A tank as it rests in a state, its sampling abandoned, its timers as the state wants them and its valves set. -/
def State.entered (s : State) (st : TankState) (u : TankUnit) : TankUnit :=
  { u with
    state := st
    settleTimer := if st = .settling then some (s.laneTime + 60000 * s.active.settlingTime) else none
    settleLeft := none
    resampleTimer := if st = .service then some (s.laneTime + 60000 * s.active.resampleInterval) else none
    salt := .notAwaited, turb := .notAwaited, fault := if u.sampled then none else u.fault
    inlet := st == .filling, dump := st == .dumping, outlet := st == .service }

theorem sampled_eq_false {x : TankUnit} : x.sampled = false ↔ x.salt = .notAwaited ∧ x.turb = .notAwaited := by
  simp [TankUnit.sampled]

theorem unsampled_eq {x : TankUnit} (h : x.sampled = false) : { x with salt := .notAwaited, turb := .notAwaited } = x := by
  obtain ⟨hsalt, hturb⟩ := sampled_eq_false.1 h
  cases x
  subst hsalt hturb
  rfl

/-- The converter after a tank has gone to a state. -/
def State.convLeft (s : State) (k : Tank) : Converter :=
  if (s.tanks.get k).sampled then s.conv.withdraw k else s.conv

theorem abandon_eq (s : State) (k : Tank) : s.abandon k = { s with
    conv := s.convLeft k
    tanks := s.tanks.set k { s.tanks.get k with
      salt := .notAwaited, turb := .notAwaited
      fault := if (s.tanks.get k).sampled then none else (s.tanks.get k).fault } } := by
  unfold State.abandon State.convLeft
  split
  next h => rfl
  next h =>
    rw [unsampled_eq (Bool.not_eq_true _ ▸ h), perTank_set_get]

theorem setTank_before (s : State) (k : Tank) (st : TankState) : s.setTank k st =
    State.startState { s with
      conv := s.convLeft k
      tanks := s.tanks.set k { s.tanks.get k with
        state := s.restOf k st, settleTimer := none, settleLeft := none, resampleTimer := none
        salt := .notAwaited, turb := .notAwaited
        fault := if (s.tanks.get k).sampled then none else (s.tanks.get k).fault
        inlet := s.restOf k st == .filling, dump := s.restOf k st == .dumping, outlet := s.restOf k st == .service } } k := by
  rw [State.setTank, abandon_eq, modTank_eq]
  simp only [perTank_get_self, perTank_set_set]
  rfl

theorem setTank_eq (h : s.restOf k st ≠ .sampling) : s.setTank k st = { s with
    conv := s.convLeft k, tanks := s.tanks.set k (s.entered (s.restOf k st) (s.tanks.get k)) } := by
  rw [setTank_before]
  revert h
  generalize s.restOf k st = x
  intro h
  cases x with
  | sampling => exact absurd rfl h
  | _ => simp only [State.startState, modTank_eq, perTank_get_self, perTank_set_set]; rfl

theorem restOf_service_clear (h : s.lines.low.get k = false) : s.restOf k .service = .service := by
  rw [State.restOf, h]
  rfl

theorem restOf_service_low (h : s.lines.low.get k = true) :
    s.restOf k .service = if s.lines.high.get k then .settling else .filling := by
  rw [State.restOf, h]
  rfl

theorem restOf_not_sampling (s : State) (k : Tank) (h : st ≠ .sampling) : s.restOf k st ≠ .sampling := by
  unfold State.restOf
  generalize s.lines.low.get k = low
  generalize s.lines.high.get k = high
  revert low high h
  cases st with
  | sampling => exact fun h => absurd rfl h
  | _ => decide

/-! ### Service, and the tank that leaves it (R119, R121) -/

theorem takeService_clear (h : s.lines.low.get k = false) : s.takeService k = { s with
    conv := s.convLeft k, tanks := s.tanks.set k (s.entered .service (s.tanks.get k)), service := some k } := by
  have hrest := restOf_service_clear h
  rw [State.takeService, setTank_eq (restOf_not_sampling s k (by decide))]
  dsimp only
  rw [if_pos hrest, hrest]

theorem takeService_low (h : s.lines.low.get k = true) : s.takeService k = { s with
    conv := s.convLeft k
    tanks := s.tanks.set k
      (s.entered (if s.lines.high.get k then .settling else .filling) (s.tanks.get k)) } := by
  have hrest := restOf_service_low h
  have hne : s.restOf k .service ≠ .service := by
    rw [hrest]
    split <;> nofun
  rw [State.takeService, setTank_eq (restOf_not_sampling s k (by decide))]
  dsimp only
  rw [if_neg hne, hrest]

theorem promote_ready (h : (s.tanks.get k).state = .ready) : s.promote k = s.takeService k := if_pos h

theorem promote_still (h : (s.tanks.get k).state ≠ .ready) : s.promote k = s := if_neg h

/-- A tank has left service for a state: its unit, the tank that takes over, the bays' notice, the converter, and what
stays. -/
structure State.LeftService (s t : State) (k : Tank) (st : TankState) (c : TankCause) : Prop where
  unit : t.tanks.get k = s.entered (s.restOf k st) (s.tanks.get k)
  tanks : (s.tanks.get (otherTank k)).state ≠ .ready →
    t.tanks = s.tanks.set k (s.entered (s.restOf k st) (s.tanks.get k))
  conv : (s.tanks.get (otherTank k)).state ≠ .ready ∨ (s.tanks.get (otherTank k)).sampled = false → t.conv = s.convLeft k
  handed : s.HandedOver t k c
  lost : s.ReclaimLost t k
  keeps : ∀ i, i ≠ .reclaimLost → i ≠ .tankChange → s.KeepsLatch t i
  frame : t = { s with tanks := t.tanks, service := t.service, conv := t.conv, bays := t.bays, links := t.links }

theorem otherTank_ne (k : Tank) : otherTank k ≠ k := by cases k <;> nofun

theorem State.LeftService.service (h : s.LeftService t k st c) : t.service ≠ some k := by
  rw [h.handed.1]
  split
  · exact fun hk => otherTank_ne k (Option.some.inj hk)
  · nofun

theorem moveTank_plain (h : s.service ≠ some k) : s.moveTank k st c = s.setTank k st := if_neg h

theorem noteService_changed {before : Option Tank} (h : before ≠ s.service) :
    s.noteService before c = s.latch (.tankChange before s.service c (s.service.bind fun i => (s.tanks.get i).share)) :=
  if_neg h

theorem noteService_same {before : Option Tank} (h : before = s.service) : s.noteService before c = s := if_pos h

theorem moveTank_left (h : s.service = some k) (hst : st ≠ .sampling) : s.LeftService (s.moveTank k st c) k st c := by
  have hmove : s.moveTank k st c = ((((State.setTank { s.reclaimLoss k with service := none } k st).promote
      (otherTank k)).noteService (some k) c)) := if_pos h
  have hlost := reclaimLoss_lost s k
  have hkeeps := fun i (hi : i ≠ .reclaimLost) => (State.KeepsLatch.refl s i).reclaimLoss (k := k) hi
  have hframe : s.reclaimLoss k = { s with bays := (s.reclaimLoss k).bays, links := (s.reclaimLoss k).links } := by
    simp [State.ext_iff]
  rw [hmove]
  generalize s.reclaimLoss k = x at *
  obtain ⟨m, hm⟩ : ∃ m : State, m = { s with
      bays := x.bays, links := x.links, service := none, conv := s.convLeft k
      tanks := s.tanks.set k (s.entered (s.restOf k st) (s.tanks.get k)) } := ⟨_, rfl⟩
  have hset : State.setTank { x with service := none } k st = m := by
    rw [hframe, hm]
    exact setTank_eq (s := { s with bays := x.bays, links := x.links, service := none }) (restOf_not_sampling s k hst)
  have hk : m.tanks.get k = s.entered (s.restOf k st) (s.tanks.get k) := by rw [hm]; exact perTank_get_self ..
  have hother : m.tanks.get (otherTank k) = s.tanks.get (otherTank k) := by rw [hm]; exact perTank_get_other ..
  have hlow : m.lines.low.get (otherTank k) = s.lines.low.get (otherTank k) := by rw [hm]
  have hservice : m.service = none := by rw [hm]
  have htanks : m.tanks = s.tanks.set k (s.entered (s.restOf k st) (s.tanks.get k)) := by rw [hm]
  have hconv : m.conv = s.convLeft k := by rw [hm]
  have hlinks : m.links = x.links := by rw [hm]
  have hbays : m.bays = x.bays := by rw [hm]
  have hmid : m = { s with tanks := m.tanks, service := m.service, conv := m.conv, bays := m.bays, links := m.links } := by
    rw [hm]
  have hchange : ∀ e : Event, e.kind = .tankChange → s.ReclaimLost (m.latch e) k := fun e he =>
    hlost.congr hbays ((keepsLatch_of_links hlinks _).latch e (by rw [he]; nofun))
  have hkept : ∀ e : Event, e.kind = .tankChange → ∀ i, i ≠ .reclaimLost → i ≠ .tankChange →
      s.KeepsLatch (m.latch e) i := fun e he i hi hi' =>
    ((hkeeps i hi).trans (keepsLatch_of_links hlinks _)).latch e (by rw [he]; exact hi')
  have hframe' : ∀ (y : Option Tank) (z : PerTank TankUnit) (w : Converter) (l : PerPort Link),
      ({ m with tanks := z, service := y, conv := w, links := l } : State) =
        { s with tanks := z, service := y, conv := w, bays := m.bays, links := l } := fun y z w l =>
    congrArg (fun v : State => { v with tanks := z, service := y, conv := w, links := l }) hmid
  rw [hset]
  by_cases hready : (s.tanks.get (otherTank k)).state = .ready
  · have hunit : ∀ y, (m.tanks.set (otherTank k) y).get k = s.entered (s.restOf k st) (s.tanks.get k) := fun y =>
      (perTank_get_first ..).trans hk
    have hconv' : (s.tanks.get (otherTank k)).sampled = false → m.convLeft (otherTank k) = s.convLeft k := fun h => by
      rw [State.convLeft, hother, h, hconv]
      rfl
    have hnew : ∀ y, (m.tanks.set (otherTank k) (m.entered y (m.tanks.get (otherTank k)))).get (otherTank k) =
        m.entered y (s.tanks.get (otherTank k)) := fun y => by rw [perTank_get_self, hother]
    rw [promote_ready (by rw [hother]; exact hready)]
    rcases (Bool.eq_false_or_eq_true (s.lines.low.get (otherTank k))).symm with hl | hl
    case inl =>
      rw [takeService_clear (hlow.trans hl), noteService_changed fun h => otherTank_ne k (Option.some.inj h).symm]
      refine ⟨hunit _, fun h => absurd hready h, fun h => hconv' (h.resolve_left (not_not.2 hready)),
        ⟨(if_pos ⟨hready, hl⟩).symm, fun h => absurd hready h,
          fun _ => ⟨(congrArg TankUnit.share (hnew _)).trans rfl, fun _ => ⟨(congrArg TankUnit.state (hnew _)).trans rfl,
            (congrArg TankUnit.outlet (hnew _)).trans rfl, (congrArg TankUnit.resampleTimer (hnew _)).trans ?_⟩,
          fun h => (Bool.false_ne_true (hl.symm.trans h)).elim⟩, shows_latch _ _⟩, hchange _ rfl, hkept _ rfl, hframe' _ _ _ _⟩
      rw [hm]
      rfl
    case inr =>
      have hhigh : m.lines.high.get (otherTank k) = s.lines.high.get (otherTank k) := by rw [hm]
      rw [takeService_low (hlow.trans hl), hhigh, noteService_changed (by rw [hservice]; nofun)]
      refine ⟨hunit _, fun h => absurd hready h, fun h => hconv' (h.resolve_left (not_not.2 hready)),
        ⟨hservice.trans (if_neg fun h => Bool.false_ne_true (h.2.symm.trans hl)).symm, fun h => absurd hready h,
          fun _ => ⟨(congrArg TankUnit.share (hnew _)).trans rfl, fun h => (Bool.false_ne_true (h.symm.trans hl)).elim,
          fun _ => ⟨(congrArg TankUnit.state (hnew _)).trans rfl, (congrArg TankUnit.outlet (hnew _)).trans ?_⟩⟩, shows_latch _ _⟩,
        hchange _ rfl, hkept _ rfl, hframe' _ _ _ _⟩
      cases s.lines.high.get (otherTank k) <;> rfl
  · rw [promote_still (by rw [hother]; exact hready), noteService_changed (by rw [hservice]; nofun)]
    refine ⟨hk, fun _ => htanks, fun _ => hconv, ⟨hservice.trans (if_neg fun h => hready h.1).symm, fun _ => hother,
      fun h => absurd h hready, shows_latch _ _⟩, hchange _ rfl, hkept _ rfl,
      hframe' m.service m.tanks m.conv _⟩

end Sys2Proof.Machine
end

section
/-! The converter's request queue (R128), the sampling a tank begins (R116, R120), and the tank lines: switches and
timers (R113 to R120). -/

namespace Sys2Proof.Machine

variable {s t : State} {k : Tank} {p : Probe} {st : TankState} {x : TankUnit} {c : Converter}

/-! ### Requests join the queue -/

theorem any_probe_iff (l : List ConvRequest) (p : Probe) :
    (l.any fun e => e.probe == p) = true ↔ p ∈ l.map (·.probe) := by
  simp

theorem joinRequests_tank (l : List ConvRequest) (p : Probe) :
    joinRequests l p (fun e => { e with tank := true }) = tankRequested l p := by
  unfold joinRequests tankRequested
  by_cases h : p ∈ l.map (·.probe)
  · rw [if_pos h, if_pos ((any_probe_iff l p).2 h)]
  · rw [if_neg h, if_neg fun hany => h ((any_probe_iff l p).1 hany)]
    rfl

theorem joinRequests_ne_nil (l : List ConvRequest) (p : Probe) (add : ConvRequest → ConvRequest) :
    joinRequests l p add ≠ [] := by
  unfold joinRequests
  cases l with
  | nil => nofun
  | cons e l => split <;> simp

theorem tankRequested_ne_nil (l : List ConvRequest) (p : Probe) : tankRequested l p ≠ [] :=
  joinRequests_tank l p ▸ joinRequests_ne_nil l p _

theorem kick_busy {n : Nat} (h : c.phase ≠ .idle) : c.kick n = c := if_neg fun hc => h hc.1

theorem kick_empty {n : Nat} (h : c.requests = []) : c.kick n = c := if_neg fun hc => hc.2 h

/-- A conversion's end, and any idle converter, with a queue of entries. -/
theorem kick_idle {n : Nat} (hc : c.phase = .idle) (hn : c.requests ≠ []) : c.kick n =
    { phase := .reference, requests := c.requests, nRef := n, up := BitVec.ofNat 16 (65536 - n), time := 0
      saturated := false } :=
  if_pos ⟨hc, hn⟩

theorem kick_convAfter (s : State) (l : List ConvRequest) :
    ({ s.conv with phase := .idle, requests := l } : Converter).kick s.active.nRef = s.convAfter l := by
  unfold State.convAfter
  by_cases hl : l = []
  · rw [if_pos hl, kick_empty hl, hl]
  · rw [if_neg hl, kick_idle rfl hl]

/-- The converter after a tank's request for one of its probes. -/
def State.convRequested (s : State) (p : Probe) : Converter :=
  if s.conv.phase = .idle then s.convAfter (tankRequested s.conv.requests p)
  else { s.conv with requests := tankRequested s.conv.requests p }

theorem request_tank (s : State) (p : Probe) :
    (s.request p fun e => { e with tank := true }) = { s with conv := s.convRequested p } := by
  unfold State.request State.modConv State.convRequested
  dsimp only
  rw [joinRequests_tank]
  by_cases h : s.conv.phase = .idle
  · rw [if_pos h, ← kick_convAfter, ← h]
  · rw [if_neg h]
    exact congrArg (fun c : Converter => { s with conv := c }) (kick_busy (c := { s.conv with requests := tankRequested s.conv.requests p }) h)

theorem convRequested_twice (s : State) (p q : Probe) : State.convRequested { s with conv := s.convRequested p } q =
    if s.conv.phase = .idle then s.convAfter (tankRequested (tankRequested s.conv.requests p) q)
    else { s.conv with requests := tankRequested (tankRequested s.conv.requests p) q } := by
  by_cases h : s.conv.phase = .idle
  · rw [if_pos h]
    unfold State.convRequested State.convAfter
    simp [h, tankRequested_ne_nil]
  · rw [if_neg h]
    unfold State.convRequested
    simp [h]

theorem requestBoth_eq (s : State) (k : Tank) : s.requestBoth k = { s with conv := s.convSampling k } := by
  rw [State.requestBoth, request_tank, request_tank, convRequested_twice]
  rfl

theorem beginSampling_eq (s : State) (k : Tank) : s.beginSampling k = { s with
    conv := s.convSampling k
    tanks := s.tanks.set k { s.tanks.get k with fault := none, salt := .awaited, turb := .awaited } } :=
  requestBoth_eq _ k

/-! ### A tank that was not sampling -/

theorem convLeft_unsampled (h : (s.tanks.get k).sampled = false) : s.convLeft k = s.conv :=
  if_neg (by rw [h]; nofun)

theorem entered_unsampled (h : x.sampled = false) : s.entered st x = { x with
    state := st
    settleTimer := if st = .settling then some (s.laneTime + 60000 * s.active.settlingTime) else none
    settleLeft := none
    resampleTimer := if st = .service then some (s.laneTime + 60000 * s.active.resampleInterval) else none
    inlet := st == .filling, dump := st == .dumping, outlet := st == .service } := by
  obtain ⟨hsalt, hturb⟩ := sampled_eq_false.1 h
  rw [State.entered, h]
  cases x
  subst hsalt hturb
  rfl

theorem setTank_sampling (h : s.restOf k st = .sampling) (hu : (s.tanks.get k).sampled = false) :
    s.setTank k st = { s with
      conv := s.convSampling k
      tanks := s.tanks.set k { s.tanks.get k with
        state := .sampling, settleTimer := none, settleLeft := none, resampleTimer := none, salt := .awaited
        turb := .awaited, fault := none, inlet := false, dump := false, outlet := false } } := by
  rw [setTank_before, h, convLeft_unsampled hu]
  simp only [State.startState, perTank_get_self, beginSampling_eq, perTank_set_set]
  rfl

/-! ### The tank lines and timers -/

/-- What changes tanks, converter, bays and the event latch changes nothing the sign shows. -/
theorem sameSign_tanks (h : t = { s with
    tanks := t.tanks, service := t.service, conv := t.conv, bays := t.bays, links := t.links }) : s.SameSign t :=
  ⟨by rw [h], by rw [h], by rw [h]; rfl⟩

theorem sameSign_tank (s : State) (x : PerTank TankUnit) (c : Converter) :
    s.SameSign { s with conv := c, tanks := x } := sameSign_tanks rfl

theorem tankSettled_eq {d : Nat} (h : (s.tanks.get k).state = .settling) (hd : (s.tanks.get k).settleTimer = some d) :
    s.tankSettled k = s.setTank k .sampling := if_pos ⟨h, by rw [hd]; rfl⟩

theorem tankSettled_still (h : (s.tanks.get k).state ≠ .settling ∨ (s.tanks.get k).settleTimer = none) :
    s.tankSettled k = s := if_neg fun hc => by
  obtain ⟨hst, hd⟩ := hc
  rw [h.resolve_left (not_not.2 hst)] at hd
  exact absurd hd nofun

theorem resampleDue_eq {d : Nat} (h : (s.tanks.get k).state = .service) (hd : (s.tanks.get k).resampleTimer = some d) :
    s.resampleDue k = { s with
      conv := s.convSampling k
      tanks := s.tanks.set k { s.tanks.get k with
        resampleTimer := none, fault := none, salt := .awaited, turb := .awaited } } := by
  have hdue : s.resampleDue k = State.beginSampling (s.modTank k fun u => { u with resampleTimer := none }) k :=
    if_pos ⟨h, by rw [hd]; rfl⟩
  rw [hdue, beginSampling_eq]
  simp only [modTank_eq, perTank_get_self, perTank_set_set]
  rfl

theorem resampleDue_still (h : (s.tanks.get k).state ≠ .service ∨ (s.tanks.get k).resampleTimer = none) :
    s.resampleDue k = s := if_neg fun hc => by
  obtain ⟨hst, hd⟩ := hc
  rw [h.resolve_left (not_not.2 hst)] at hd
  exact absurd hd nofun

theorem restOf_low {st : TankState} (hst : st ≠ .settling) (hheld : st ≠ .held) (h : s.lines.low.get k = true) :
    s.restOf k st = if s.lines.high.get k then .settling else .filling := by
  rw [State.restOf, h]
  cases st with
  | settling => exact absurd rfl hst
  | held => exact absurd rfl hheld
  | _ => rfl

theorem restOf_clear {st : TankState} (hst : st ≠ .filling) (h : s.lines.low.get k = false) : s.restOf k st = st := by
  rw [State.restOf, h]
  cases st with
  | filling => exact absurd rfl hst
  | _ => rfl

/-- A tank that was not sampling, where it rests after its LOW switch sent it back to fill. -/
theorem setTank_filled (hrest : s.restOf k st = if s.lines.high.get k then .settling else .filling) :
    s.setTank k st = { s with
      conv := s.convLeft k
      tanks := s.tanks.set k { s.tanks.get k with
        state := if s.lines.high.get k then .settling else .filling
        settleTimer := if s.lines.high.get k then some (s.laneTime + 60000 * s.active.settlingTime) else none
        settleLeft := none, resampleTimer := none, salt := .notAwaited, turb := .notAwaited
        fault := if (s.tanks.get k).sampled then none else (s.tanks.get k).fault
        inlet := !s.lines.high.get k, dump := false, outlet := false } } := by
  rw [setTank_eq (by rw [hrest]; split <;> nofun), hrest]
  cases s.lines.high.get k <;> rfl

theorem setTank_filled_unsampled (hrest : s.restOf k st = if s.lines.high.get k then .settling else .filling)
    (hu : (s.tanks.get k).sampled = false) :
    s.setTank k st = { s with
      tanks := s.tanks.set k { s.tanks.get k with
        state := if s.lines.high.get k then .settling else .filling
        settleTimer := if s.lines.high.get k then some (s.laneTime + 60000 * s.active.settlingTime) else none
        settleLeft := none, resampleTimer := none, inlet := !s.lines.high.get k, dump := false, outlet := false } } := by
  rw [setTank_eq (by rw [hrest]; split <;> nofun), hrest, entered_unsampled hu, convLeft_unsampled hu]
  cases s.lines.high.get k <;> rfl

theorem lowAsserted_still (h : (s.tanks.get k).state = .filling ∨ (s.tanks.get k).state = .held) :
    s.lowAsserted k = s := by
  unfold State.lowAsserted
  rcases h with h | h <;> rw [h]

theorem lowAsserted_fills (h : (s.tanks.get k).state = .settling ∨ (s.tanks.get k).state = .sampling ∨
    (s.tanks.get k).state = .ready ∨ (s.tanks.get k).state = .dumping) : s.lowAsserted k = s.setTank k .filling := by
  unfold State.lowAsserted
  rcases h with h | h | h | h <;> rw [h]

/-- The service tank leaves with one reclaim-loss notice: the second, of its leaving, finds no bay to act on. -/
theorem lowAsserted_leaves (h : (s.tanks.get k).state = .service) (hs : s.service = some k) :
    s.lowAsserted k = s.moveTank k .filling .lowSwitch := by
  have hlow : s.lowAsserted k = (s.reclaimLoss k).moveTank k .filling .lowSwitch := by
    unfold State.lowAsserted
    rw [h]
  have hs' : (s.reclaimLoss k).service = some k := by simpa using hs
  rw [hlow, State.moveTank, State.moveTank, if_pos hs, if_pos hs', reclaimLoss_twice]

/-- Settles O46: a timer's expiry by the tank's state, and the queue the two requests leave. -/
theorem tankTimersStartSampling : Obligations.TankTimersStartSampling := by
  rintro k s u hs rfl
  refine ⟨fun h => ?_, fun d hst hd hu => ⟨fun hlow => ?_, fun hlow => ?_⟩, fun h => ?_, fun d hst hd => ?_⟩
  · exact event_eq (c := .tankSettleExpiry k) rfl hs (tankSettled_still h) (.refl s)
  · exact event_eq (c := .tankSettleExpiry k) rfl hs
      ((tankSettled_eq hst hd).trans (setTank_filled_unsampled (restOf_low nofun nofun hlow) hu)) (sameSign_tank ..)
  · exact event_eq (c := .tankSettleExpiry k) rfl hs
      ((tankSettled_eq hst hd).trans (setTank_sampling (restOf_clear nofun hlow) hu)) (sameSign_tank ..)
  · exact event_eq (c := .resampleExpiry k) rfl hs (resampleDue_still h) (.refl s)
  · exact event_eq (c := .resampleExpiry k) rfl hs (resampleDue_eq hst hd) (sameSign_tank ..)

/-- Settles O45: a switch by the tank's state, the level followed first. -/
theorem tankSwitchesAct : Obligations.TankSwitchesAct := by
  refine ⟨?low, ?high, fun k s => ⟨rfl, rfl⟩⟩
  case low =>
    rintro k s s' u hs rfl hs'
    have hexec : ∀ t, s'.lowAsserted k = t → s'.SameSign t → exec (.lowSwitchAssert k) s = .next t := fun t =>
      event_eq (f := fun s => s.lowAsserted k) (by rw [hs']; rfl) (by rw [hs']; exact hs)
    have hlow : s'.lines.low.get k = true := by rw [hs']; exact perTank_get_self ..
    have hrest : s'.restOf k .filling = if s'.lines.high.get k then .settling else .filling := restOf_low nofun nofun hlow
    refine ⟨fun h => hexec _ (lowAsserted_still (by rw [hs']; exact h)) (.refl _), fun h => ?_, fun o hst hserves ho => ?_⟩
    · have hset := (lowAsserted_fills (s := s') (by rw [hs']; exact h)).trans (setTank_filled hrest)
      have hdone := hexec _ hset (sameSign_tank ..)
      subst hs'
      exact hdone
    · have hstate : (s'.tanks.get k).state = .service := by rw [hs']; exact hst
      have hservice : s'.service = some k := by rw [hs']; exact hserves
      have hleft := moveTank_left (s := s') (st := .filling) (c := .lowSwitch) hservice nofun
      have hdone := hexec _ (lowAsserted_leaves hstate hservice) (sameSign_tanks hleft.frame)
      have hunit : (s'.moveTank k .filling .lowSwitch).tanks.get k = _ := hleft.unit
      rw [hrest] at hunit
      have hconv := hleft.conv
      have hhanded := hleft.handed
      have hframe := hleft.frame
      have hlost := hleft.lost
      revert hdone hunit hconv hhanded hframe hlost
      generalize s'.moveTank k .filling .lowSwitch = t
      intro hdone hunit hconv hhanded hframe hlost
      subst hs' ho
      refine ⟨t, hdone, congrArg TankUnit.state hunit, (congrArg TankUnit.outlet hunit).trans ?_,
        (congrArg TankUnit.resampleTimer hunit).trans ?_, congrArg TankUnit.salt hunit, congrArg TankUnit.turb hunit,
        hconv, ?_, hlost, hframe⟩
      · cases s.lines.high.get k <;> rfl
      · cases s.lines.high.get k <;> rfl
      · have hlow' : (s.lines.low.set k true).get (otherTank k) = s.lines.low.get (otherTank k) := perTank_get_other ..
        simp only [State.HandedOver, hlow'] at hhanded ⊢
        exact hhanded
  case high =>
    rintro k s s' u hs rfl hs'
    have hexec : ∀ t, s'.highAsserted k = t → s'.SameSign t → exec (.highSwitchAssert k) s = .next t := fun t =>
      event_eq (f := fun s => s.highAsserted k) (by rw [hs']; rfl) (by rw [hs']; exact hs)
    refine ⟨fun h => hexec _ (if_neg (by rw [hs']; exact h)) (.refl _), fun h => ?_⟩
    have hset : s'.highAsserted k = _ := (if_pos (by rw [hs']; exact h)).trans (setTank_eq (st := .settling) nofun)
    have hdone := hexec _ hset (sameSign_tank ..)
    subst hs'
    exact hdone

end Sys2Proof.Machine
end

section
/-! The host's requests to the tanks and to the Probe Converter (R123 to R125, R129). -/

namespace Sys2Proof.Machine

variable {s t u x : State} {k : Tank} {p : Port} {st : TankState} {c : TankCause}

/-! ### A tank moved, whether it served or not -/

theorem moveTank_unit (h : st ≠ .sampling) :
    (s.moveTank k st c).tanks.get k = s.entered (s.restOf k st) (s.tanks.get k) := by
  by_cases hs : s.service = some k
  · exact (moveTank_left hs h).unit
  · rw [moveTank_plain hs, setTank_eq (restOf_not_sampling s k h)]
    exact perTank_get_self ..

theorem moveTank_conv (h : st ≠ .sampling) (ho : s.service ≠ some k ∨ (s.tanks.get (otherTank k)).state ≠ .ready ∨
    (s.tanks.get (otherTank k)).sampled = false) : (s.moveTank k st c).conv = s.convLeft k := by
  by_cases hs : s.service = some k
  · exact (moveTank_left hs h).conv (ho.resolve_left (not_not.2 hs))
  · rw [moveTank_plain hs, setTank_eq (restOf_not_sampling s k h)]

theorem moveTank_rest (h : st ≠ .sampling) : s.moveTank k st c = { s with
    tanks := (s.moveTank k st c).tanks, service := (s.moveTank k st c).service, conv := (s.moveTank k st c).conv
    bays := (s.moveTank k st c).bays, links := (s.moveTank k st c).links } := by
  by_cases hs : s.service = some k
  · exact (moveTank_left hs h).frame
  · rw [moveTank_plain hs, setTank_eq (restOf_not_sampling s k h)]

/-- A tank that did not serve: nothing but its unit and the converter changes. -/
theorem moveTank_aside (h : st ≠ .sampling) (hs : s.service ≠ some k) :
    (s.moveTank k st c).service = s.service ∧ (s.moveTank k st c).bays = s.bays ∧
      (s.moveTank k st c).tanks.get (otherTank k) = s.tanks.get (otherTank k) ∧
      (s.moveTank k st c).links = s.links := by
  rw [moveTank_plain hs, setTank_eq (restOf_not_sampling s k h)]
  exact ⟨rfl, rfl, perTank_get_other .., rfl⟩

theorem State.HandedOver.congr (h : s.HandedOver t k c) (ht : u.tanks = t.tanks) (hs : u.service = t.service)
    (hl : t.KeepsLatch u .tankChange) : s.HandedOver u k c := by
  obtain ⟨hservice, hother, hready, hshows⟩ := h
  rw [State.HandedOver, ht, hs]
  exact ⟨hservice, hother, hready, hshows.keep hl⟩

/-- The tank that takes over is read as it stood before, too. -/
theorem State.HandedOver.before (h : x.HandedOver t k c) (ho : x.tanks.get (otherTank k) = s.tanks.get (otherTank k))
    (hlines : x.lines = s.lines) (htime : x.laneTime = s.laneTime) (ha : x.active = s.active) :
    s.HandedOver t k c := by
  rw [State.HandedOver, ho, hlines, htime, ha] at h
  exact h

theorem State.ReclaimLost.before (h : x.ReclaimLost t k) (hb : x.bays = s.bays) (hl : s.KeepsLatch x .reclaimLost) :
    s.ReclaimLost t k := by
  rw [State.ReclaimLost] at h
  simp only [State.LosesReclaim, hb] at h
  obtain ⟨hacts, hothers, hquiet⟩ := h
  exact ⟨hacts, hothers, fun hno => hl.trans (hquiet hno)⟩

/-! ### TANK DUMP, TANK HOLD (R123) -/

theorem tankOf_tankCode (k : Tank) : tankOf (tankCode k) = some k := by cases k <;> rfl

theorem tankOf_out {n : Nat} (h : 1 < n) : tankOf n = none := by
  match n, h with
  | n + 2, _ => rfl

theorem probeOf_probeCode (y : Probe) : probeOf (probeCode y) = some y := by cases y <;> rfl

theorem probeOf_out {n : Nat} (h : 3 < n) : probeOf n = none := by
  match n, h with
  | n + 4, _ => rfl

theorem sendTank_refused {n : Nat} (hn : n = tankCode k) (h : (s.tanks.get k).state = st) :
    s.sendTank n st c = (s, refuse .refusedState) := by
  subst hn
  rw [State.sendTank, tankOf_tankCode]
  exact if_pos h

/-- A tank with its reclaim share cleared. -/
def State.unshared (s : State) (k : Tank) : State :=
  s.modTank k fun u => { u with share := none }

theorem unshared_unit (s : State) (k : Tank) :
    (s.unshared k).tanks.get k = { s.tanks.get k with share := none } := perTank_get_self ..

theorem unshared_other (s : State) (k : Tank) :
    (s.unshared k).tanks.get (otherTank k) = s.tanks.get (otherTank k) := perTank_get_other ..

theorem unshared_convLeft (s : State) (k : Tank) : (s.unshared k).convLeft k = s.convLeft k := by
  rw [State.convLeft, unshared_unit]
  rfl

theorem sendTank_moved {n : Nat} (hn : n = tankCode k) (h : (s.tanks.get k).state ≠ st) : s.sendTank n st c =
    ((s.unshared k).moveTank k st c, accept (be 1 (s.tanks.get k).state.ctorIdx)) := by
  subst hn
  rw [State.sendTank, tankOf_tankCode]
  exact if_neg h

/-- Where a tank sent by the host rests. -/
theorem restOf_sent (hst : st = .dumping ∨ st = .held) :
    (st = .held ∨ s.lines.low.get k = false → s.restOf k st = st) ∧
    (st = .dumping → s.lines.low.get k = true →
      s.restOf k st = if s.lines.high.get k then .settling else .filling) ∧
    s.restOf k st ≠ .service := by
  unfold State.restOf
  generalize s.lines.low.get k = low
  generalize s.lines.high.get k = high
  revert low high
  rcases hst with rfl | rfl <;> decide

/-- What TANK DUMP or TANK HOLD of a tank in another state leaves. -/
theorem exec_sendTank {i : Instr} {r : Request} {n : Nat} (hc : i.request = some (p, r)) (hs : s.Ready p)
    (hserve : (s.abandonFrame p).serve p r = (s.abandonFrame p).sendTank n st c) (hn : n = tankCode k)
    (hst : st = .dumping ∨ st = .held) (hne : (s.tanks.get k).state ≠ st) :
    ∃ t, exec i s = .next t ∧ s.Answered t p r (accept (be 1 (s.tanks.get k).state.ctorIdx)) ∧
      (t.tanks.get k).share = none ∧ (t.tanks.get k).salt = .notAwaited ∧ (t.tanks.get k).turb = .notAwaited ∧
      (t.tanks.get k).outlet = false ∧ (t.tanks.get k).resampleTimer = none ∧
      (st = .held ∨ s.lines.low.get k = false →
        (t.tanks.get k).state = st ∧ (t.tanks.get k).settleTimer = none ∧
        (t.tanks.get k).dump = (st == .dumping)) ∧
      (st = .dumping → s.lines.low.get k = true →
        (t.tanks.get k).state = (if s.lines.high.get k then .settling else .filling)) ∧
      (s.service ≠ some k ∨ (s.tanks.get (otherTank k)).state ≠ .ready ∨ (s.tanks.get (otherTank k)).sampled = false →
        t.conv = s.convLeft k) ∧
      (s.service ≠ some k →
        t.service = s.service ∧ t.bays = s.bays ∧ t.tanks.get (otherTank k) = s.tanks.get (otherTank k)) ∧
      (s.service = some k → t.service ≠ some k ∧ s.HandedOver t k c ∧ s.ReclaimLost t k) ∧
      t = { s with tanks := t.tanks, service := t.service, conv := t.conv, bays := t.bays, links := t.links } := by
  have hns : st ≠ .sampling := by rcases hst with rfl | rfl <;> nofun
  obtain ⟨y, hy⟩ : ∃ y, y = (s.abandonFrame p).unshared k := ⟨_, rfl⟩
  have hserve' := hserve.trans (sendTank_moved (s := s.abandonFrame p) hn hne)
  rw [← hy] at hserve'
  have hrest := moveTank_rest (s := y) (k := k) (c := c) hns
  have hunit := moveTank_unit (s := y) (k := k) (c := c) hns
  have hframe : y.moveTank k st c = { s with
      tanks := (y.moveTank k st c).tanks, service := (y.moveTank k st c).service, conv := (y.moveTank k st c).conv
      bays := (y.moveTank k st c).bays, links := (y.moveTank k st c).links } := by
    rw [hrest, hy]
    rfl
  have hsign : s.SameSign (y.moveTank k st c) := sameSign_tanks hframe
  obtain ⟨l, hexec, hans, hkeep⟩ := exec_answered_sameSign hc hs hserve' hsign
  have hother : y.tanks.get (otherTank k) = s.tanks.get (otherTank k) := by rw [hy]; exact unshared_other ..
  obtain ⟨hstay, hfill, hno⟩ := restOf_sent (s := s) (k := k) hst
  have hrestOf : y.restOf k st = s.restOf k st := by rw [hy]; rfl
  have hyk : y.tanks.get k = { s.tanks.get k with share := none } := by rw [hy]; exact unshared_unit ..
  have hconv : y.convLeft k = s.convLeft k := by rw [hy]; exact unshared_convLeft ..
  have hkept : s.KeepsLatch y .reclaimLost := by rw [hy]; exact keepsLatch_abandonFrame s p _
  have hyservice : y.service = s.service := by rw [hy]; rfl
  have hybays : y.bays = s.bays := by rw [hy]; rfl
  have hylines : y.lines = s.lines := by rw [hy]; rfl
  have hytime : y.laneTime = s.laneTime := by rw [hy]; rfl
  have hyactive : y.active = s.active := by rw [hy]; rfl
  rw [hrestOf, hyk] at hunit
  refine ⟨_, hexec, hans, congrArg TankUnit.share hunit, congrArg TankUnit.salt hunit, congrArg TankUnit.turb hunit,
    (congrArg TankUnit.outlet hunit).trans (beq_eq_false_iff_ne.2 hno),
    (congrArg TankUnit.resampleTimer hunit).trans (if_neg hno), fun h => ?_, fun hd hlow => ?_, fun h => ?_, fun h => ?_,
    fun h => ?_, congrArg (fun z : State => { z with links := l }) hframe⟩
  · rw [hstay h] at hunit
    refine ⟨congrArg TankUnit.state hunit, (congrArg TankUnit.settleTimer hunit).trans (if_neg ?_),
      congrArg TankUnit.dump hunit⟩
    rcases hst with rfl | rfl <;> nofun
  · rw [hfill hd hlow] at hunit
    exact congrArg TankUnit.state hunit
  · exact (moveTank_conv hns (by rw [hyservice, hother]; exact h)).trans hconv
  · obtain ⟨hservice, hbays, htanks, _⟩ := moveTank_aside (s := y) (c := c) hns (by rw [hyservice]; exact h)
    exact ⟨hservice.trans hyservice, hbays.trans hybays, htanks.trans hother⟩
  · have hleft := moveTank_left (s := y) (c := c) (hyservice.trans h) hns
    exact ⟨hleft.service, (hleft.handed.before hother hylines hytime hyactive).congr rfl rfl (hkeep _),
      (hleft.lost.before hybays hkept).congr rfl (hkeep _)⟩

/-- A frame abandoned and an event latched, in either order. -/
theorem latch_abandonFrame (s : State) (p : Port) (e : Event) :
    (s.abandonFrame p).latch e = (s.latch e).abandonFrame p := by
  cases p <;> rfl

/-! ### TANK RESUME, TANK SERVE (R124) -/

theorem doTankResume_refused {n : Nat} (hn : n = tankCode k) (h : (s.tanks.get k).state ≠ .held) :
    s.doTankResume n = (s, refuse .refusedState) := by
  subst hn
  rw [State.doTankResume, tankOf_tankCode]
  exact if_neg h

theorem doTankResume_held {n : Nat} (hn : n = tankCode k) (h : (s.tanks.get k).state = .held)
    (ht : s.setTank k (if s.lines.high.get k then .sampling else .filling) = t) :
    s.doTankResume n = (t, accept (be 1 (t.tanks.get k).state.ctorIdx)) := by
  subst hn ht
  rw [State.doTankResume, tankOf_tankCode]
  exact if_pos h

theorem doTankResume_fills {n : Nat} (hn : n = tankCode k) (h : (s.tanks.get k).state = .held)
    (hu : (s.tanks.get k).sampled = false) (hh : s.lines.high.get k = false) : s.doTankResume n = ({ s with
      tanks := s.tanks.set k { s.tanks.get k with
        state := .filling, settleTimer := none, settleLeft := none, resampleTimer := none, inlet := true, dump := false
        outlet := false } }, accept (be 1 TankState.filling.ctorIdx)) := by
  have hrest : s.restOf k .filling = .filling := by rw [State.restOf, hh]; rfl
  rw [doTankResume_held hn h rfl, hh, if_neg nofun, setTank_eq (by rw [hrest]; nofun), hrest, entered_unsampled hu,
    convLeft_unsampled hu, perTank_get_self]
  rfl

theorem doTankResume_settles {n : Nat} (hn : n = tankCode k) (h : (s.tanks.get k).state = .held)
    (hu : (s.tanks.get k).sampled = false) (hh : s.lines.high.get k = true) (hl : s.lines.low.get k = true) :
    s.doTankResume n = ({ s with
      tanks := s.tanks.set k { s.tanks.get k with
        state := .settling, settleTimer := some (s.laneTime + 60000 * s.active.settlingTime), settleLeft := none
        resampleTimer := none, inlet := false, dump := false, outlet := false } },
      accept (be 1 TankState.settling.ctorIdx)) := by
  have hrest : s.restOf k .sampling = .settling := by rw [State.restOf, hh, hl]; rfl
  rw [doTankResume_held hn h rfl, hh, if_pos rfl, setTank_eq (by rw [hrest]; nofun), hrest, entered_unsampled hu,
    convLeft_unsampled hu, perTank_get_self]
  rfl

theorem doTankResume_samples {n : Nat} (hn : n = tankCode k) (h : (s.tanks.get k).state = .held)
    (hu : (s.tanks.get k).sampled = false) (hh : s.lines.high.get k = true) (hl : s.lines.low.get k = false) :
    s.doTankResume n = ({ s with
      conv := s.convSampling k
      tanks := s.tanks.set k { s.tanks.get k with
        state := .sampling, settleTimer := none, settleLeft := none, resampleTimer := none, salt := .awaited
        turb := .awaited, fault := none, inlet := false, dump := false, outlet := false } },
      accept (be 1 TankState.sampling.ctorIdx)) := by
  rw [doTankResume_held hn h rfl, hh, if_pos rfl, setTank_sampling (restOf_clear nofun hl) hu, perTank_get_self]

theorem doTankServe_refused {n : Nat} (hn : n = tankCode k) (h : (s.tanks.get k).state ≠ .ready ∨ s.service ≠ none) :
    s.doTankServe n = (s, answer .refusedState (be 1 s.tanks.a.state.ctorIdx ++ be 1 s.tanks.b.state.ctorIdx)) := by
  subst hn
  rw [State.doTankServe, tankOf_tankCode]
  exact if_neg fun hc => h.elim (fun hr => hr hc.1) fun hs => hs hc.2

theorem doTankServe_done {n : Nat} (hn : n = tankCode k) (h : (s.tanks.get k).state = .ready) (hs : s.service = none) :
    s.doTankServe n = ((s.takeService k).noteService none .tankServe, accept []) := by
  subst hn
  rw [State.doTankServe, tankOf_tankCode]
  exact if_pos ⟨h, hs⟩

theorem takeService_served (h : s.lines.low.get k = false) (hu : (s.tanks.get k).sampled = false) :
    (s.takeService k).noteService none c = State.latch { s with
      service := some k
      tanks := s.tanks.set k { s.tanks.get k with
        state := .service, settleTimer := none, settleLeft := none
        resampleTimer := some (s.laneTime + 60000 * s.active.resampleInterval), inlet := false, dump := false
        outlet := true } } (.tankChange none (some k) c (s.tanks.get k).share) := by
  rw [takeService_clear h, entered_unsampled hu, convLeft_unsampled hu, noteService_changed fun hn => Option.some_ne_none k hn.symm]
  simp only [Option.bind_some, perTank_get_self]
  rfl

theorem takeService_filled (h : s.lines.low.get k = true) (hu : (s.tanks.get k).sampled = false) (hs : s.service = none) :
    (s.takeService k).noteService none c = { s with
      tanks := s.tanks.set k { s.tanks.get k with
        state := if s.lines.high.get k then .settling else .filling
        settleTimer := if s.lines.high.get k then some (s.laneTime + 60000 * s.active.settlingTime) else none
        settleLeft := none, resampleTimer := none, inlet := !s.lines.high.get k, dump := false, outlet := false } } := by
  rw [takeService_low h, entered_unsampled hu, convLeft_unsampled hu, noteService_same (by exact hs.symm)]
  cases s.lines.high.get k <;> rfl

/-! ### SPOT SAMPLE (R129) -/

theorem doSpotSample_eq {n : Nat} {y : Probe} (hn : n = probeCode y) :
    s.doSpotSample p n = (s.request y (addSpot p), accept (be 1 (placeOf y (s.request y (addSpot p)).conv.requests))) := by
  subst hn
  rw [State.doSpotSample, probeOf_probeCode]

theorem addSpot_probe (p : Port) (e : ConvRequest) : (addSpot p e).probe = e.probe := by cases p <;> rfl

theorem kick_requests (c : Converter) (n : Nat) : (c.kick n).requests = c.requests := by
  unfold Converter.kick
  split <;> rfl

theorem mem_joinRequests {l : List ConvRequest} {y : Probe} {e : ConvRequest} (he : e ∈ joinRequests l y (addSpot p))
    (hy : e.probe = y) : ∃ e', e = addSpot p e' := by
  unfold joinRequests at he
  split at he
  · obtain ⟨e', _, rfl⟩ := List.mem_map.1 he
    split at hy
    next h => exact ⟨e', if_pos h⟩
    next h => exact absurd hy h
  next hany =>
    rcases List.mem_append.1 he with hl | hl
    · exact absurd ((any_probe_iff l y).2 (List.mem_map.2 ⟨e, hl, hy⟩)) hany
    · exact ⟨_, List.mem_singleton.1 hl⟩

theorem joinRequests_probes (l : List ConvRequest) (y : Probe) (p : Port) :
    (joinRequests l y (addSpot p)).map (·.probe) =
      l.map (·.probe) ++ if y ∈ l.map (·.probe) then [] else [y] := by
  unfold joinRequests
  by_cases h : y ∈ l.map (·.probe)
  · rw [if_pos ((any_probe_iff l y).2 h), if_pos h, List.append_nil, List.map_map]
    refine List.map_congr_left fun e _ => ?_
    dsimp only [Function.comp]
    split
    · exact addSpot_probe ..
    · rfl
  · rw [if_neg fun hany => h ((any_probe_iff l y).1 hany), if_neg h, List.map_append]
    exact congrArg (fun z => l.map (·.probe) ++ [z]) (addSpot_probe ..)

/-- The entry at the place that is answered is the port's. -/
theorem joinRequests_place (l : List ConvRequest) (y : Probe) (p : Port) :
    ∃ i e, placeOf y (joinRequests l y (addSpot p)) = i + 1 ∧
      (joinRequests l y (addSpot p))[i]? = some (addSpot p e) ∧ (addSpot p e).probe = y := by
  have hmem : y ∈ (joinRequests l y (addSpot p)).map (·.probe) := by
    rw [joinRequests_probes]
    by_cases h : y ∈ l.map (·.probe)
    · exact List.mem_append_left _ h
    · rw [if_neg h]
      exact List.mem_append_right _ List.mem_cons_self
  generalize hl : joinRequests l y (addSpot p) = l' at hmem
  have hlt : l'.findIdx (fun e => e.probe == y) < l'.length := by
    obtain ⟨e, he, hy⟩ := List.mem_map.1 hmem
    exact List.findIdx_lt_length_of_exists ⟨e, he, beq_iff_eq.2 hy⟩
  have hfound := beq_iff_eq.1 (List.findIdx_getElem (w := hlt))
  obtain ⟨e, he⟩ := mem_joinRequests (p := p) (by rw [hl]; exact List.getElem_mem hlt) hfound
  exact ⟨_, e, rfl, (List.getElem?_eq_getElem hlt).trans (congrArg some he), by rw [← he]; exact hfound⟩

/-- Settles O49: each request by the tank's state and switches, and SPOT SAMPLE by the queue it joins. -/
theorem tankRequests : Obligations.TankRequests := by
  refine ⟨fun p n s hs => ⟨fun hn => ⟨?_, ?_, ?_, ?_⟩, fun hn => ?_, ?_⟩, fun p n k s u hs hn hu => ?tank,
    fun p n y s hs hn => ?spot⟩
  · exact exec_of_unchanged (c := .tankDump p n) rfl hs
      (by simp only [State.serve, State.doTankDump, State.sendTank, tankOf_out hn])
  · exact exec_of_unchanged (c := .tankHold p n) rfl hs
      (by simp only [State.serve, State.doTankHold, State.sendTank, tankOf_out hn])
  · exact exec_of_unchanged (c := .tankResume p n) rfl hs (by simp only [State.serve, State.doTankResume, tankOf_out hn])
  · exact exec_of_unchanged (c := .tankServe p n) rfl hs (by simp only [State.serve, State.doTankServe, tankOf_out hn])
  · exact exec_of_unchanged (c := .spotSample p n) rfl hs (by simp only [State.serve, State.doSpotSample, probeOf_out hn])
  · exact exec_of_unchanged (c := .tankStatus p) rfl hs rfl
  case tank =>
    subst hu
    refine ⟨fun c r st cause hmem => ?send, fun hst => ?_, fun hst hu => ⟨fun hh => ?_, fun hh hl => ?_, fun hh hl => ?_⟩,
      fun hst => ?_, fun hst hser hl hu => ?_, fun hst hser hl hu => ?_⟩
    case send =>
      simp only [List.mem_cons, List.not_mem_nil, or_false, Prod.mk.injEq] at hmem
      rcases hmem with ⟨rfl, rfl, rfl, rfl⟩ | ⟨rfl, rfl, rfl, rfl⟩
      · exact ⟨fun h => exec_of_unchanged (c := .tankDump p n) rfl hs (sendTank_refused (s := s.abandonFrame p) hn h),
          fun h => exec_sendTank (i := .tankDump p n) rfl hs rfl hn (.inl rfl) h⟩
      · exact ⟨fun h => exec_of_unchanged (c := .tankHold p n) rfl hs (sendTank_refused (s := s.abandonFrame p) hn h),
          fun h => exec_sendTank (i := .tankHold p n) rfl hs rfl hn (.inr rfl) h⟩
    · exact exec_of_unchanged (c := .tankResume p n) rfl hs (doTankResume_refused (s := s.abandonFrame p) hn hst)
    · exact exec_of_changed (c := .tankResume p n) rfl hs (doTankResume_fills (s := s.abandonFrame p) hn hst hu hh)
        rfl rfl rfl rfl
    · obtain ⟨l, hexec, hans, _⟩ := exec_answered_sameSign (c := .tankResume p n) rfl hs
        (doTankResume_samples (s := s.abandonFrame p) hn hst hu hh hl) (sameSign_tanks rfl)
      exact ⟨_, hexec, hans, rfl, rfl, rfl⟩
    · exact exec_of_changed (c := .tankResume p n) rfl hs (doTankResume_settles (s := s.abandonFrame p) hn hst hu hh hl)
        rfl rfl rfl rfl
    · exact exec_of_unchanged (c := .tankServe p n) rfl hs (doTankServe_refused (s := s.abandonFrame p) hn hst)
    · exact exec_of_changed (c := .tankServe p n) rfl hs ((doTankServe_done (s := s.abandonFrame p) hn hst hser).trans
        (congrArg (·, accept []) ((takeService_served (s := s.abandonFrame p) hl hu).trans
          (latch_abandonFrame { s with service := _, tanks := _ } p _)))) rfl rfl rfl rfl
    · exact exec_of_changed (c := .tankServe p n) rfl hs ((doTankServe_done (s := s.abandonFrame p) hn hst hser).trans
        (congrArg (·, accept []) (takeService_filled (s := s.abandonFrame p) hl hu hser))) rfl rfl rfl rfl
  case spot =>
    obtain ⟨l, hexec, hans, hkeep⟩ := exec_answered_sameSign (c := .spotSample p n) rfl hs
      (doSpotSample_eq (s := s.abandonFrame p) hn) (sameSign_tanks rfl)
    have hreq : ((s.abandonFrame p).request y (addSpot p)).conv.requests = joinRequests s.conv.requests y (addSpot p) :=
      kick_requests ..
    obtain ⟨i, e, hplace, hget, hprobe⟩ := joinRequests_place s.conv.requests y p
    rw [← hreq] at hplace hget
    rw [hplace] at hans
    refine ⟨_, i, addSpot p e, hexec, hans, hget, hprobe, by cases p <;> rfl,
      (congrArg (List.map (·.probe)) hreq).trans (joinRequests_probes ..), fun h => ?_, fun h => ?_, rfl⟩
    · have hconv : ((s.abandonFrame p).request y (addSpot p)).conv =
          { s.conv with requests := joinRequests s.conv.requests y (addSpot p) } := kick_busy (by exact h)
      exact hconv.trans (congrArg (fun l => { s.conv with requests := l }) hreq.symm)
    · have hconv : ((s.abandonFrame p).request y (addSpot p)).conv = _ :=
        kick_idle (by exact h) (joinRequests_ne_nil s.conv.requests y (addSpot p))
      exact ⟨congrArg Converter.phase hconv, congrArg Converter.nRef hconv, congrArg Converter.up hconv,
        congrArg Converter.time hconv⟩

end Sys2Proof.Machine
end

section
/-! The Probe Converter's conversions: how one ends, whom its result reaches, and the retry or fault of a tank (R116,
R117, R126 to R129). -/

namespace Sys2Proof.Machine

variable {s t x : State} {k : Tank} {c : Instr} {e : ConvRequest} {l : List ConvRequest} {o : OutcomeKind}
  {n : Option Nat} {r : Option Reading}

/-! ### The end of a conversion, up to its delivery -/

/-- The ports after SPOT-RESULT of an ending conversion, where a port asked for it (R129). -/
def State.spotLinks (s : State) (e : ConvRequest) (o : OutcomeKind) (n q : Option Nat) : PerPort Link :=
  if e.spot1 = true ∨ e.spot2 = true then
    (s.latch (.spotResult e.probe o n q (decide (o = .saturated)) s.conv.nRef e.spot1 e.spot2 s.clock.time)).links
  else s.links

/-- The state as an ending conversion's result goes to its requesters: its entry gone, the converter idle, SPOT-RESULT
latched. -/
def State.ending (s : State) (l : List ConvRequest) (links : PerPort Link) : State :=
  { s with conv := { s.conv with phase := .idle, requests := l }, links := links }

theorem spotResult_ending (s : State) (e : ConvRequest) (l : List ConvRequest) (o : OutcomeKind) (n : Option Nat)
    (r : Option Reading) :
    State.spotResult { s with conv := { s.conv with phase := .idle, requests := l } } e o n r =
      s.ending l (s.spotLinks e o n (r.map (·.q))) := by
  unfold State.spotResult State.ending State.spotLinks
  by_cases h : e.spot1 = true ∨ e.spot2 = true
  · rw [if_pos (by simpa using h), if_pos h]
    rfl
  · rw [if_neg (by simpa using h), if_neg h]

theorem endConversion_eq (h : s.conv.requests = e :: l) (hx : x = s.ending l (s.spotLinks e o n (r.map (·.q)))) :
    s.endConversion o n r = State.modConv (if e.tank then x.deliver e.probe o r else x) fun c =>
      c.kick s.active.nRef := by
  unfold State.endConversion
  rw [h]
  dsimp only [State.modConv, State.giveResult]
  rw [spotResult_ending, ← hx]

/-- The state of the statements: SPOT-RESULT latched, the converter at its next entry. -/
theorem spot_latched {q : Option Nat} : (if e.spot1 = true ∨ e.spot2 = true then
      State.latch { s with conv := s.convAfter l }
        (.spotResult e.probe o n q (decide (o = .saturated)) s.conv.nRef e.spot1 e.spot2 s.clock.time)
    else { s with conv := s.convAfter l }) = { s with conv := s.convAfter l, links := s.spotLinks e o n q } := by
  unfold State.spotLinks
  split <;> rfl

theorem kick_ending (s : State) (l : List ConvRequest) (links : PerPort Link) (x : PerTank TankUnit) :
    (State.modConv { s.ending l links with tanks := x } fun c => c.kick s.active.nRef) =
      { s with conv := s.convAfter l, links := links, tanks := x } :=
  congrArg (fun c : Converter => { s with conv := c, links := links, tanks := x }) (kick_convAfter s l)

/-! ### The delivery to a tank -/

theorem deliver_unawaited {p : Probe} (h : (s.tanks.get (probeTank p)).slot p ≠ .awaited) : s.deliver p o r = s := if_neg h

theorem deliver_reading {p : Probe} {y : Reading} (h : (s.tanks.get (probeTank p)).slot p = .awaited) :
    s.deliver p o (some y) = (s.modTank (probeTank p) fun u => u.receive p y).judgeIfBoth (probeTank p) := if_pos h

theorem deliver_fault {p : Probe} (h : (s.tanks.get (probeTank p)).slot p = .awaited) :
    s.deliver p o none = s.faultTank (probeTank p) { probe := p, outcome := o } := if_pos h

theorem judgeIfBoth_still (h : (∀ y, (s.tanks.get k).salt ≠ .received y) ∨ ∀ y, (s.tanks.get k).turb ≠ .received y) :
    s.judgeIfBoth k = s := by
  unfold State.judgeIfBoth
  split
  next y z hy hz => exact h.elim (fun h => absurd hy (h y)) fun h => absurd hz (h z)
  next => rfl

theorem judgeIfBoth_both {y z : Reading} (hy : (s.tanks.get k).salt = .received y)
    (hz : (s.tanks.get k).turb = .received z) : s.judgeIfBoth k = s.judge k y z := by
  unfold State.judgeIfBoth
  rw [hy, hz]

theorem isSalt_saltProbe (k : Tank) : isSalt (saltProbe k) = true := by cases k <;> rfl

theorem isSalt_turbProbe (k : Tank) : isSalt (turbProbe k) = false := by cases k <;> rfl

theorem probeTank_saltProbe (k : Tank) : probeTank (saltProbe k) = k := by cases k <;> rfl

theorem probeTank_turbProbe (k : Tank) : probeTank (turbProbe k) = k := by cases k <;> rfl

theorem slot_salt (k : Tank) (u : TankUnit) : u.slot (saltProbe k) = u.salt := if_pos (isSalt_saltProbe k)

theorem slot_turb (k : Tank) (u : TankUnit) : u.slot (turbProbe k) = u.turb :=
  if_neg (by rw [isSalt_turbProbe]; nofun)

theorem receive_salt (k : Tank) (u : TankUnit) (y : Reading) : u.receive (saltProbe k) y = { u with salt := .received y } :=
  if_pos (isSalt_saltProbe k)

theorem receive_turb (k : Tank) (u : TankUnit) (y : Reading) : u.receive (turbProbe k) y = { u with turb := .received y } :=
  if_neg (by rw [isSalt_turbProbe]; nofun)

/-- An awaited result is of a sampling in progress. -/
theorem sampled_of_awaited {u : TankUnit} {p : Probe} (h : u.slot p = .awaited) : u.sampled = true := by
  by_contra hno
  obtain ⟨hsalt, hturb⟩ := sampled_eq_false.1 (Bool.not_eq_true _ ▸ hno)
  unfold TankUnit.slot at h
  split at h
  · exact absurd (hsalt.symm.trans h) nofun
  · exact absurd (hturb.symm.trans h) nofun

/-- A first OPEN or SPAN: the probe is requested again (R117). -/
theorem faultTank_first {f : ProbeFault} (h : (s.tanks.get k).fault = none) : s.faultTank k f = { s with
    conv := s.convRequested f.probe, tanks := s.tanks.set k { s.tanks.get k with fault := some f } } := by
  unfold State.faultTank
  rw [h]
  exact request_tank _ f.probe

theorem faultTank_second {f g : ProbeFault} (h : (s.tanks.get k).fault = some g) : s.faultTank k f =
    (s.latch (.probeFault k (s.tanks.get k).state g f)).moveTank k .held .probeFault := by
  unfold State.faultTank
  rw [h]

/-- A withdrawal while the converter is idle. -/
theorem ending_withdraw (s : State) (l : List ConvRequest) (links : PerPort Link) (k : Tank) :
    (s.ending l links).conv.withdraw k = (s.ending (tankWithdrawn l k) links).conv := rfl

/-! ### The commands of a conversion's end -/

theorem probeOutcome_open {p : Nat} (h : p < 8) : probeOutcome p false = .openProbe := (if_neg nofun).trans (if_pos h)

theorem probeOutcome_good {p : Nat} (h : ¬ p < 8) : probeOutcome p false = .good := (if_neg nofun).trans (if_neg h)

theorem readingOf_open (p nRef : Nat) (sat : Bool) (h : probeOutcome p sat = .openProbe) :
    readingOf (probeOutcome p sat) p nRef = none := by
  rw [h]
  rfl

/-- Every outcome of a PROBE phase but OPEN has its Q and the flag. -/
theorem readingOf_done (p nRef : Nat) (sat : Bool) (h : probeOutcome p sat ≠ .openProbe) :
    readingOf (probeOutcome p sat) p nRef = some { q := min 65535 (p * 1024 / nRef), saturated := sat } := by
  cases sat with
  | true => rfl
  | false =>
    by_cases hp : p < 8
    · exact absurd (probeOutcome_open hp) h
    · rw [probeOutcome_good hp]
      rfl

theorem readingOf_q (p nRef : Nat) (sat : Bool) : (readingOf (probeOutcome p sat) p nRef).map (·.q) =
    if probeOutcome p sat = .openProbe then none else some (min 65535 (p * 1024 / nRef)) := by
  by_cases h : probeOutcome p sat = .openProbe
  · rw [readingOf_open p nRef sat h, if_pos h]
    rfl
  · rw [readingOf_done p nRef sat h, if_neg h]
    rfl

theorem conversionEnd_over (hp : s.conv.phase = .probe) (ht : s.conv.time = 0) : s.conversionEnd s.conv.up.toNat =
    s.endConversion (probeOutcome s.conv.up.toNat s.conv.saturated) (some s.conv.up.toNat)
      (readingOf (probeOutcome s.conv.up.toNat s.conv.saturated) s.conv.up.toNat s.conv.nRef) :=
  if_pos ⟨by simp [Converter.probeOver, hp, ht], rfl⟩

theorem conversionEnd_still {m : Nat} (h : s.conv.phase ≠ .probe ∨ s.conv.time ≠ 0 ∨ m ≠ s.conv.up.toNat) :
    s.conversionEnd m = s := if_neg fun hc => by
  obtain ⟨hover, hm⟩ := hc
  simp only [Converter.probeOver, Bool.and_eq_true, beq_iff_eq] at hover
  exact h.elim (fun h => h hover.1) fun h => h.elim (fun h => h hover.2) fun h => h hm

theorem spanEnd_over (hp : s.conv.phase = .reference) (hu : s.conv.up ≠ 0) (ht : s.conv.time = 65535) :
    s.spanEnd = s.endConversion .span none none := if_pos (by
  simp only [Converter.spanOver, Bool.and_eq_true, beq_iff_eq, bne_iff_ne]
  exact ⟨⟨hp, hu⟩, ht⟩)

theorem spanEnd_still (h : s.conv.phase ≠ .reference ∨ s.conv.up = 0 ∨ s.conv.time ≠ 65535) : s.spanEnd = s :=
  if_neg fun hover => by
    simp only [Converter.spanOver, Bool.and_eq_true, beq_iff_eq, bne_iff_ne] at hover
    exact h.elim (fun h => h hover.1.1) fun h => h.elim hover.1.2 fun h => h hover.2

theorem referenceDone_over (hp : s.conv.phase = .reference) (hu : s.conv.up = 0) :
    s.modConv Converter.referenceDone = { s with conv := { s.conv with phase := .probe } } :=
  congrArg (fun c : Converter => { s with conv := c }) (if_pos (by simp [Converter.referenceOver, hp, hu]))

theorem referenceDone_still (h : s.conv.phase ≠ .reference ∨ s.conv.up ≠ 0) :
    s.modConv Converter.referenceDone = s :=
  congrArg (fun c : Converter => { s with conv := c }) (if_neg fun hover => by
    simp only [Converter.referenceOver, Bool.and_eq_true, beq_iff_eq] at hover
    exact h.elim (fun h => h hover.1) fun h => h hover.2)

/-! ### Results that change at most one tank's reading -/

/-- No tank awaits the result. -/
theorem endConversion_unawaited (hreq : s.conv.requests = e :: l)
    (h : e.tank = false ∨ (s.tanks.get (probeTank e.probe)).slot e.probe ≠ .awaited) :
    s.endConversion o n r = { s with conv := s.convAfter l, links := s.spotLinks e o n (r.map (·.q)) } := by
  rw [endConversion_eq hreq rfl]
  have hsame : (if e.tank then (s.ending l (s.spotLinks e o n (r.map (·.q)))).deliver e.probe o r
      else s.ending l (s.spotLinks e o n (r.map (·.q)))) = s.ending l (s.spotLinks e o n (r.map (·.q))) := by
    rcases h with h | h
    · exact if_neg (by rw [h]; nofun)
    · split
      · exact deliver_unawaited h
      · rfl
  rw [hsame]
  exact kick_ending s l _ s.tanks

/-- A tank receives a reading while its other result is not there. -/
theorem endConversion_received {y : Reading} (hreq : s.conv.requests = e :: l) (ht : e.tank = true)
    (hslot : (s.tanks.get (probeTank e.probe)).slot e.probe = .awaited)
    (hother : (∀ z, ((s.tanks.get (probeTank e.probe)).receive e.probe y).salt ≠ .received z) ∨
      ∀ z, ((s.tanks.get (probeTank e.probe)).receive e.probe y).turb ≠ .received z) :
    s.endConversion o n (some y) = { s with
      conv := s.convAfter l, links := s.spotLinks e o n (some y.q)
      tanks := s.tanks.set (probeTank e.probe) ((s.tanks.get (probeTank e.probe)).receive e.probe y) } := by
  rw [endConversion_eq hreq rfl, if_pos ht, deliver_reading (by exact hslot), judgeIfBoth_still]
  · exact kick_ending s l _ _
  · rw [modTank_eq]
    simp only [perTank_get_self]
    exact hother

/-- A tank's first OPEN or SPAN. -/
theorem endConversion_retried (hreq : s.conv.requests = e :: l) (ht : e.tank = true)
    (hslot : (s.tanks.get (probeTank e.probe)).slot e.probe = .awaited)
    (hf : (s.tanks.get (probeTank e.probe)).fault = none) : s.endConversion o n none = { s with
      conv := s.convAfter (tankRequested l e.probe), links := s.spotLinks e o n none
      tanks := s.tanks.set (probeTank e.probe)
        { s.tanks.get (probeTank e.probe) with fault := some { probe := e.probe, outcome := o } } } := by
  rw [endConversion_eq hreq rfl, if_pos ht, deliver_fault (by exact hslot), faultTank_first (by exact hf)]
  have hconv : ∀ links, (s.ending l links).convRequested e.probe = s.convAfter (tankRequested l e.probe) := fun links => by
    rw [State.convRequested, if_pos (by rfl)]
    unfold State.convAfter
    rw [if_neg (by exact tankRequested_ne_nil _ _), if_neg (tankRequested_ne_nil _ _)]
    rfl
  rw [hconv]
  have hbusy : (s.convAfter (tankRequested l e.probe)).phase ≠ .idle := by
    rw [State.convAfter, if_neg (tankRequested_ne_nil _ _)]
    nofun
  exact congrArg (fun c : Converter => { s with
    conv := c, links := s.spotLinks e o n none
    tanks := s.tanks.set (probeTank e.probe)
      { s.tanks.get (probeTank e.probe) with fault := some { probe := e.probe, outcome := o } } }) (kick_busy hbusy)

/-! ### A tank's second OPEN or SPAN (R117) -/

/-- PROBE-FAULT is latched as the tank leaves for HELD. -/
theorem endConversion_faulted {f : ProbeFault} (hreq : s.conv.requests = e :: l) (ht : e.tank = true)
    (hslot : (s.tanks.get (probeTank e.probe)).slot e.probe = .awaited)
    (hf : (s.tanks.get (probeTank e.probe)).fault = some f) (hk : k = probeTank e.probe)
    (hx : x = (s.ending l (s.spotLinks e o n none)).latch
      (.probeFault k (s.tanks.get k).state f { probe := e.probe, outcome := o })) :
    s.endConversion o n none = (x.moveTank k .held .probeFault).modConv fun c => c.kick s.active.nRef := by
  subst hk hx
  rw [endConversion_eq hreq rfl, if_pos ht, deliver_fault (by exact hslot), faultTank_second (by exact hf)]
  rfl

/-- The unit of a tank sent to HELD from a sampling. -/
theorem entered_held {u : TankUnit} (h : u.sampled = true) : s.entered .held u = { u with
    state := .held, settleTimer := none, settleLeft := none, resampleTimer := none, salt := .notAwaited
    turb := .notAwaited, fault := none, inlet := false, dump := false, outlet := false } := by
  rw [State.entered, h]
  rfl

theorem restOf_held (s : State) (k : Tank) : s.restOf k .held = .held := rfl

theorem convLeft_sampled (h : (s.tanks.get k).sampled = true) : s.convLeft k = s.conv.withdraw k := if_pos h

theorem endConversion_held {f : ProbeFault} (hreq : s.conv.requests = e :: l) (ht : e.tank = true)
    (hk : k = probeTank e.probe) (hslot : (s.tanks.get k).slot e.probe = .awaited)
    (hf : (s.tanks.get k).fault = some f) (hs : s.service ≠ some k) :
    s.endConversion o n none = State.latch { s with
      conv := s.convAfter (tankWithdrawn l k), links := s.spotLinks e o n none
      tanks := s.tanks.set k { s.tanks.get k with
        state := .held, settleTimer := none, settleLeft := none, resampleTimer := none, salt := .notAwaited
        turb := .notAwaited, fault := none, inlet := false, dump := false, outlet := false } }
      (.probeFault k (s.tanks.get k).state f { probe := e.probe, outcome := o }) := by
  have hsampled := sampled_of_awaited hslot
  rw [endConversion_faulted hreq ht (hk ▸ hslot) (hk ▸ hf) hk rfl, moveTank_plain (by exact hs),
    setTank_eq (by rw [restOf_held]; nofun), restOf_held, entered_held (by exact hsampled),
    convLeft_sampled (by exact hsampled)]
  exact congrArg (fun c : Converter => State.latch { s with
    conv := c, links := s.spotLinks e o n none
    tanks := s.tanks.set k { s.tanks.get k with
      state := .held, settleTimer := none, settleLeft := none, resampleTimer := none, salt := .notAwaited
      turb := .notAwaited, fault := none, inlet := false, dump := false, outlet := false } }
    (.probeFault k (s.tanks.get k).state f { probe := e.probe, outcome := o })) (kick_convAfter s (tankWithdrawn l k))

theorem spotLinks_keeps (s : State) (e : ConvRequest) (l : List ConvRequest) (o : OutcomeKind) (n q : Option Nat)
    {i : EventKind} (h : i ≠ .spotResult) : s.KeepsLatch (s.ending l (s.spotLinks e o n q)) i := by
  unfold State.spotLinks
  split
  · exact keepsLatch_latch s h
  · exact .refl s i

theorem endConversion_leaves {f : ProbeFault} (hreq : s.conv.requests = e :: l) (ht : e.tank = true)
    (hk : k = probeTank e.probe) (hslot : (s.tanks.get k).slot e.probe = .awaited)
    (hf : (s.tanks.get k).fault = some f) (hs : s.service = some k) {u' : TankUnit}
    (hu' : u' = { s.tanks.get k with
      state := .held, settleTimer := none, settleLeft := none, resampleTimer := none, salt := .notAwaited
      turb := .notAwaited, fault := none, inlet := false, dump := false, outlet := false }) :
    ∃ t, s.endConversion o n none = t ∧ t.tanks.get k = u' ∧ t.service ≠ some k ∧
      t.Shows (.probeFault k (s.tanks.get k).state f { probe := e.probe, outcome := o }) ∧
      s.HandedOver t k .probeFault ∧ s.ReclaimLost t k ∧
      ((s.tanks.get (otherTank k)).state = .ready → (s.tanks.get (otherTank k)).sampled = false →
        t.conv = s.convAfter (tankWithdrawn l k)) ∧
      ((s.tanks.get (otherTank k)).state ≠ .ready → t.service = none ∧ t.conv = s.convAfter (tankWithdrawn l k) ∧
        t.tanks = s.tanks.set k u') ∧
      t = { s with tanks := t.tanks, service := t.service, conv := t.conv, bays := t.bays, links := t.links } := by
  have hsampled := sampled_of_awaited hslot
  obtain ⟨x, hx⟩ : ∃ x, x = (s.ending l (s.spotLinks e o n none)).latch
      (.probeFault k (s.tanks.get k).state f { probe := e.probe, outcome := o }) := ⟨_, rfl⟩
  have hleft := moveTank_left (s := x) (k := k) (st := .held) (c := .probeFault) (by rw [hx]; exact hs) nofun
  have hunit : x.entered (x.restOf k .held) (x.tanks.get k) = u' := by
    rw [hx, hu']
    exact entered_held hsampled
  have hconv : x.convLeft k = (s.ending (tankWithdrawn l k) x.links).conv := by
    rw [hx]
    exact convLeft_sampled hsampled
  have hframe : x.moveTank k .held .probeFault = { s with
      tanks := (x.moveTank k .held .probeFault).tanks, service := (x.moveTank k .held .probeFault).service
      conv := (x.moveTank k .held .probeFault).conv, bays := (x.moveTank k .held .probeFault).bays
      links := (x.moveTank k .held .probeFault).links } := by
    rw [hleft.frame, hx]
    rfl
  have hshown : x.Shows (.probeFault k (s.tanks.get k).state f { probe := e.probe, outcome := o }) := by
    rw [hx]
    exact shows_latch _ _
  have hkeep : s.KeepsLatch x .reclaimLost := by
    rw [hx]
    exact (spotLinks_keeps s e l o n none (i := .reclaimLost) nofun).latch _ nofun
  have hother : x.tanks.get (otherTank k) = s.tanks.get (otherTank k) := by rw [hx]; rfl
  have hdone := endConversion_faulted hreq ht (hk ▸ hslot) (hk ▸ hf) hk hx
  have hlost := hleft.lost.before (s := s) (by rw [hx]; rfl) hkeep
  have hhanded := hleft.handed.before hother (by rw [hx]; rfl) (by rw [hx]; rfl) (by rw [hx]; rfl)
  have hkicked : (x.moveTank k .held .probeFault).conv = x.convLeft k →
      (x.moveTank k .held .probeFault).conv.kick s.active.nRef = s.convAfter (tankWithdrawn l k) := fun h => by
    rw [h, hconv]
    exact kick_convAfter s (tankWithdrawn l k)
  refine ⟨_, hdone, hleft.unit.trans hunit, hleft.service, hshown.keep (hleft.keeps _ nofun nofun), hhanded, hlost,
    fun _ h => hkicked (hleft.conv (.inr (by rw [hother]; exact h))), fun h => ⟨?_, ?_, ?_⟩,
    congrArg (fun y : State => { y with conv := y.conv.kick s.active.nRef }) hframe⟩
  · exact hhanded.1.trans (if_neg fun hc => h hc.1)
  · exact hkicked (hleft.conv (.inl (by rw [hother]; exact h)))
  · have htanks := hleft.tanks (by rw [hother]; exact h)
    rw [hunit] at htanks
    exact htanks.trans (by rw [hx]; rfl)

/-- Settles O47: an ending conversion, by whom its result reaches and what the tank makes of it. -/
theorem conversionsEnd : Obligations.ConversionsEnd := by
  refine ⟨fun s hs => ⟨fun hp hu => ?_, fun h => ?_, fun h => ?_, fun n h => ?_⟩,
    fun s s' n e l o q u hs hp ht hreq hu hn ho hq hs' => ?good, fun s s' c o n e l k u u' hs hc hreq hk hu hu' hs' => ?bad⟩
  · exact event_eq (c := .referenceCountDone) (f := fun s => s.modConv Converter.referenceDone) rfl hs (referenceDone_over hp hu) (sameSign_tanks rfl)
  · exact event_eq (c := .referenceCountDone) (f := fun s => s.modConv Converter.referenceDone) rfl hs (referenceDone_still h) (.refl s)
  · exact event_eq (c := .span) rfl hs (spanEnd_still h) (.refl s)
  · exact event_eq (c := .conversionEnd n) rfl hs (conversionEnd_still h) (.refl s)
  case good =>
    have ho' : o = probeOutcome s.conv.up.toNat s.conv.saturated := by rw [ho, hn]; rfl
    have hexec : ∀ t, s.endConversion o (some n) (readingOf o n s.conv.nRef) = t → s.SameSign t →
        exec (.conversionEnd n) s = .next t := fun t ht' => by
      subst hn ho'
      exact event_eq (c := .conversionEnd s.conv.up.toNat) rfl hs ((conversionEnd_over hp ht).trans ht')
    have hq' : (readingOf o n s.conv.nRef).map (·.q) = q := by
      subst hn ho' hq
      exact readingOf_q ..
    have hr : ∀ y, q = some y → readingOf o n s.conv.nRef = some { q := y, saturated := s.conv.saturated } := fun y hy => by
      subst hn ho'
      by_cases hopen : probeOutcome s.conv.up.toNat s.conv.saturated = .openProbe
      · rw [hq, if_pos hopen] at hy
        exact absurd hy nofun
      · rw [hq, if_neg hopen] at hy
        rw [readingOf_done _ _ _ hopen, Option.some.inj hy]
    rw [spot_latched] at hs'
    rw [hs']
    refine ⟨fun h => hexec _ ?_ (sameSign_tanks rfl), fun y he hy => ⟨fun hprobe hsalt hturb => hexec _ ?_ (sameSign_tanks rfl),
      fun hprobe hturb hsalt => hexec _ ?_ (sameSign_tanks rfl)⟩⟩
    · rw [endConversion_unawaited hreq (by rw [← hu]; exact h), hq']
    · have hrec : ∀ z, u.receive e.probe z = { u with salt := .received z } := fun z =>
        (congrArg (fun p => u.receive p z) hprobe).trans (receive_salt _ u z)
      have hslot : u.slot e.probe = .awaited := ((congrArg u.slot hprobe).trans (slot_salt _ u)).trans hsalt
      rw [hr y hy, hy, endConversion_received hreq he (by rw [← hu]; exact hslot) (.inr (by rw [← hu, hrec]; exact hturb)),
        ← hu, hrec]
    · have hrec : ∀ z, u.receive e.probe z = { u with turb := .received z } := fun z =>
        (congrArg (fun p => u.receive p z) hprobe).trans (receive_turb _ u z)
      have hslot : u.slot e.probe = .awaited := ((congrArg u.slot hprobe).trans (slot_turb _ u)).trans hturb
      rw [hr y hy, hy, endConversion_received hreq he (by rw [← hu]; exact hslot) (.inl (by rw [← hu, hrec]; exact hsalt)),
        ← hu, hrec]
  case bad =>
    have hexec : ∀ t, s.endConversion o n none = t → s.SameSign t → exec c s = .next t := fun t ht => by
      rcases hc with ⟨rfl, hp, htime, hlt, hsat, rfl, rfl⟩ | ⟨rfl, hp, hup, htime, rfl, rfl⟩
      · have hopen : probeOutcome s.conv.up.toNat s.conv.saturated = .openProbe := by rw [hsat]; exact probeOutcome_open hlt
        refine event_eq (c := .conversionEnd s.conv.up.toNat) rfl hs ((conversionEnd_over hp htime).trans ?_)
        rw [readingOf_open _ _ _ hopen, hopen]
        exact ht
      · exact event_eq (c := .span) rfl hs ((spanEnd_over hp hup htime).trans ht)
    have hspot : decide (o = .saturated) = false := by
      rcases hc with ⟨_, _, _, _, _, rfl, _⟩ | ⟨_, _, _, _, rfl, _⟩ <;> rfl
    rw [← hspot, spot_latched] at hs'
    subst hk hu hs'
    refine ⟨fun h => hexec _ ?_ (sameSign_tanks rfl), fun ht hslot hf => hexec _ ?_ (sameSign_tanks rfl),
      fun f ht hslot hf => ⟨fun hns => ?_, fun hserves => ?_⟩⟩
    · exact endConversion_unawaited hreq h
    · exact endConversion_retried hreq ht hslot hf
    · rw [hu']
      exact hexec _ (endConversion_held hreq ht rfl hslot hf hns) (sameSign_tanks rfl)
    · obtain ⟨t, hdone, hunit, hservice, hshows, hhanded, hlost, hready, hnot, hframe⟩ :=
        endConversion_leaves hreq ht rfl hslot hf hserves hu'
      exact ⟨t, hexec t hdone (sameSign_tanks hframe), hunit, hservice, hshows, hhanded, hlost, hready, hnot, hframe⟩

end Sys2Proof.Machine
end

section
/-! A tank's pair of results and its judgement (R116, R120, R130). -/

namespace Sys2Proof.Machine

variable {s t x : State} {k : Tank} {e : ConvRequest} {l : List ConvRequest} {o : OutcomeKind} {n : Option Nat}

/-! ### The reclaim share (R130) -/

theorem shareFor_low {q lo hi : Nat} (h : q ≤ lo) : shareFor q lo hi = 256 := if_pos h

theorem shareFor_high {q lo hi : Nat} (hlt : lo < hi) (h : hi ≤ q) : shareFor q lo hi = 0 :=
  (if_neg (by omega)).trans (if_pos h)

theorem shareFor_between {q lo hi : Nat} (hl : lo < q) (hh : q < hi) :
    shareFor q lo hi = 256 * (hi - q) / (hi - lo) :=
  (if_neg (by omega)).trans (if_neg (by omega))

theorem shareFor_le (q : Nat) {lo hi : Nat} (hlt : lo < hi) : shareFor q lo hi ≤ 256 := by
  rcases Nat.lt_or_ge lo q with hl | hl
  · rcases Nat.lt_or_ge q hi with hh | hh
    · rw [shareFor_between hl hh]
      exact Nat.div_le_of_le_mul (by rw [Nat.mul_comm]; exact Nat.mul_le_mul_right _ (by omega))
    · rw [shareFor_high hlt hh]
      exact Nat.zero_le _
  · rw [shareFor_low hl]

theorem shareFor_antitone {q q' lo hi : Nat} (hlt : lo < hi) (h : q ≤ q') : shareFor q' lo hi ≤ shareFor q lo hi := by
  rcases Nat.lt_or_ge lo q with hl | hl
  · rcases Nat.lt_or_ge q' hi with hh | hh
    · rw [shareFor_between hl (by omega), shareFor_between (by omega) hh]
      exact Nat.div_le_div_right (Nat.mul_le_mul_left _ (by omega))
    · rw [shareFor_high hlt hh]
      exact Nat.zero_le _
  · rw [shareFor_low hl]
    exact shareFor_le q' hlt

theorem shareFor_scaled {q lo hi : Nat} (hl : lo < q) (hh : q < hi) :
    shareFor q lo hi * (hi - lo) ≤ 256 * (hi - q) ∧ 256 * (hi - q) < (shareFor q lo hi + 1) * (hi - lo) := by
  rw [shareFor_between hl hh]
  exact ⟨Nat.div_mul_le_self .., Nat.lt_mul_of_div_lt (Nat.lt_succ_self _) (by omega)⟩

/-! ### A pair that passes (R116, R120) -/

theorem passTank_serving {m : Nat} (h : (s.tanks.get k).state = .service) : s.passTank k m = { s with
    tanks := s.tanks.set k { s.tanks.get k with
      share := some m, resampleTimer := some (s.laneTime + 60000 * s.active.resampleInterval) } } := by
  rw [State.passTank, if_pos h]
  simp only [modTank_eq, perTank_get_self, perTank_set_set]
  rfl

theorem shared_unsampled (m : Nat) (h : (s.tanks.get k).sampled = false) :
    ((s.modTank k fun u => { u with share := some m }).tanks.get k).sampled = false := by
  rw [modTank_eq, perTank_get_self]
  exact h

theorem passTank_takes {m : Nat} (h : (s.tanks.get k).state ≠ .service) (hs : s.service = none)
    (hl : s.lines.low.get k = false) (hu : (s.tanks.get k).sampled = false) : s.passTank k m = State.latch { s with
      service := some k
      tanks := s.tanks.set k { s.tanks.get k with
        share := some m, state := .service, settleTimer := none, settleLeft := none
        resampleTimer := some (s.laneTime + 60000 * s.active.resampleInterval), inlet := false, dump := false
        outlet := true } } (.tankChange none (some k) .samplePass (some m)) := by
  rw [State.passTank, if_neg h, if_pos hs, takeService_served (by exact hl) (shared_unsampled m hu)]
  simp only [modTank_eq, perTank_get_self, perTank_set_set]
  rfl

theorem passTank_waits {m : Nat} {j : Tank} (h : (s.tanks.get k).state ≠ .service) (hs : s.service = some j)
    (hl : s.lines.low.get k = false) (hu : (s.tanks.get k).sampled = false) : s.passTank k m = { s with
      tanks := s.tanks.set k { s.tanks.get k with
        share := some m, state := .ready, settleTimer := none, settleLeft := none, resampleTimer := none, inlet := false
        dump := false, outlet := false } } := by
  have hu' := shared_unsampled m hu
  have hrest : (s.modTank k fun u => { u with share := some m }).restOf k .ready = .ready := restOf_clear nofun hl
  rw [State.passTank, if_neg h, if_neg (by rw [hs]; nofun), setTank_eq (by rw [hrest]; nofun), hrest,
    entered_unsampled hu', convLeft_unsampled hu']
  simp only [modTank_eq, perTank_get_self, perTank_set_set]
  rfl

/-- A tank whose pair passes, by its state and the tank that serves. -/
theorem passTank_done {m : Nat} {w : TankUnit} (hl : s.lines.low.get k = false) (hu : (s.tanks.get k).sampled = false)
    (ht : t = s.passTank k m) (hw : w = t.tanks.get k) :
    (w.qSalt = (s.tanks.get k).qSalt ∧ w.qTurb = (s.tanks.get k).qTurb ∧ w.salt = (s.tanks.get k).salt ∧
      w.turb = (s.tanks.get k).turb ∧ w.share = some m) ∧
    s.KeepsLatch t .spotResult ∧ t.tanks.get (otherTank k) = s.tanks.get (otherTank k) ∧
    ((s.tanks.get k).state = .sampling → s.service = none →
      w.state = .service ∧ t.service = some k ∧ w.outlet = true ∧
      w.resampleTimer = some (s.laneTime + 60000 * s.active.resampleInterval) ∧
      t.Shows (.tankChange none (some k) .samplePass (some m))) ∧
    (∀ j, (s.tanks.get k).state = .sampling → s.service = some j →
      w.state = .ready ∧ t.service = some j ∧ t.links = s.links) ∧
    ((s.tanks.get k).state = .service →
      w.state = .service ∧ t.service = s.service ∧ t.links = s.links ∧
      w.resampleTimer = some (s.laneTime + 60000 * s.active.resampleInterval)) ∧
    t = { s with tanks := t.tanks, service := t.service, links := t.links } := by
  by_cases hst : (s.tanks.get k).state = .service
  · rw [passTank_serving hst] at ht
    subst ht
    rw [perTank_get_self] at hw
    subst hw
    exact ⟨⟨rfl, rfl, rfl, rfl, rfl⟩, .refl s _, perTank_get_other .., fun h => absurd (hst.symm.trans h) nofun,
      fun _ h => absurd (hst.symm.trans h) nofun, fun h => ⟨h, rfl, rfl, rfl⟩, rfl⟩
  · cases hs : s.service with
    | none =>
      rw [passTank_takes hst hs hl hu] at ht
      subst ht
      rw [latch_tanks, perTank_get_self] at hw
      subst hw
      exact ⟨⟨rfl, rfl, rfl, rfl, rfl⟩, keepsLatch_latch s nofun, perTank_get_other .., fun _ _ =>
        ⟨rfl, rfl, rfl, rfl, shows_latch _ _⟩, nofun, fun h => absurd h hst, rfl⟩
    | some j =>
      rw [passTank_waits hst hs hl hu] at ht
      subst ht
      rw [perTank_get_self] at hw
      subst hw
      exact ⟨⟨rfl, rfl, rfl, rfl, rfl⟩, .refl s _, perTank_get_other .., nofun,
        fun i _ h => ⟨rfl, hs.trans h, rfl⟩, fun h => absurd h hst, rfl⟩

/-! ### A pair that fails (R116, R120) -/

theorem moveTank_keeps {st : TankState} {c : TankCause} {i : EventKind} (h : st ≠ .sampling) (hi : i ≠ .reclaimLost)
    (hi' : i ≠ .tankChange) : s.KeepsLatch (s.moveTank k st c) i := by
  by_cases hs : s.service = some k
  · exact (moveTank_left hs h).keeps i hi hi'
  · exact keepsLatch_of_links (moveTank_aside h hs).2.2.2 i

theorem failTank_done {w : TankUnit} (hl : s.lines.low.get k = false) (hu : (s.tanks.get k).sampled = false)
    (ht : t = s.failTank k) (hw : w = t.tanks.get k) :
    (w.qSalt = (s.tanks.get k).qSalt ∧ w.qTurb = (s.tanks.get k).qTurb ∧ w.salt = (s.tanks.get k).salt ∧
      w.turb = (s.tanks.get k).turb ∧ w.share = none ∧ w.state = .dumping ∧ w.dump = true ∧ w.outlet = false) ∧
    s.KeepsLatch t .spotResult ∧
    ((s.tanks.get (otherTank k)).state ≠ .ready ∨ (s.tanks.get (otherTank k)).sampled = false → t.conv = s.conv) ∧
    (s.service ≠ some k → t.service = s.service ∧ t.bays = s.bays ∧ t.links = s.links) ∧
    (s.service = some k → t.service ≠ some k ∧ s.HandedOver t k .resampleFail ∧ s.ReclaimLost t k) ∧
    t = { s with tanks := t.tanks, service := t.service, conv := t.conv, bays := t.bays, links := t.links } := by
  have hfail : t = (s.unshared k).moveTank k .dumping .resampleFail := ht
  have hrest : (s.unshared k).restOf k .dumping = .dumping := restOf_clear nofun hl
  have hu' : ((s.unshared k).tanks.get k).sampled = false := by rw [unshared_unit]; exact hu
  have hunit := moveTank_unit (s := s.unshared k) (k := k) (st := .dumping) (c := .resampleFail) nofun
  have hframe := moveTank_rest (s := s.unshared k) (k := k) (st := .dumping) (c := .resampleFail) nofun
  rw [← hfail, hrest, entered_unsampled hu', unshared_unit, ← hw] at hunit
  rw [← hfail] at hframe
  subst hunit
  have hconv : (s.unshared k).convLeft k = s.conv := convLeft_unsampled hu'
  refine ⟨⟨rfl, rfl, rfl, rfl, rfl, rfl, rfl, rfl⟩, ?_, fun h => ?_, fun h => ?_, fun h => ?_, hframe⟩
  · rw [hfail]
    exact moveTank_keeps (s := s.unshared k) nofun nofun nofun
  · rw [hfail]
    exact (moveTank_conv (st := .dumping) nofun (.inr (by rw [unshared_other]; exact h))).trans hconv
  · obtain ⟨hservice, hbays, _, hlinks⟩ := moveTank_aside (s := s.unshared k) (k := k) (st := .dumping)
      (c := .resampleFail) nofun h
    rw [hfail]
    exact ⟨hservice, hbays, hlinks⟩
  · have hleft := moveTank_left (s := s.unshared k) (k := k) (st := .dumping) (c := .resampleFail) h nofun
    rw [← hfail] at hleft
    exact ⟨hleft.service, hleft.handed.before (unshared_other s k) rfl rfl rfl, hleft.lost.before rfl (.refl s _)⟩

/-! ### The pair -/

/-- The second result of a pair: both Q values stay with the tank, and the pair is judged. -/
theorem endConversion_paired {u v : TankUnit} {r y z : Reading} {i : State} (hreq : s.conv.requests = e :: l)
    (ht : e.tank = true) (hk : k = probeTank e.probe) (hu : u = s.tanks.get k)
    (hpair : e.probe = saltProbe k ∧ u.salt = .awaited ∧ y = r ∧ u.turb = .received z ∨
      e.probe = turbProbe k ∧ u.turb = .awaited ∧ z = r ∧ u.salt = .received y)
    (hv : v = { u with qSalt := some y, qTurb := some z, salt := .notAwaited, turb := .notAwaited })
    (hi : i = { s.ending l (s.spotLinks e o n (some r.q)) with tanks := s.tanks.set k v }) :
    s.endConversion o n (some r) = State.modConv (if s.active.samplePasses y z then
        i.passTank k (shareFor y.q s.active.qLow s.active.qHigh) else i.failTank k) fun c => c.kick s.active.nRef := by
  have hjudge : ∀ w : TankUnit, w.salt = .received y → w.turb = .received z → v = { w with
        qSalt := some y, qTurb := some z, salt := .notAwaited, turb := .notAwaited } →
      State.judgeIfBoth { s.ending l (s.spotLinks e o n (some r.q)) with tanks := s.tanks.set k w } k =
        if s.active.samplePasses y z then i.passTank k (shareFor y.q s.active.qLow s.active.qHigh) else i.failTank k := by
    intro w hsalt hturb hvw
    rw [judgeIfBoth_both (by rw [perTank_get_self]; exact hsalt) (by rw [perTank_get_self]; exact hturb), State.judge]
    simp only [modTank_eq, perTank_get_self, perTank_set_set]
    rw [← hvw, ← hi]
    rfl
  have hprobe : e.probe = saltProbe k ∨ e.probe = turbProbe k := hpair.imp And.left And.left
  have hslot : u.slot e.probe = .awaited := by
    rcases hpair with ⟨hp, ha, _⟩ | ⟨hp, ha, _⟩
    · rw [hp, slot_salt, ha]
    · rw [hp, slot_turb, ha]
  rw [endConversion_eq hreq rfl, if_pos ht, deliver_reading (by subst hk hu; exact hslot), ← hk]
  refine congrArg (fun s' : State => s'.modConv fun c => c.kick s.active.nRef)
    (Eq.trans (b := State.judgeIfBoth { s.ending l (s.spotLinks e o n (some r.q)) with
      tanks := s.tanks.set k (u.receive e.probe r) } k) (by rw [hu]; rfl) ?_)
  rcases hpair with ⟨hp, _, hy, hturb⟩ | ⟨hp, _, hz, hsalt⟩
  · subst hy
    rw [hp, receive_salt]
    exact hjudge { u with salt := .received y } rfl hturb hv
  · subst hz
    rw [hp, receive_turb]
    exact hjudge { u with turb := .received z } hsalt rfl hv

/-- Settles O48: the pair's state, and by its two comparisons what becomes of the tank. -/
theorem pairIsJudged : Obligations.PairIsJudged := by
  refine ⟨fun q lo hi hlt => ⟨shareFor_low, shareFor_high hlt, shareFor_scaled, shareFor_le q hlt, fun q' =>
    shareFor_antitone hlt⟩, ?_⟩
  intro s s' e l k u r y z hs hp htime hgood hreq ht hk hu hlow hr hpair hs'
  obtain ⟨o, ho⟩ : ∃ o, o = if s.conv.saturated then OutcomeKind.saturated else .good := ⟨_, rfl⟩
  have houtcome : probeOutcome s.conv.up.toNat s.conv.saturated = o := by
    subst ho
    cases hsat : s.conv.saturated with
    | true => rfl
    | false => exact probeOutcome_good (by rw [hsat] at hgood; have := hgood.resolve_right nofun; omega)
  have hflag : s.conv.saturated = decide (o = .saturated) := by
    rw [ho]
    cases s.conv.saturated <;> rfl
  have hread : readingOf o s.conv.up.toNat s.conv.nRef = some r := by
    subst hr
    rw [← houtcome]
    refine readingOf_done _ _ _ fun h => ?_
    rw [houtcome, ho] at h
    split at h <;> exact absurd h nofun
  obtain ⟨v, hv⟩ : ∃ v, v = { u with qSalt := some y, qTurb := some z, salt := .notAwaited, turb := .notAwaited } := ⟨_, rfl⟩
  obtain ⟨i, hi⟩ : ∃ i, i = { s.ending l (s.spotLinks e o (some s.conv.up.toNat) (some r.q)) with
      tanks := s.tanks.set k v } := ⟨_, rfl⟩
  have hend := (conversionEnd_over hp htime).trans (by rw [houtcome, hread])
  rw [endConversion_paired hreq ht hk hu hpair hv hi] at hend
  have hlinks : i.links = s'.links := by
    rw [hs', hi, ← ho]
    dsimp only [State.ending, State.spotLinks]
    rw [← hflag]
    split <;> rfl
  have hik : i.tanks.get k = v := by rw [hi]; exact perTank_get_self ..
  have hilow : i.lines.low.get k = false := by rw [hi]; exact hlow
  have hsampled : (i.tanks.get k).sampled = false := by rw [hik, hv]; rfl
  have hother : i.tanks.get (otherTank k) = s.tanks.get (otherTank k) := by rw [hi]; exact perTank_get_other ..
  have hservice : i.service = s.service := by rw [hi]; rfl
  have hbays : i.bays = s.bays := by rw [hi]; rfl
  have hstate : (i.tanks.get k).state = u.state := by rw [hik, hv]
  have htime' : i.laneTime = s.laneTime := by rw [hi]; rfl
  have hactive : i.active = s.active := by rw [hi]; rfl
  have hkick : ∀ c, c = i.conv → c.kick s.active.nRef = s.convAfter l := fun c hc => by
    rw [hc, hi]
    exact kick_convAfter s l
  have hframe : ∀ (a : PerTank TankUnit) (b : Option Tank) (c : Converter) (d : PerBay BayUnit) (f : PerPort Link),
      ({ i with tanks := a, service := b, conv := c, bays := d, links := f } : State) =
        { s with tanks := a, service := b, conv := c, bays := d, links := f } := fun a b c d f => by rw [hi]; rfl
  have hrun : ∀ t, s.conversionEnd s.conv.up.toNat = t →
      t = { s with tanks := t.tanks, service := t.service, conv := t.conv, bays := t.bays, links := t.links } →
      exec (.conversionEnd s.conv.up.toNat) s = .next t := fun t hdone hf =>
    event_eq (c := .conversionEnd s.conv.up.toNat) rfl hs hdone (sameSign_tanks hf)
  have hpasses : s.active.samplePasses y z = true ↔ z.q ≤ s.active.tLimit ∧ y.q < s.active.qDump := by
    simp [Bank.samplePasses]
  by_cases hpass : s.active.samplePasses y z = true
  · obtain ⟨hz, hy⟩ := hpasses.1 hpass
    rw [if_pos hpass] at hend
    obtain ⟨⟨hqs, hqt, hws, hwt, hshare⟩, hkeep, hoth, htakes, hwaits, hserves, hT⟩ :=
      passTank_done (m := shareFor y.q s.active.qLow s.active.qHigh) hilow hsampled rfl rfl
    have hTconv : (i.passTank k (shareFor y.q s.active.qLow s.active.qHigh)).conv = i.conv := by rw [hT]
    have hTbays : (i.passTank k (shareFor y.q s.active.qLow s.active.qHigh)).bays = s.bays := by rw [hT, ← hbays]
    generalize i.passTank k (shareFor y.q s.active.qLow s.active.qHigh) = T at *
    have hfr : (T.modConv fun c => c.kick s.active.nRef) = { s with
        tanks := T.tanks, service := T.service, conv := T.conv.kick s.active.nRef, bays := T.bays, links := T.links } :=
      (congrArg (fun x : State => x.modConv fun c => c.kick s.active.nRef) hT).trans
        ((hframe T.tanks T.service _ i.bays T.links).trans (by rw [hTbays, hbays, hTconv]))
    rw [hik, hv] at hqs hqt hws hwt
    rw [hstate, hservice, htime', hactive] at htakes
    rw [hstate, hservice, hlinks] at hwaits
    rw [hstate, hservice, hlinks, htime', hactive] at hserves
    exact ⟨_, hrun _ hend hfr, hqs, hqt, hws, hwt, fun _ => hkick _ hTconv,
      ((keepsLatch_of_links hlinks _).trans hkeep : s'.KeepsLatch T _), fun _ _ => ⟨hshare, hTbays, hoth.trans hother,
        htakes, hwaits, hserves⟩, fun hno => absurd hno (by omega), hfr⟩
  · rw [if_neg hpass] at hend
    obtain ⟨⟨hqs, hqt, hws, hwt, hshare, hdumping, hdump, houtlet⟩, hkeep, hTconv, haside, hleaves, hT⟩ :=
      failTank_done hilow hsampled rfl rfl
    generalize i.failTank k = T at *
    have hfr : (T.modConv fun c => c.kick s.active.nRef) = { s with
        tanks := T.tanks, service := T.service, conv := T.conv.kick s.active.nRef, bays := T.bays, links := T.links } :=
      (congrArg (fun x : State => x.modConv fun c => c.kick s.active.nRef) hT).trans
        (hframe T.tanks T.service _ T.bays T.links)
    rw [hik, hv] at hqs hqt hws hwt
    rw [hother] at hTconv
    rw [hservice, hbays, hlinks] at haside
    rw [hservice] at hleaves
    refine ⟨_, hrun _ hend hfr, hqs, hqt, hws, hwt, fun h => hkick _ (hTconv h),
      ((keepsLatch_of_links hlinks _).trans hkeep : s'.KeepsLatch T _), fun h h' => absurd (hpasses.2 ⟨h, h'⟩) hpass,
      fun _ => ⟨hshare, hdumping, hdump, houtlet, haside, fun h => ?_⟩, hfr⟩
    obtain ⟨hleft, hhanded, hlost⟩ := hleaves h
    have hkept : s.KeepsLatch i .reclaimLost := by
      rw [hi]
      exact spotLinks_keeps s e l o (some s.conv.up.toNat) (some r.q) (i := .reclaimLost) nofun
    exact ⟨hleft, hhanded.before hother (by rw [hi]; rfl) htime' hactive, hlost.before hbays hkept⟩

end Sys2Proof.Machine
end

section
/-! The reclaim pass of a release walk (R162): which pages it frees, the page that opens, the cursors and what is then
available. -/

namespace Sys2Proof.Machine

variable {j x : Journal} {p q : PageNo} {n m : Nat}

/-! ### Places in the ring -/

theorem offset_succ (h : q ≠ p) : (q - (p + 1)).val + 1 = (q - p).val := by
  have hne : q.val ≠ p.val := fun he => h (Fin.ext he)
  have hone : (p + 1).val = (p.val + 1) % 64 := rfl
  rw [Fin.sub_def, Fin.sub_def, hone]
  dsimp only
  omega

theorem offset_self (p : PageNo) : (p - p).val = 0 := by
  rw [Fin.sub_self]
  rfl

theorem offset_before (p : PageNo) : (p - (p + 1)).val = 63 := by
  have hone : (p + 1).val = (p.val + 1) % 64 := rfl
  rw [Fin.sub_def, hone]
  dsimp only
  omega

theorem offset_eq_zero (h : (q - p).val = 0) : q = p := by
  rw [Fin.sub_def] at h
  dsimp only at h
  exact Fin.ext (by omega)

theorem offset_add (p i : PageNo) : (p + i - p).val = i.val := by
  rw [add_sub_cancel_left]

/-! ### One page freed -/

theorem freeOne_page (j : Journal) (p : PageNo) : (j.freeOne p).pages[p] =
    { freePage with state := if j.openPage = none ∧ p = j.newest + 1 then .opened else .free } := by
  unfold Journal.freeOne
  dsimp only
  split
  next h => simp only [Journal.becomeOpen, getElem_putAt_self]
  next h => exact getElem_putAt_self ..

theorem freeOne_other (j : Journal) (h : q ≠ p) : (j.freeOne p).pages[q] = j.pages[q] := by
  unfold Journal.freeOne
  dsimp only
  split
  · simp only [Journal.becomeOpen, getElem_putAt_ne _ _ h]
  · exact getElem_putAt_ne _ _ h

theorem freeOne_newest (j : Journal) (p : PageNo) :
    (j.freeOne p).newest = if j.openPage = none ∧ p = j.newest + 1 then p else j.newest := by
  unfold Journal.freeOne
  dsimp only
  split <;> rfl

theorem freeOne_cursor (j : Journal) (p : PageNo) (pt : Port) : (j.freeOne p).cursors.get pt =
    if j.openPage = none ∧ p = j.newest + 1 then ((j.cursors.get pt).loseOn p).toOpened p
    else (j.cursors.get pt).loseOn p := by
  unfold Journal.freeOne
  dsimp only
  split <;> cases pt <;> rfl

theorem freeOne_rest (j : Journal) (p : PageNo) : j.freeOne p =
    { j with pages := (j.freeOne p).pages, newest := (j.freeOne p).newest, cursors := (j.freeOne p).cursors } := by
  unfold Journal.freeOne
  dsimp only
  split <;> rfl

theorem openPage_of_opened (hn : j.newest = p) (h : j.pages[p].state = .opened) : j.openPage = some p := by
  subst hn
  exact if_pos h

theorem openPage_of_other (hn : j.newest = p) (h : j.pages[p].state ≠ .opened) : j.openPage = none := by
  subst hn
  exact if_neg h

theorem not_opened (hn : j.newest = p) (h : j.openPage = none) : j.pages[p].state ≠ .opened := fun ho => by
  rw [openPage_of_opened hn ho] at h
  exact absurd h nofun

/-- A page freed that does not open leaves the OPEN page. -/
theorem freeOne_openPage (hrel : j.pages[p].state = .released) : (j.freeOne p).openPage =
    if j.openPage = none ∧ p = j.newest + 1 then some p else j.openPage := by
  have hnewest := freeOne_newest j p
  have hpage := freeOne_page j p
  by_cases h : j.openPage = none ∧ p = j.newest + 1
  · rw [if_pos h] at hnewest hpage ⊢
    exact openPage_of_opened hnewest (by rw [hpage])
  · rw [if_neg h] at hnewest hpage ⊢
    cases ho : j.openPage with
    | none =>
      refine openPage_of_other hnewest ?_
      by_cases hp : j.newest = p
      · subst hp
        rw [hpage]
        nofun
      · rw [freeOne_other j hp]
        exact not_opened rfl ho
    | some pg =>
      obtain ⟨hpg, hst⟩ := openPage_state ho
      have hp : pg ≠ p := fun he => by
        rw [he, hrel] at hst
        exact absurd hst nofun
      exact openPage_of_opened (hnewest.trans hpg.symm) (by rw [freeOne_other j hp]; exact hst)

theorem freeOne_countState (hrel : j.pages[p].state = .released) (st : PageState) (hst : st ≠ .released)
    (hop : st ≠ .opened) : (j.freeOne p).countState st = j.countState st +
      if st = .free ∧ ¬ (j.openPage = none ∧ p = j.newest + 1) then 1 else 0 := by
  have hpages : (j.freeOne p).pages = putAt j.pages p ((j.freeOne p).pages[p]) := by
    refine Vector.ext fun i hi => ?_
    have hput := getElem_putAt j.pages p (⟨i, hi⟩ : PageNo) ((j.freeOne p).pages[p])
    by_cases h : (⟨i, hi⟩ : PageNo) = p
    · rw [if_pos h] at hput
      subst h
      exact hput.symm
    · rw [if_neg h] at hput
      exact (freeOne_other j h).trans hput.symm
  have hcount := countState_putAt hpages st
  rw [hrel, if_neg (Ne.symm hst), freeOne_page] at hcount
  by_cases h : j.openPage = none ∧ p = j.newest + 1
  · rw [if_pos h, if_neg (Ne.symm hop)] at hcount
    rw [if_neg fun hc => hc.2 h]
    exact hcount
  · rw [if_neg h] at hcount
    by_cases hf : st = .free
    · rw [if_pos hf.symm] at hcount
      rw [if_pos ⟨hf, h⟩]
      exact hcount
    · rw [if_neg (Ne.symm hf)] at hcount
      rw [if_neg fun hc => hf hc.1]
      exact hcount

/-- A page freed brings its 16 slots, as a FREE page or as the OPEN one. -/
theorem freeOne_available (hrel : j.pages[p].state = .released) : (j.freeOne p).available = j.available + 16 := by
  have hcount := freeOne_countState hrel .free nofun nofun
  have hnewest := freeOne_newest j p
  by_cases h : j.openPage = none ∧ p = j.newest + 1
  · rw [if_neg fun hc => hc.2 h] at hcount
    rw [if_pos h] at hnewest
    have hold := not_opened rfl h.1
    have hpage := freeOne_page j p
    rw [if_pos h] at hpage
    rw [available_of_not_open rfl hold, available_of_open hnewest (by rw [hpage]), hpage, hcount]
    exact Nat.add_comm ..
  · rw [if_pos ⟨rfl, h⟩] at hcount
    rw [if_neg h] at hnewest
    have hopen := freeOne_openPage hrel
    rw [if_neg h] at hopen
    cases ho : j.openPage with
    | none =>
      rw [available_of_not_open rfl (not_opened rfl ho),
        available_of_not_open hnewest (not_opened hnewest (hopen.trans ho)), hcount]
      omega
    | some pg =>
      rw [ho] at hopen
      obtain ⟨hpg, hst⟩ := openPage_state ho
      obtain ⟨hpg', hst'⟩ := openPage_state hopen
      have hne : pg ≠ p := fun he => by
        rw [he, hrel] at hst
        exact absurd hst nofun
      rw [available_of_open hpg.symm hst, available_of_open hpg'.symm hst', freeOne_other j hne, hcount]
      omega

/-! ### The pass -/

/-- The pages that a reclaim pass from a page on has freed, so many of them. -/
structure Journal.Freed (j x : Journal) (p : PageNo) (n : Nat) (opens : Prop) [Decidable opens] : Prop where
  freed : ∀ i : PageNo, (i - p).val < n →
    x.pages[i] = { freePage with state := if opens ∧ i = p then .opened else .free }
  stays : ∀ i : PageNo, n ≤ (i - p).val → x.pages[i] = j.pages[i]
  slots : ∀ pt i k, (j.cursors.get pt).place = .slot i k → (x.cursors.get pt).place = .slot i k ∧
    ((i - p).val < n → (x.cursors.get pt).lost = true) ∧
    (n ≤ (i - p).val → (x.cursors.get pt).lost = (j.cursors.get pt).lost)
  newest : x.newest = if opens then p else j.newest
  ends : ∀ pt, (j.cursors.get pt).place = .ringEnd →
    x.cursors.get pt = if opens then { j.cursors.get pt with place := .slot p 0 } else j.cursors.get pt
  opened : x.openPage = if opens then some p else j.openPage
  available : x.available = j.available + 16 * n
  closed : x.countState .closed = j.countState .closed
  rest : x = { j with pages := x.pages, newest := x.newest, cursors := x.cursors }

/-- A pass that frees nothing. -/
theorem freed_none (j : Journal) (p : PageNo) {opens : Prop} [Decidable opens] (h : ¬ opens) : j.Freed j p 0 opens where
  freed _ hi := absurd hi (Nat.not_lt_zero _)
  stays _ _ := rfl
  slots _ _ _ hc := ⟨hc, fun hi => absurd hi (Nat.not_lt_zero _), fun _ => rfl⟩
  newest := (if_neg h).symm
  ends _ _ := (if_neg h).symm
  opened := (if_neg h).symm
  available := rfl
  closed := rfl
  rest := rfl

theorem loseOn_slot {c : Cursor} {i : PageNo} {k : Nat} (h : c.place = .slot i k) :
    (c.loseOn p).place = .slot i k ∧ (c.loseOn p).lost = if i = p then true else c.lost := by
  unfold Cursor.loseOn
  rw [h]
  dsimp only
  by_cases hi : i = p
  · rw [if_pos hi, if_pos hi]
    exact ⟨rfl, rfl⟩
  · rw [if_neg hi, if_neg hi]
    exact ⟨h, rfl⟩

theorem loseOn_ringEnd {c : Cursor} (h : c.place = .ringEnd) : c.loseOn p = c := by
  unfold Cursor.loseOn
  rw [h]

/-- One page freed, then the pages after it. -/
theorem freed_cons (hrel : j.pages[p].state = .released) {opens : Prop} [Decidable opens]
    (hopens : opens ↔ j.openPage = none ∧ p = j.newest + 1) (hn : n < 64)
    (h : (j.freeOne p).Freed x (p + 1) n False) : j.Freed x p (n + 1) opens := by
  have hpage := freeOne_page j p
  have hnewest := freeOne_newest j p
  have hcursor := freeOne_cursor j p
  have hopened := freeOne_openPage hrel
  simp only [← hopens] at hpage hnewest hcursor hopened
  refine ⟨fun i hi => ?_, fun i hi => ?_, fun pt i k hc => ?_, ?_, fun pt hc => ?_, ?_, ?_, ?_, ?_⟩
  · by_cases hip : i = p
    · subst hip
      rw [h.stays i (by rw [offset_before]; omega), hpage]
      simp
    · have hoff := offset_succ hip
      rw [h.freed i (by omega), if_neg fun hf => hf.1, if_neg fun hc => hip hc.2]
  · have hip : i ≠ p := fun he => by
      rw [he, offset_self] at hi
      omega
    have hoff := offset_succ hip
    rw [h.stays i (by omega), freeOne_other j hip]
  · obtain ⟨hplace, hlost⟩ := loseOn_slot (p := p) hc
    have hmid : ((j.freeOne p).cursors.get pt).place = .slot i k ∧
        ((j.freeOne p).cursors.get pt).lost = if i = p then true else (j.cursors.get pt).lost := by
      rw [hcursor]
      split
      · unfold Cursor.toOpened
        rw [if_neg (by rw [hplace]; nofun)]
        exact ⟨hplace, hlost⟩
      · exact ⟨hplace, hlost⟩
    obtain ⟨hplace', hin, hout⟩ := h.slots pt i k hmid.1
    refine ⟨hplace', fun hi => ?_, fun hi => ?_⟩
    · by_cases hip : i = p
      · rw [hout (by rw [hip, offset_before]; omega), hmid.2, if_pos hip]
      · have hoff := offset_succ hip
        exact hin (by omega)
    · have hip : i ≠ p := fun he => by
        rw [he, offset_self] at hi
        omega
      have hoff := offset_succ hip
      rw [hout (by omega), hmid.2, if_neg hip]
  · exact h.newest.trans ((if_neg not_false).trans hnewest)
  · have hmid := hcursor pt
    rw [loseOn_ringEnd hc] at hmid
    by_cases ho : opens
    · rw [if_pos ho, Cursor.toOpened, if_pos hc] at hmid
      obtain ⟨hplace, _, hout⟩ := h.slots pt p 0 (by rw [hmid])
      have hlost := hout (by rw [offset_before]; omega)
      rw [if_pos ho]
      rw [hmid] at hlost
      cases hx : x.cursors.get pt with
      | mk place lost =>
        rw [hx] at hplace hlost
        subst hplace hlost
        rfl
    · rw [if_neg ho] at hmid ⊢
      rw [h.ends pt (by rw [hmid]; exact hc), if_neg not_false, hmid]
  · exact h.opened.trans ((if_neg not_false).trans hopened)
  · rw [h.available, freeOne_available hrel]
    omega
  · rw [h.closed, freeOne_countState hrel .closed nofun nofun, if_neg fun hc => absurd hc.1 nofun]
    rfl
  · rw [h.rest, freeOne_rest]

theorem Journal.Freed.opens_iff {a b : Prop} [Decidable a] [Decidable b] (h : j.Freed x p n a) (hab : a ↔ b) :
    j.Freed x p n b := by
  obtain rfl := propext hab
  convert h

theorem reclaim_released (h : j.pages[p].state = .released) : Journal.reclaim (m + 1) p j =
    ((Journal.reclaim m (p + 1) (j.freeOne p)).1, (Journal.reclaim m (p + 1) (j.freeOne p)).2 + 1) := if_pos h

theorem reclaim_stops (h : j.pages[p].state ≠ .released) : Journal.reclaim m p j = (j, 0) := by
  cases m with
  | zero => rfl
  | succ m => exact if_neg h

theorem reclaim_le (m : Nat) : ∀ (p : PageNo) (j : Journal), (Journal.reclaim m p j).2 ≤ m := by
  induction m with
  | zero => exact fun _ _ => Nat.le_refl _
  | succ m ih =>
    intro p j
    by_cases h : j.pages[p].state = .released
    · rw [reclaim_released h]
      exact Nat.succ_le_succ (ih ..)
    · rw [reclaim_stops h]
      exact Nat.zero_le _

/-- The pass from a page on: what it frees, where no page but the first comes next in a ring without OPEN page. -/
theorem reclaim_freed (m : Nat) : ∀ (p : PageNo) (j : Journal), m ≤ 64 →
    (j.openPage = none → j.newest + 1 = p ∨ j.pages[j.newest + 1].state ≠ .released) →
    j.Freed (Journal.reclaim m p j).1 p (Journal.reclaim m p j).2
      (j.openPage = none ∧ 0 < (Journal.reclaim m p j).2 ∧ p = j.newest + 1) := by
  induction m with
  | zero => exact fun p j _ _ => freed_none j p fun h => absurd h.2.1 (Nat.lt_irrefl _)
  | succ m ih =>
    intro p j hm hno
    by_cases hrel : j.pages[p].state = .released
    · rw [reclaim_released hrel]
      have hopened := freeOne_openPage hrel
      have hnewest := freeOne_newest j p
      -- the page after the newest stays as it was, unless this page has opened
      have hnext : (j.freeOne p).openPage = none → (j.freeOne p).newest = j.newest ∧
          (j.freeOne p).pages[j.newest + 1].state ≠ .released := fun h => by
        by_cases ho : j.openPage = none ∧ p = j.newest + 1
        · rw [h, if_pos ho] at hopened
          exact absurd hopened nofun
        · rw [if_neg ho] at hopened hnewest
          have hnone := hopened.symm.trans h
          have hne : j.newest + 1 ≠ p := fun he => ho ⟨hnone, he.symm⟩
          rw [freeOne_other j hne]
          exact ⟨hnewest, (hno hnone).resolve_left hne⟩
      have hrest := ih (p + 1) (j.freeOne p) (by omega) fun h => .inr (by
        obtain ⟨hsame, hst⟩ := hnext h
        simpa only [hsame] using hst)
      refine freed_cons hrel ⟨fun h => ⟨h.1, h.2.2⟩, fun h => ⟨h.1, Nat.succ_pos _, h.2⟩⟩
        (Nat.lt_of_le_of_lt (reclaim_le ..) (by omega)) (hrest.opens_iff ⟨fun h => ?_, False.elim⟩)
      obtain ⟨hnone, hpos, hp⟩ := h
      obtain ⟨hsame, hst⟩ := hnext hnone
      rw [hsame] at hp
      rw [reclaim_stops (by simpa only [hp] using hst)] at hpos
      exact absurd hpos (Nat.lt_irrefl _)
    · rw [reclaim_stops hrel]
      exact freed_none j p fun h => absurd h.2.1 (Nat.lt_irrefl _)

/-- The oldest page is the page next in the ring, unless that is FREE. -/
theorem oldest_next (j : Journal) : j.newest + 1 = j.oldest ∨ j.pages[j.newest + 1].state ≠ .released := by
  by_cases h : j.pages[j.newest + 1].state = .released
  · left
    have hring : j.ring = (j.newest + 1) :: (List.finRange 64).tail.map fun i => j.newest + 1 + i := by
      have hcons : List.finRange 64 = 0 :: (List.finRange 64).tail := rfl
      unfold Journal.ring
      rw [hcons, List.map_cons, List.tail_cons, add_zero]
    have hfound : decide (j.pages[j.newest + 1].state ≠ .free) = true := decide_eq_true (by rw [h]; nofun)
    rw [Journal.oldest, hring]
    exact (congrArg (Option.getD · j.newest) (List.find?_cons_of_pos
      (p := fun i : PageNo => decide (j.pages[i].state ≠ .free)) hfound)).symm
  · exact .inr h

/-- How many pages the pass frees: those of the run of RELEASED pages it begins at. -/
theorem reclaim_count (m : Nat) : ∀ (p : PageNo) (j : Journal), m ≤ 64 →
    (∀ i : PageNo, (i - p).val < (Journal.reclaim m p j).2 → j.pages[i].state = .released) ∧
    (∀ i : PageNo, (i - p).val = (Journal.reclaim m p j).2 → (Journal.reclaim m p j).2 < m →
      j.pages[i].state ≠ .released) := by
  induction m with
  | zero => exact fun p j _ => ⟨fun i hi => absurd hi (Nat.not_lt_zero _), fun i _ hi => absurd hi (Nat.lt_irrefl _)⟩
  | succ m ih =>
    intro p j hm
    by_cases hrel : j.pages[p].state = .released
    · rw [reclaim_released hrel]
      obtain ⟨hin, hout⟩ := ih (p + 1) (j.freeOne p) (by omega)
      refine ⟨fun i hi => ?_, fun i hi hlt => ?_⟩
      · by_cases hip : i = p
        · rw [hip]
          exact hrel
        · have hoff := offset_succ hip
          rw [← freeOne_other j hip]
          exact hin i (by dsimp only at hi; omega)
      · have hip : i ≠ p := fun he => by
          rw [he, offset_self] at hi
          exact absurd hi nofun
        have hoff := offset_succ hip
        rw [← freeOne_other j hip]
        exact hout i (by dsimp only at hi; omega) (by dsimp only at hlt; omega)
    · rw [reclaim_stops hrel]
      refine ⟨fun i hi => absurd hi (Nat.not_lt_zero _), fun i hi _ => ?_⟩
      rw [offset_eq_zero hi]
      exact hrel

/-- The length of a run at the front of all 64 places. -/
theorem takeWhile_length {f : PageNo → Bool} (hn : n ≤ 64) (hin : ∀ i : PageNo, i.val < n → f i = true)
    (hout : ∀ i : PageNo, i.val = n → f i = false) : ((List.finRange 64).takeWhile f).length = n := by
  have hget : ∀ (i : Nat) (hi : i < (List.finRange 64).length), (List.finRange 64)[i].val = i := fun i hi => by simp
  have hidx : (List.finRange 64).findIdx (fun i => !f i) = n := by
    rcases Nat.lt_or_eq_of_le hn with hlt | rfl
    · rw [List.findIdx_eq (by simpa using hlt)]
      refine ⟨by rw [hout _ (hget n _)]; rfl, fun i hi => ?_⟩
      rw [hin _ (by rw [hget]; exact hi)]
      rfl
    · refine (List.findIdx_eq_length_of_false fun i _ => ?_).trans List.length_finRange
      rw [hin i i.isLt]
      rfl
  rw [List.takeWhile_eq_take_findIdx_not, hidx, List.length_take, List.length_finRange]
  omega

/-- The count of the pass from a page over the whole ring, as the statements give it. -/
theorem reclaim_run (p : PageNo) (j : Journal) : (Journal.reclaim 64 p j).2 =
    ((List.finRange 64).takeWhile fun i => j.pages[p + i].state == .released).length := by
  obtain ⟨hin, hout⟩ := reclaim_count 64 p j (Nat.le_refl _)
  refine (takeWhile_length (reclaim_le ..) (fun i hi => ?_) fun i hi => ?_).symm
  · exact beq_iff_eq.2 (hin (p + i) (by rw [offset_add]; exact hi))
  · exact beq_eq_false_iff_ne.2 (hout (p + i) (by rw [offset_add]; exact hi) (by omega))

/-- The reclaim pass of a walk's end. -/
theorem reclaim_oldest (j : Journal) : j.Freed (Journal.reclaim 64 j.oldest j).1 j.oldest (Journal.reclaim 64 j.oldest j).2
    (j.openPage = none ∧ 0 < (Journal.reclaim 64 j.oldest j).2 ∧ j.oldest = j.newest + 1) :=
  reclaim_freed 64 j.oldest j (Nat.le_refl _) fun _ => oldest_next j

end Sys2Proof.Machine
end

section
/-! The release walk: a page judged, and the walk's end with its reclaim pass, a pending DAY-CLOSE and RELEASE-DONE
(R160, R162). -/

namespace Sys2Proof.Machine

variable {s t u : State} {j k : Journal} {w : Walk} {n : Nat}

/-! ### A page judged (R160) -/

/-- The walk's counts after a page. -/
def Walk.counted (w : Walk) (pg : JournalPage) : Walk :=
  if pg.hold then { w with held := w.held + 1 }
  else if pg.state = .closed then { w with unread := w.unread + 1 }
  else if pg.state = .read then { w with released := w.released + 1 }
  else w

/-- The journal after a page: a READ page without a hold is RELEASED, and its amounts leave the balances. -/
def Journal.judged (j : Journal) (i : PageNo) : Journal :=
  if j.pages[i].hold = false ∧ j.pages[i].state = .read then
    { j with
      pages := putAt j.pages i { j.pages[i] with state := .released }
      balances := Vector.ofFn fun h => j.balances[h] - amountsOf h j.pages[i].records }
  else j

theorem judgePage_eq (j : Journal) (w : Walk) : j.judgePage w = (j.judged w.next, w.counted j.pages[w.next]) := by
  unfold Journal.judgePage Journal.judged Walk.counted
  generalize j.pages[w.next] = pg
  cases hh : pg.hold with
  | true => simp [hh]
  | false => cases hst : pg.state <;> simp [hh, hst, Journal.dropAmounts]

theorem judged_keeps (j : Journal) (i : PageNo) : j.judged i =
    { j with pages := (j.judged i).pages, balances := (j.judged i).balances } := by
  unfold Journal.judged
  split <;> rfl

/-- Judging changes no page that is OPEN or FREE. -/
theorem judged_records (j : Journal) (i q : PageNo) : (j.judged i).pages[q].records = j.pages[q].records := by
  unfold Journal.judged
  split
  · dsimp only
    rw [getElem_putAt]
    split
    next h => rw [h]
    next => rfl
  · rfl

theorem judged_state (j : Journal) (i q : PageNo) :
    (j.judged i).pages[q].state = j.pages[q].state ∨
      j.pages[q].state = .read ∧ (j.judged i).pages[q].state = .released := by
  unfold Journal.judged
  split
  next hcond =>
    dsimp only
    rw [getElem_putAt]
    split
    next h => exact .inr ⟨by rw [h]; exact hcond.2, rfl⟩
    next => exact .inl rfl
  next => exact .inl rfl

theorem Journal.Sound.judged (h : j.Sound) (i : PageNo) : (j.judged i).Sound := by
  unfold Journal.judged
  split
  · exact h.putPage rfl rfl nofun nofun
  · exact h

/-- The count of the CLOSED pages is not the judgement's. -/
theorem judged_closed (j : Journal) (i : PageNo) : (j.judged i).countState .closed = j.countState .closed := by
  unfold Journal.judged
  split
  next h =>
    have hcount := countState_putAt (j := j) (x := { j with
        pages := putAt j.pages i { j.pages[i] with state := .released }
        balances := Vector.ofFn fun h => j.balances[h] - amountsOf h j.pages[i].records }) rfl .closed
    rw [h.2, if_neg nofun, if_neg nofun] at hcount
    exact hcount
  next => rfl

theorem putAt_counts {x : Journal} {i : PageNo} {pg : JournalPage} (hp : x.pages = putAt j.pages i pg)
    (hn : x.newest = j.newest) (hr : pg.records = j.pages[i].records)
    (ho : pg.state = .opened ↔ j.pages[i].state = .opened) (hf : pg.state = .free ↔ j.pages[i].state = .free) :
    x.openPage = j.openPage ∧ x.available = j.available := by
  obtain ⟨hopen, havail⟩ := putAt_page_counts hr ho hf
  exact ⟨(openPage_congr (j := { j with pages := putAt j.pages i pg }) hp hn).trans hopen,
    (available_congr (j := { j with pages := putAt j.pages i pg }) hp hn).trans havail⟩

theorem judged_counts (j : Journal) (i : PageNo) :
    (j.judged i).openPage = j.openPage ∧ (j.judged i).available = j.available := by
  unfold Journal.judged
  split
  next h => exact putAt_counts rfl rfl rfl (by rw [h.2]; simp) (by rw [h.2]; simp)
  next => exact ⟨rfl, rfl⟩

/-! ### The journal of a walk's end (R162) -/

theorem walkStep_on {b : Bool} (h : w.next ≠ w.last) : s.walkStep w b = { s with
    journal := { s.journal.judged w.next with
      walk := some { w.counted s.journal.pages[w.next] with next := w.next + 1 } } } := by
  unfold State.walkStep Journal.walkOn Journal.walkCounts
  rw [if_neg h]
  simp only [State.modJournal, judgePage_eq, if_neg h]

theorem walkStep_last {b : Bool} (h : w.next = w.last) : s.walkStep w b =
    State.endWalk { s with journal := { s.journal.judged w.next with walk := none } }
      (w.counted s.journal.pages[w.next]) b := by
  unfold State.walkStep Journal.walkOn Journal.walkCounts
  rw [if_pos h]
  simp only [State.modJournal, judgePage_eq, if_pos h]

/-- A reclaim pass taken over: the journal it leaves, JOURNAL-LOW judged once where a page was freed. -/
theorem takeReclaim_done (hs : s.part.phase = .running) (harm : k.lowArmed = s.journal.lowArmed)
    (ht : t = s.takeReclaim (k, n)) :
    (n = 0 → t = { s with journal := k }) ∧
    (0 < n → s.LowJudged t ∧ t.journal = { k with lowArmed := decide (k.reserved + 64 ≤ k.available) } ∧
      (k.available < k.reserved + 64 → s.journal.lowArmed = true →
        t.Shows (.journalLow k.available k.reserved (k.countState .closed) k.heldPages)) ∧
      (k.reserved + 64 ≤ k.available ∨ s.journal.lowArmed = false → s.KeepsLatch t .journalLow) ∧
      t = { s with journal := t.journal, links := t.links }) := by
  subst ht
  refine ⟨fun hn => if_pos hn, fun hn => ?_⟩
  have htake : s.takeReclaim (k, n) = State.judgeLow { s with journal := k } := if_neg (by dsimp only; omega)
  have hrun : ({ s with journal := k } : State).part.phase = .running := hs
  rw [htake]
  exact ⟨(lowJudged_judgeLow hrun).congr harm.symm (.refl s _) rfl (.refl _ _), judgeLow_journal hrun,
    fun hlow ha => judgeLow_shows hrun hlow (harm.trans ha), fun h =>
      judgeLow_quiet (s := { s with journal := k }) (h.imp_right harm.trans) .journalLow, by simp [State.ext_iff]⟩

theorem takeReclaim_journal (s : State) (k : Journal) (n : Nat) : (s.takeReclaim (k, n)).journal =
    { k with lowArmed := (s.takeReclaim (k, n)).journal.lowArmed } := by
  unfold State.takeReclaim
  split
  · rfl
  · exact judgeLow_keeps_journal _

theorem takeReclaim_eq (s : State) (k : Journal) (n : Nat) : s.takeReclaim (k, n) = { s with
    journal := (s.takeReclaim (k, n)).journal, links := (s.takeReclaim (k, n)).links } := by
  unfold State.takeReclaim
  split
  · rfl
  · simp [State.ext_iff]

/-- The end of a walk whose pending DAY-CLOSE, if there is one, pends on. -/
theorem endWalk_pends (hk : k = (s.journal.reclaim 64 s.journal.oldest).1)
    (hn : n = (s.journal.reclaim 64 s.journal.oldest).2) (h : k.pendingClose = none ∨ k.available ≤ k.reserved) :
    s.endWalk w true = ((s.takeReclaim (k, n)).latch
      (.releaseDone w.first w.last w.released w.unread w.held n k.available)).requestPass := by
  have hj := takeReclaim_journal s k n
  have hwrite : (s.takeReclaim (k, n)).writePendingClose = s.takeReclaim (k, n) := by
    rcases h with h | h
    · exact writePendingClose_none (by rw [hj]; exact h)
    · refine writePendingClose_full ?_
      rw [available_congr (j := k) (by rw [hj]) (by rw [hj]), hj]
      exact h
  have hr : s.journal.reclaim 64 s.journal.oldest = (k, n) := by rw [hk, hn]
  have hend : s.endWalk w true = (((s.takeReclaim (s.journal.reclaim 64 s.journal.oldest)).writePendingClose).latch
      (.releaseDone w.first w.last w.released w.unread w.held (s.journal.reclaim 64 s.journal.oldest).2
        (s.journal.reclaim 64 s.journal.oldest).1.available)).requestPass := rfl
  rw [hend, hr, hwrite]

/-- The end of a walk that writes the pending DAY-CLOSE. -/
theorem endWalk_writes {d : DayClose} (hk : k = (s.journal.reclaim 64 s.journal.oldest).1)
    (hn : n = (s.journal.reclaim 64 s.journal.oldest).2) (hd : k.pendingClose = some d) (h : k.reserved < k.available) :
    s.endWalk w true = ((((((s.takeReclaim (k, n)).appendDayClose d).modJournal fun j =>
      { j with pendingClose := none }).requestPass).latch
        (.releaseDone w.first w.last w.released w.unread w.held n k.available)).requestPass) := by
  have hj := takeReclaim_journal s k n
  have hwrite := writePendingClose_done (s := s.takeReclaim (k, n)) (d := d) (by rw [hj]; exact hd) (by
    rw [available_congr (j := k) (by rw [hj]) (by rw [hj]), hj]
    exact h)
  have hr : s.journal.reclaim 64 s.journal.oldest = (k, n) := by rw [hk, hn]
  have hend : s.endWalk w true = (((s.takeReclaim (s.journal.reclaim 64 s.journal.oldest)).writePendingClose).latch
      (.releaseDone w.first w.last w.released w.unread w.held (s.journal.reclaim 64 s.journal.oldest).2
        (s.journal.reclaim 64 s.journal.oldest).1.available)).requestPass := rfl
  rw [hend, hr, hwrite]

/-- An append changes no hold flag. -/
theorem append_heldPages (j : Journal) (mk : BitVec 24 → Record) : (j.append mk).heldPages = j.heldPages := by
  cases ho : j.openPage with
  | none => rw [Journal.append, ho]
  | some pg =>
    have hput : ∀ (v : Vector JournalPage 64) (i : PageNo) (x : JournalPage), x.hold = v[i].hold →
        (putAt v i x).toList.countP (·.hold) = v.toList.countP (·.hold) := fun v i x h => countP_putAt v i h
    rw [append_eq ho]
    unfold Journal.heldPages
    split
    · split
      · dsimp only
        rw [hput _ _ _ (by rw [getElem_putAt_ne _ _ (page_succ_ne pg)])]
        exact hput _ _ _ rfl
      · exact hput _ _ _ rfl
    · exact hput _ _ _ rfl

end Sys2Proof.Machine
end

section
/-! The end of a release walk as a step of the running part, and the obligation on RELEASE_WALK_STEP (R160, R162). -/

namespace Sys2Proof.Machine

variable {s t y z : State} {j k : Journal} {w w' : Walk} {o : PageNo} {n : Nat} {opens : Prop} [Decidable opens]

/-- The running part at the last page of a walk: the journal as the page's judgement leaves it, the walk over, and as
the reclaim pass then leaves it. -/
structure State.AtWalkEnd (s : State) (w w' : Walk) (j k : Journal) (o : PageNo) (n : Nat) (opens : Prop)
    [Decidable opens] : Prop where
  running : s.Running
  freed : j.Freed k o n opens
  kept : j = { s.journal with pages := j.pages, balances := j.balances, walk := none }
  reclaimed : k = (j.reclaim 64 j.oldest).1
  count : n = (j.reclaim 64 j.oldest).2
  steps : s.stepWalk = State.endWalk { s with journal := j } w' true
  ends : w'.first = w.first ∧ w'.last = w.last

section
variable (h : s.AtWalkEnd w w' j k o n opens)
include h

theorem State.AtWalkEnd.journal : k = { s.journal with
    pages := k.pages, newest := k.newest, cursors := k.cursors, balances := j.balances, walk := none } := by
  have hrest := h.freed.rest
  rw [h.kept] at hrest
  exact hrest

/-- What the reclaim pass and its judgement leave, before a pending DAY-CLOSE is looked at. -/
theorem State.AtWalkEnd.taken (hy : y = State.takeReclaim { s with journal := j } (k, n)) :
    y.journal = { k with lowArmed := y.journal.lowArmed } ∧ y = { s with journal := y.journal, links := y.links } ∧
    (n = 0 → y.journal.lowArmed = s.journal.lowArmed ∧ s.KeepsLatch y .journalLow) ∧
    (0 < n → s.LowJudged y ∧ y.journal.lowArmed = decide (s.journal.reserved + 64 ≤ k.available) ∧
      (k.available < s.journal.reserved + 64 → s.journal.lowArmed = true →
        y.Shows (.journalLow k.available s.journal.reserved (j.countState .closed) k.heldPages)) ∧
      (s.journal.reserved + 64 ≤ k.available ∨ s.journal.lowArmed = false → s.KeepsLatch y .journalLow)) := by
  have hyj := takeReclaim_journal { s with journal := j } k n
  have hyf := takeReclaim_eq { s with journal := j } k n
  rw [← hy] at hyj hyf
  have harm : j.lowArmed = s.journal.lowArmed := by rw [h.kept]
  have harm' : k.lowArmed = s.journal.lowArmed := by rw [h.journal]
  have hreserved : k.reserved = s.journal.reserved := by rw [h.journal]
  obtain ⟨hzero, hpos⟩ := takeReclaim_done (s := { s with journal := j }) h.running.1 (harm'.trans harm.symm) hy
  refine ⟨hyj, hyf, fun hn => ?_, fun hn => ?_⟩
  · rw [hzero hn]
    exact ⟨harm', .refl s _⟩
  · obtain ⟨hjudged, hj, hshows, hquiet, _⟩ := hpos hn
    rw [hreserved] at hshows hquiet
    refine ⟨hjudged.congr harm.symm (.refl s _) rfl (.refl y _), ?_, fun hlow ha => ?_, fun hq => ?_⟩
    · rw [hj, hreserved]
    · rw [← h.freed.closed]
      exact hshows hlow (harm.trans ha)
    · exact hquiet (hq.imp_right harm.trans)

/-- RELEASE-DONE of the walk, with the counts of all its pages. -/
theorem State.AtWalkEnd.pends (hstay : s.journal.pendingClose = none ∨ k.available < s.journal.reserved + 1) :
    ∃ t, exec .releaseWalkStep s = .next t ∧ t.journal.walk = none ∧ t.journal.balances = j.balances ∧
      t.journal.pendingClose = s.journal.pendingClose ∧ t.journal.nextSeq = s.journal.nextSeq ∧
      t.journal.available = k.available ∧ t.journal.reserved = s.journal.reserved ∧ (0 < n → s.LowJudged t) ∧
      (n = 0 → t.journal.lowArmed = s.journal.lowArmed ∧ s.KeepsLatch t .journalLow) ∧
      t.journal = { k with lowArmed := t.journal.lowArmed } ∧
      t.Shows (.releaseDone w.first w.last w'.released w'.unread w'.held n k.available) ∧ t.disp.mark = true ∧
      t = { s with journal := t.journal, disp := t.disp, links := t.links } := by
  have hpending : k.pendingClose = s.journal.pendingClose := by rw [h.journal]
  have hreserved : k.reserved = s.journal.reserved := by rw [h.journal]
  have hend := h.steps.trans (endWalk_pends h.reclaimed h.count (by
    rw [hpending, hreserved]
    exact hstay.imp_right Nat.le_of_lt_succ))
  rw [h.ends.1, h.ends.2] at hend
  obtain ⟨y, hy⟩ : ∃ y, y = State.takeReclaim { s with journal := j } (k, n) := ⟨_, rfl⟩
  obtain ⟨hyj, hframe, hzero, hpos⟩ := h.taken hy
  rw [← hy] at hend
  obtain ⟨d, hexec, hd⟩ := event_settled (c := .releaseWalkStep) (f := State.stepWalk) rfl h.running hend
  have hlatched : y.KeepsLatch (y.latch (.releaseDone w.first w.last w'.released w'.unread w'.held n k.available))
      .journalLow := keepsLatch_latch y nofun
  have havail : y.journal.available = k.available :=
    available_congr (by rw [hyj]) (by rw [hyj])
  refine ⟨_, hexec, (congrArg Journal.walk hyj).trans (by rw [h.journal]),
    (congrArg Journal.balances hyj).trans (by rw [h.journal]), (congrArg Journal.pendingClose hyj).trans hpending,
    (congrArg Journal.nextSeq hyj).trans (by rw [h.journal]),
    havail,
    (congrArg Journal.reserved hyj).trans hreserved, fun hn => ?_, fun hn => ?_, hyj, shows_latch y _, by rw [hd]; rfl,
    congrArg (fun z : State => { z with disp := d, links := (y.latch (.releaseDone w.first w.last w'.released
      w'.unread w'.held n k.available)).links }) hframe⟩
  · exact (hpos hn).1.congr rfl (.refl s _) rfl hlatched
  · obtain ⟨harm, hkeep⟩ := hzero hn
    exact ⟨harm, hkeep.trans hlatched⟩

/-- The pending DAY-CLOSE written on the page that is OPEN after the pass. -/
theorem State.AtWalkEnd.writes {d : DayClose} {q : PageNo} (hsound : j.Sound) (hd : s.journal.pendingClose = some d)
    (hroom : s.journal.reserved + 1 ≤ k.available) (hq : k.openPage = some q) :
    ∃ t, exec .releaseWalkStep s = .next t ∧ t.journal.walk = none ∧ t.journal.balances = j.balances ∧
      t.journal.pendingClose = none ∧ t.journal.nextSeq = s.journal.nextSeq + 1 ∧
      t.journal.reserved = s.journal.reserved ∧
      t.journal.lowArmed = decide (s.journal.reserved + 65 ≤ k.available) ∧
      (0 < n → k.available < s.journal.reserved + 64 → s.journal.lowArmed = true →
        t.Shows (.journalLow k.available s.journal.reserved (j.countState .closed) t.journal.heldPages)) ∧
      (n = 0 ∧ s.journal.lowArmed = true ∧ k.available < s.journal.reserved + 65 ∨
          0 < n ∧ k.available = s.journal.reserved + 64 →
        t.Shows (.journalLow (k.available - 1) s.journal.reserved (t.journal.countState .closed) t.journal.heldPages)) ∧
      (s.journal.reserved + 65 ≤ k.available ∨
          s.journal.lowArmed = false ∧ (n = 0 ∨ k.available < s.journal.reserved + 64) → s.KeepsLatch t .journalLow) ∧
      t.journal.pages[q].records = k.pages[q].records ++ [.dayClose s.journal.nextSeq d] ∧
      t.Shows (.dayClosed s.journal.nextSeq d.first d.last d.totals.amount) ∧
      t.Shows (.releaseDone w.first w.last w'.released w'.unread w'.held n k.available) ∧ t.disp.mark = true ∧
      t = { s with journal := t.journal, disp := t.disp, links := t.links } := by
  have hpending : k.pendingClose = some d := by rw [h.journal]; exact hd
  have hreserved : k.reserved = s.journal.reserved := by rw [h.journal]
  have hend := h.steps.trans (endWalk_writes h.reclaimed h.count hpending (by omega))
  rw [h.ends.1, h.ends.2] at hend
  obtain ⟨y, hy⟩ : ∃ y, y = State.takeReclaim { s with journal := j } (k, n) := ⟨_, rfl⟩
  obtain ⟨hyj, hframe, hzero, hpos⟩ := h.taken hy
  rw [← hy] at hend
  have hypages : y.journal.pages = k.pages := by rw [hyj]
  have hynewest : y.journal.newest = k.newest := by rw [hyj]
  have hyavail : y.journal.available = k.available := available_congr hypages hynewest
  have hyreserved : y.journal.reserved = s.journal.reserved := (congrArg Journal.reserved hyj).trans hreserved
  have hyseq : y.journal.nextSeq = s.journal.nextSeq := (congrArg Journal.nextSeq hyj).trans (by rw [h.journal])
  have hksound : k.Sound := by
    rw [h.reclaimed]
    exact hsound.reclaim 64 j.oldest
  have hrun : y.part.phase = .running := by rw [hframe]; exact h.running.1
  obtain ⟨z, hz⟩ : ∃ z, z = y.appendDayClose d := ⟨_, rfl⟩
  rw [← hz] at hend
  obtain ⟨e, hexec, he⟩ := event_settled (c := .releaseWalkStep) (f := State.stepWalk) rfl h.running hend
  obtain ⟨hwritten, hzres, _, hzbal, hzshow, _, hzarm, hzlow, hzquiet⟩ :=
    appendDayClose_done hrun (hksound.congr hypages hynewest) ((openPage_congr hypages hynewest).trans hq) d hz
  obtain ⟨hseq, hzpage, _, _, _, _, hzwalk⟩ := hwritten
  rw [hyavail, hyreserved] at hzarm hzlow hzquiet
  rw [hyseq] at hzpage hzshow
  have hheld : z.journal.heldPages = k.heldPages := by
    rw [hz, State.appendDayClose, heldPages_congr (j := y.journal.append fun q => .dayClose q d)
      (by rw [judgeLow_keeps_journal]; rfl), append_heldPages, heldPages_congr hypages]
  have hclosed : y.journal.countState .closed = j.countState .closed :=
    (countState_congr hypages .closed).trans h.freed.closed
  obtain ⟨t, ht⟩ : ∃ t : State, t = { (((z.modJournal fun j => { j with pendingClose := none }).requestPass).latch
      (.releaseDone w.first w.last w'.released w'.unread w'.held n k.available)).requestPass with disp := e } := ⟨_, rfl⟩
  rw [← ht] at hexec
  have htj : t.journal = { z.journal with pendingClose := none } := by rw [ht]; rfl
  have hkept : ∀ i, i ≠ .releaseDone → z.KeepsLatch t i := fun i hi => by
    rw [ht]
    exact keepsLatch_latch (z.modJournal fun j => { j with pendingClose := none }).requestPass
      (e := .releaseDone w.first w.last w'.released w'.unread w'.held n k.available) hi
  have hdone : t.Shows (.releaseDone w.first w.last w'.released w'.unread w'.held n k.available) := by
    rw [ht]
    exact shows_latch (z.modJournal fun j => { j with pendingClose := none }).requestPass
      (.releaseDone w.first w.last w'.released w'.unread w'.held n k.available)
  have hframe' : t = { s with journal := t.journal, disp := t.disp, links := t.links } := by
    have hyz : z = { y with journal := z.journal, links := z.links } := by rw [hz]; simp [State.ext_iff]
    have hsz := hyz.trans (congrArg (fun v : State => { v with journal := z.journal, links := z.links }) hframe)
    have htz : t = { z with journal := t.journal, disp := t.disp, links := t.links } := by simp [ht]
    exact htz.trans (congrArg (fun v : State => { v with journal := t.journal, disp := t.disp, links := t.links }) hsz)
  have htheld : t.journal.heldPages = k.heldPages := (heldPages_congr (by rw [htj])).trans hheld
  have htclosed : t.journal.countState .closed = z.journal.countState .closed := countState_congr (by rw [htj]) _
  rw [← htclosed, hheld, ← htheld] at hzlow
  refine ⟨t, hexec, ?_, ?_, by rw [htj], ?_, ?_, ?_, fun hn hlow ha => ?_, fun hcase => ?_, fun hcase => ?_, ?_,
    hzshow.keep (hkept .dayClosed nofun), hdone, ?_, hframe'⟩
  · rw [htj]
    exact hzwalk.trans (by rw [hyj, h.journal])
  · rw [htj]
    exact hzbal.trans (by rw [hyj, h.journal])
  · rw [htj]
    exact hseq.trans (by rw [hyseq])
  · rw [htj]
    exact hzres.trans hyreserved
  · rw [htj]
    exact hzarm
  · obtain ⟨_, harm, hshows, _⟩ := hpos hn
    have hfired : y.journal.lowArmed = false := harm.trans (decide_eq_false (by omega))
    have hshown := hshows hlow ha
    rw [← htheld] at hshown
    exact hshown.keep ((hzquiet (.inr hfired)).trans (hkept .journalLow nofun))
  · have harmed : y.journal.lowArmed = true ∧ k.available < s.journal.reserved + 65 := by
      rcases hcase with ⟨hn, ha, hlt⟩ | ⟨hn, heq⟩
      · exact ⟨(hzero hn).1.trans ha, hlt⟩
      · exact ⟨(hpos hn).2.1.trans (decide_eq_true (by omega)), by omega⟩
    exact (hzlow harmed.2 harmed.1).keep (hkept .journalLow nofun)
  · have hsy : s.KeepsLatch y .journalLow := by
      rcases Nat.eq_zero_or_pos n with hn | hn
      · exact (hzero hn).2
      · exact (hpos hn).2.2.2 (hcase.imp (by omega) And.left)
    refine (hsy.trans (hzquiet (hcase.imp_right fun hq => ?_))).trans (hkept .journalLow nofun)
    obtain ⟨ha, hn⟩ := hq
    rcases Nat.eq_zero_or_pos n with hz' | hp
    · exact (hzero hz').1.trans ha
    · exact (hpos hp).2.1.trans (decide_eq_false (by omega))
  · rw [show t.journal.pages[q] = z.journal.pages[q] by rw [htj], hzpage, hypages]
  · rw [ht]
    exact (congrArg Dispatcher.mark he).trans rfl

end

theorem counted_ends (w : Walk) (pg : JournalPage) : (w.counted pg).first = w.first ∧ (w.counted pg).last = w.last := by
  unfold Walk.counted
  split
  · exact ⟨rfl, rfl⟩
  · split
    · exact ⟨rfl, rfl⟩
    · split <;> exact ⟨rfl, rfl⟩

/-- Settles O52: a page judged, and after the last the reclaim pass and what it makes room for. -/
theorem walkStepJudgesPage : Obligations.WalkStepJudgesPage := by
  refine ⟨fun s hs hw => ?_, fun s w w' pg j hs hw hpg hw' hj => ?_⟩
  · exact event_eq (c := .releaseWalkStep) (f := State.stepWalk) rfl hs (by rw [State.stepWalk, hw]) (.refl s)
  have hj' : j = s.journal.judged w.next := by rw [hj, hpg]; rfl
  have hcount : w' = w.counted s.journal.pages[w.next] := by rw [hw', hpg]; rfl
  have hstep : s.stepWalk = s.walkStep w true := by rw [State.stepWalk, hw]
  have hkept : j = { s.journal with pages := j.pages, balances := j.balances } := by rw [hj']; exact judged_keeps ..
  refine ⟨fun hne => ?_, fun n a o opens hlast ho hn ha hopens => ?_⟩
  · rw [walkStep_on hne, ← hj', ← hcount] at hstep
    refine event_eq (c := .releaseWalkStep) (f := State.stepWalk) rfl hs hstep ⟨rfl, rfl, signStatus_journal ?_⟩
    have havail : Journal.available { j with walk := some { w' with next := w.next + 1 } } = s.journal.available :=
      Eq.trans (available_congr rfl rfl) (by rw [hj']; exact (judged_counts ..).2)
    unfold Journal.takesCall
    rw [havail]
    rw [hkept]
  · rw [walkStep_last hlast, ← hj', ← hcount] at hstep
    obtain ⟨jj, hjj⟩ : ∃ jj : Journal, jj = { j with walk := none } := ⟨_, rfl⟩
    obtain ⟨k, hk⟩ : ∃ k, k = (jj.reclaim 64 jj.oldest).1 := ⟨_, rfl⟩
    have hn' : n = (jj.reclaim 64 jj.oldest).2 := by rw [reclaim_run, hn, hjj, ho]; rfl
    have hfreed : jj.Freed k o n (opens = true) := by
      have hoj : o = jj.oldest := by rw [ho, hjj]; rfl
      rw [hk, hn', hoj]
      refine (reclaim_oldest jj).opens_iff ?_
      rw [hopens, decide_eq_true_iff, ← hn', hoj, hjj]
      rfl
    have hend : s.AtWalkEnd w w' jj k o n (opens = true) :=
      ⟨hs, hfreed, by rw [hjj, hkept], hk, hn', by rw [hstep, hjj], by rw [hcount]; exact counted_ends ..⟩
    have havail : k.available = a := by rw [hfreed.available, hjj, ha]; rfl
    have hbalances : jj.balances = j.balances := by rw [hjj]
    refine ⟨fun hstay => ?_, fun d q hsound hd hroom hq => ?_⟩
    · obtain ⟨t, hexec, hwalk, hbal, hpend, hseq, htavail, hres, hlow, hquiet, htj, hdone, hmark, hframe⟩ :=
        hend.pends (by rw [havail]; exact hstay)
      rw [havail] at htavail hdone
      have hpages : t.journal.pages = k.pages := by rw [htj]
      have hcursors : t.journal.cursors = k.cursors := by rw [htj]
      have hnewest : t.journal.newest = k.newest := by rw [htj]
      have hjpages : jj.pages = j.pages := by rw [hjj]
      have hjcursors : jj.cursors = s.journal.cursors := by rw [hjj, hkept]
      have hjnewest : jj.newest = s.journal.newest := by rw [hjj, hkept]
      refine ⟨t, hexec, hwalk, hbal.trans hbalances, hpend, hseq, htavail, hres, hlow, hquiet, fun i hi => ?_,
        fun i hi => ?_, fun p i m hc => ?_, fun h => ⟨?_, fun p hc => ?_⟩, fun h => ⟨?_, fun p hc => ?_⟩, hdone, hmark,
        hframe⟩
      · rw [show t.journal.pages[i] = k.pages[i] by rw [hpages], hfreed.freed i hi]
      · rw [show t.journal.pages[i] = k.pages[i] by rw [hpages], hfreed.stays i hi]
        rw [hjpages]
      · rw [hcursors, ← hjcursors]
        exact hfreed.slots p i m (by rw [hjcursors]; exact hc)
      · rw [hnewest, hfreed.newest, if_pos h]
      · rw [hcursors, hfreed.ends p (by rw [hjcursors]; exact hc), if_pos h, hjcursors]
      · rw [hnewest, hfreed.newest, if_neg (by rw [h]; nofun), hjnewest]
      · rw [hcursors, hfreed.ends p (by rw [hjcursors]; exact hc), if_neg (by rw [h]; nofun), hjcursors]
    · have hopen : k.openPage = some q := by
        rw [hfreed.opened]
        rcases hq with hq | ⟨ho', rfl⟩
        · rw [if_neg fun ho' => ?_, hjj]
          · exact hq
          · rw [hopens, decide_eq_true_iff, hq] at ho'
            exact absurd ho'.1 nofun
        · rw [if_pos ho']
      have hjsound : jj.Sound := by
        have hjsound' : j.Sound := by rw [hj']; exact Journal.Sound.judged hsound w.next
        exact hjsound'.congr (by rw [hjj]) (by rw [hjj])
      have hclosed : jj.countState .closed = s.journal.countState .closed :=
        (countState_congr (j := j) (by rw [hjj]) .closed).trans (by rw [hj']; exact judged_closed ..)
      have hrecords : k.pages[q].records = if opens then [] else s.journal.pages[q].records := by
        rcases hq with hq | ⟨hopened, rfl⟩
        · have hnot : ¬ opens = true := fun hopened => by
            rw [hopens, decide_eq_true_iff, hq] at hopened
            exact absurd hopened.1 nofun
          have hst : jj.pages[q].state ≠ .released := by
            have hjst := (openPage_state hq).2
            rw [hjj]
            dsimp only
            rw [hjst]
            nofun
          have hout : n ≤ (q - o).val := by
            by_contra hlt
            have hoj : o = jj.oldest := by rw [ho, hjj]; rfl
            rw [hn', hoj] at hlt
            exact hst ((reclaim_count 64 jj.oldest jj (Nat.le_refl _)).1 q (by omega))
          rw [if_neg hnot, hfreed.stays q hout]
          exact (congrArg (fun v : Vector JournalPage 64 => v[q].records) (by rw [hjj, hj'])).trans
            (judged_records s.journal w.next q)
        · have hpos : 0 < n := by
            rw [hopens, decide_eq_true_iff] at hopened
            exact hopened.2.1
          rw [if_pos hopened, hfreed.freed q (by rw [offset_self]; exact hpos)]
          rfl
      obtain ⟨t, hexec, hwalk, hbal, hpend, hseq, hres, harm, hfired, hfired', hquiet, hrec, hclose, hdone, hmark, hframe⟩ :=
        hend.writes hjsound hd (by rw [havail]; exact hroom) hopen
      rw [havail] at harm hfired hfired' hquiet hdone
      rw [hclosed] at hfired
      exact ⟨t, hexec, hwalk, hbal.trans hbalances, hpend, hseq, hres, harm, hfired, hfired', hquiet,
        hrec.trans (by rw [hrecords]), hclose, hdone, hmark, hframe⟩

end Sys2Proof.Machine
end

section
/-! The Depot Clock's rollover with its day close (R169, R170), and what brings it: the passage of midnight and TIME SET
(R166, R167). -/

namespace Sys2Proof.Machine

variable {s t u m : State} {p : Port} {d : DayClose} {pg : PageNo} {nt : DepotTime}

/-! ### One rollover (R111, R169, R170) -/

/-- The allowance loaded, OVERDRAW cleared and the fairness state reset. -/
def State.newDay (s : State) : State :=
  { s with
    water := { s.water with fresh := s.water.preload, overdraw := 0 }
    disp := { s.disp with lastHaulier := none, run := 0 } }

/-- The day close a rollover makes, if it is due. -/
def State.dueClose (s : State) : DayClose :=
  { first := s.clock.lastClosed + 1, last := s.clock.time.day - 1, totals := s.clock.acc }

theorem waterRollover_eq (hw : s.water.waits = []) : s.waterRollover =
    { s with water := { s.water with fresh := s.water.preload, overdraw := 0 } } := by
  refine (congrArg State.firstFit rfl).trans (?_ : State.firstFitOver _ _ = _)
  exact congrArg (fun l => State.firstFitOver l
    { s with water := { s.water with fresh := s.water.preload, overdraw := 0 } }) hw

theorem rollover_before (hw : s.water.waits = []) :
    s.rollover = s.newDay.closeDay.modClock fun k => { k with billingDay := k.time.day } := by
  unfold State.rollover
  rw [waterRollover_eq hw]
  rfl

theorem rollover_plain (hw : s.water.waits = []) (h : s.clock.billingDay ≤ s.clock.lastClosed) :
    s.rollover = { s.newDay with clock := { s.clock with billingDay := s.clock.time.day } } := by
  have hstay : s.newDay.closeDay = s.newDay := if_neg (by
    rw [Clock.closeDue, decide_eq_true_iff]
    exact Nat.not_lt.2 h)
  rw [rollover_before hw, hstay]
  rfl

theorem rollover_due (hw : s.water.waits = []) (h : s.clock.lastClosed < s.clock.billingDay) :
    s.rollover = { s.newDay.dayCloseNotice s.dueClose with
      clock := { s.clock with billingDay := s.clock.time.day, lastClosed := s.clock.time.day - 1, acc := zeroTotals } } := by
  have hdue : s.newDay.closeDay = (s.newDay.dayCloseNotice s.dueClose).modClock fun k =>
      { k with lastClosed := k.time.day - 1, acc := zeroTotals } := if_pos (by
    rw [Clock.closeDue, decide_eq_true_iff]
    exact h)
  have hclock : (s.newDay.dayCloseNotice s.dueClose).clock = s.clock := by simp [State.newDay]
  rw [rollover_before hw, hdue]
  simp only [State.modClock, hclock]

/-! ### The DAY-CLOSE notice (R151, R152) -/

theorem dayCloseNotice_written (hp : s.journal.pendingClose = none) (hroom : s.journal.reserved < s.journal.available) :
    s.dayCloseNotice d = s.appendDayClose d := by
  rw [State.dayCloseNotice, hp]
  exact if_pos (decide_eq_true hroom)

theorem dayCloseNotice_full (hp : s.journal.pendingClose = none) (hfull : s.journal.available ≤ s.journal.reserved) :
    s.dayCloseNotice d = s.deferClose d := by
  rw [State.dayCloseNotice, hp]
  refine if_neg ?_
  simpa [Journal.hasRoomForClose] using hfull

theorem dayCloseNotice_merged {old : DayClose} (hp : s.journal.pendingClose = some old) : s.dayCloseNotice d =
    s.deferClose { first := old.first, last := d.last, totals := old.totals.plus d.totals } := by
  rw [State.dayCloseNotice, hp]

/-- A DAY-CLOSE appended, whatever the pages: the record and the event, and in the running part JOURNAL-LOW judged. -/
theorem appendDayClose_written (ho : s.journal.openPage = some pg) (ht : t = s.appendDayClose d) :
    s.Written t pg (.dayClose s.journal.nextSeq d) ∧ t.journal.reserved = s.journal.reserved ∧
      t.journal.pendingClose = s.journal.pendingClose ∧ t.journal.balances = s.journal.balances ∧
      t.Shows (.dayClosed s.journal.nextSeq d.first d.last d.totals.amount) ∧
      (s.part.phase = .running → s.LowJudged t) := by
  obtain ⟨hreserved, hpending, hbalances, harm⟩ := append_rest s.journal fun q => .dayClose q d
  obtain ⟨x, hx⟩ : ∃ x, x = (s.modJournal fun j => j.append fun q => .dayClose q d).latch
      (.dayClosed s.journal.nextSeq d.first d.last d.totals.amount) := ⟨_, rfl⟩
  have hxj : x.journal = s.journal.append fun q => .dayClose q d := by rw [hx]; rfl
  have hshown : x.Shows (.dayClosed s.journal.nextSeq d.first d.last d.totals.amount) := by
    rw [hx]
    exact shows_latch _ _
  have hkept : s.KeepsLatch x .journalLow := by
    rw [hx]
    exact ((State.KeepsLatch.refl s _).modJournal _).latch _ nofun
  have htx : t = x.judgeLow := by rw [ht, State.appendDayClose, hx]
  have hj : t.journal = { (s.journal.append fun q => .dayClose q d) with lowArmed := t.journal.lowArmed } := by
    rw [htx, judgeLow_keeps_journal, hxj]
  refine ⟨written_append ho (fun q => .dayClose q d) ?_, by rw [hj, hreserved], by rw [hj, hpending], by rw [hj, hbalances],
    ?_, fun hrun => ?_⟩
  · rw [hj]
    exact ⟨rfl, rfl, rfl, rfl, rfl, rfl⟩
  · rw [htx]
    exact hshown.keep ((State.KeepsLatch.refl x _).judgeLow nofun)
  · have hxrun : x.part.phase = .running := by rw [hx]; exact hrun
    rw [htx]
    exact (lowJudged_judgeLow hxrun).congr (by rw [hxj, harm]) hkept rfl (.refl _ _)

/-! ### The clock moved (R166, R167) -/

/-- The state in which a rollover is taken: depot time moved, and what the ports were told of it. -/
def State.movedTo (s : State) (nt : DepotTime) (links : PerPort Link) : State :=
  { s with clock := { s.clock with time := nt, sub := 0 }, links := links }

/-- What the rollover of a moved clock makes, beside the ports' replies and the sign. -/
theorem rollover_moved {l : PerPort Link} (hrun : s.part.phase = .running) (hw : s.water.waits = [])
    (hl : ∀ i, i ≠ .clockStep → s.KeepsLatch (s.movedTo nt l) i)
    (hd : d = { first := s.clock.lastClosed + 1, last := nt.day - 1, totals := s.clock.acc })
    (hm : m = (s.movedTo nt l).rollover) (hj : t.journal = m.journal) (hmt : ∀ i, m.KeepsLatch t i) :
    m.water = { s.water with fresh := s.water.preload, overdraw := 0 } ∧ m.disp.lastHaulier = none ∧ m.disp.run = 0 ∧
      (s.clock.billingDay ≤ s.clock.lastClosed →
        m.clock = { s.clock with time := nt, sub := 0, billingDay := nt.day } ∧ t.journal = s.journal) ∧
      (s.clock.lastClosed < s.clock.billingDay →
        m.clock = { time := nt, sub := 0, billingDay := nt.day, lastClosed := nt.day - 1, acc := zeroTotals } ∧
        (∀ pg, s.journal.pendingClose = none → s.journal.reserved + 1 ≤ s.journal.available →
          s.journal.openPage = some pg →
          t.journal.pages[pg].records = s.journal.pages[pg].records ++ [.dayClose s.journal.nextSeq d] ∧
          t.journal.nextSeq = s.journal.nextSeq + 1 ∧ t.journal.pendingClose = none ∧
          t.journal.reserved = s.journal.reserved ∧ t.journal.balances = s.journal.balances ∧ s.LowJudged t ∧
          t.Shows (.dayClosed s.journal.nextSeq d.first d.last d.totals.amount)) ∧
        (∀ c, (s.journal.pendingClose = none ∧ s.journal.available < s.journal.reserved + 1 ∧ c = d ∨
            ∃ old, s.journal.pendingClose = some old ∧
              c = { first := old.first, last := d.last, totals := old.totals.plus d.totals }) →
          t.journal = { s.journal with pendingClose := some c } ∧
          t.Shows (.dayCloseDeferred c.first c.last s.journal.available s.journal.reserved))) := by
  obtain ⟨y, hy⟩ : ∃ y, y = (s.movedTo nt l).newDay := ⟨_, rfl⟩
  have hwater : y.water = { s.water with fresh := s.water.preload, overdraw := 0 } := by rw [hy]; rfl
  have hhaulier : y.disp.lastHaulier = none := by rw [hy]; rfl
  have hfair : y.disp.run = 0 := by rw [hy]; rfl
  have hyj : y.journal = s.journal := by rw [hy]; rfl
  have hypart : y.part.phase = .running := by rw [hy]; exact hrun
  have hykeep : ∀ i, i ≠ .clockStep → s.KeepsLatch y i := fun i hi => by rw [hy]; exact hl i hi
  rcases Nat.lt_or_ge s.clock.lastClosed s.clock.billingDay with hdue | hnot
  · have hroll := hm.trans (rollover_due (s := s.movedTo nt l) hw hdue)
    have hclose : (s.movedTo nt l).dueClose = d := hd.symm
    rw [hclose, ← hy] at hroll
    have hmj : m.journal = (y.dayCloseNotice d).journal := by rw [hroll]
    have hmk : ∀ i, (y.dayCloseNotice d).KeepsLatch m i := fun i => by rw [hroll]; exact .refl _ i
    refine ⟨?_, ?_, ?_, fun h => absurd hdue (Nat.not_lt.2 h), fun _ => ⟨by rw [hroll]; rfl, fun pg hp hroom ho => ?_,
      fun c hc => ?_⟩⟩
    · rw [hroll, ← hwater]
      simp
    · rw [hroll, ← hhaulier]
      simp
    · rw [hroll, ← hfair]
      simp
    · have hwrite := dayCloseNotice_written (s := y) (d := d) (by rw [hyj]; exact hp) (by rw [hyj]; omega)
      obtain ⟨hwritten, hres, hpend, hbal, hshow, hlow⟩ :=
        appendDayClose_written (s := y) (d := d) (by rw [hyj]; exact ho) rfl
      rw [← hwrite] at hwritten hres hpend hbal hshow hlow
      obtain ⟨hseq, hpage, _⟩ := hwritten
      rw [hyj] at hseq hpage hres hpend hbal hshow
      have htj := hj.trans hmj
      have hnoticed : (y.dayCloseNotice d).KeepsLatch t .dayClosed := (hmk _).trans (hmt _)
      refine ⟨?_, by rw [htj, hseq], by rw [htj, hpend, hp], by rw [htj, hres], by rw [htj, hbal],
        (hlow hypart).congr (by rw [hyj]) (hykeep _ nofun) htj ((hmk _).trans (hmt _)), hshow.keep hnoticed⟩
      rw [show t.journal.pages[pg] = (y.dayCloseNotice d).journal.pages[pg] by rw [htj], hpage]
    · have hdefer : y.dayCloseNotice d = y.deferClose c := by
        rcases hc with ⟨hp, hfull, rfl⟩ | ⟨old, hp, rfl⟩
        · exact dayCloseNotice_full (by rw [hyj]; exact hp) (by rw [hyj]; omega)
        · exact dayCloseNotice_merged (by rw [hyj]; exact hp)
      rw [hdefer] at hmj hmk
      have hshow := shows_latch (y.modJournal fun j => { j with pendingClose := some c })
        (.dayCloseDeferred c.first c.last y.journal.available y.journal.reserved)
      refine ⟨?_, ?_⟩
      · rw [hj, hmj, ← hyj]
        rfl
      · rw [← hyj]
        exact State.Shows.keep (s := y.deferClose c) hshow ((hmk .dayCloseDeferred).trans (hmt .dayCloseDeferred))
  · have hroll := hm.trans (rollover_plain (s := s.movedTo nt l) hw hnot)
    rw [← hy] at hroll
    refine ⟨by rw [hroll]; exact hwater, by rw [hroll]; exact hhaulier, by rw [hroll]; exact hfair,
      fun _ => ⟨by rw [hroll]; rfl, ?_⟩, fun h => absurd h (Nat.not_lt.2 hnot)⟩
    rw [hj, hroll]
    exact hyj

/-- A rollover latches nothing but what a day close does. -/
theorem rollover_keepsLatch (s : State) {i : EventKind} (hl : i ≠ .journalLow) (hd : i ≠ .dayClosed)
    (hf : i ≠ .dayCloseDeferred) : s.KeepsLatch s.rollover i := by
  have hnotice : ∀ (x : State) (d : DayClose), x.KeepsLatch (x.dayCloseNotice d) i := fun x d => by
    unfold State.dayCloseNotice
    split
    · exact ((State.KeepsLatch.refl x i).modJournal _).latch _ hf
    · split
      · exact (State.KeepsLatch.refl x i).appendDayClose d hl hd
      · exact ((State.KeepsLatch.refl x i).modJournal _).latch _ hf
  have hclose : ∀ x : State, x.KeepsLatch x.closeDay i := fun x => by
    unfold State.closeDay
    dsimp only
    split
    · exact (hnotice x _).modClock _
    · exact .refl x i
  have hwater : s.KeepsLatch s.waterRollover i := keepsLatch_of_links (by simp [State.waterRollover]) i
  exact ((hwater.modDisp fun d => { d with lastHaulier := none, run := 0 }).trans (hclose _)).modClock _

theorem atMidnight_iff (k : Clock) : k.atMidnight = true ↔ 86399 ≤ k.time.secs ∧ 99 ≤ k.time.cs ∧ 1000 ≤ k.sub := by
  rw [Clock.atMidnight, DepotTime.lastOfDay, Bool.and_eq_true, Bool.and_eq_true, decide_eq_true_iff, decide_eq_true_iff,
    decide_eq_true_iff, and_assoc, Config.ticksPerCs]

theorem midnight_still (h : s.clock.time.secs < 86399 ∨ s.clock.time.cs < 99 ∨ s.clock.sub < 1000) :
    exec .midnightPassage s = .next s := by
  have hnot : ¬ s.clock.atMidnight = true := by
    rw [atMidnight_iff]
    omega
  exact congrArg Host.Outcome.next (if_neg hnot)

theorem midnight_passes (hs : 86399 ≤ s.clock.time.secs) (hc : 99 ≤ s.clock.time.cs) (ht : 1000 ≤ s.clock.sub) :
    exec .midnightPassage s = .next (s.settleSign s.passMidnight) :=
  congrArg Host.Outcome.next (if_pos ((atMidnight_iff s.clock).2 ⟨hs, hc, ht⟩))

theorem nextDay_eq (h : s.clock.time.day ≤ 65535) (hnt : nt = { day := min 65535 (s.clock.time.day + 1), secs := 0, cs := 0 }) :
    s.clock.time.nextDay = nt := by
  rw [hnt, DepotTime.nextDay]
  congr 1
  split <;> omega

theorem passMidnight_plain (hnt : s.clock.time.nextDay = nt)
    (h : s.part.phase ≠ .running ∨ nt.day ≤ s.clock.billingDay) : s.passMidnight = s.movedTo nt s.links := by
  subst hnt
  refine if_neg fun hc => ?_
  simp only [Bool.and_eq_true, Clock.behind, decide_eq_true_eq] at hc
  obtain ⟨hrun, hbehind⟩ := hc
  rcases h with h | h
  · exact h (by simpa [State.running] using hrun)
  · exact absurd hbehind (Nat.not_lt.2 h)

theorem passMidnight_rolls (hnt : s.clock.time.nextDay = nt) (hrun : s.part.phase = .running)
    (h : s.clock.billingDay < nt.day) : s.passMidnight = (s.movedTo nt s.links).rollover := by
  subst hnt
  refine if_pos ?_
  simp only [Bool.and_eq_true, Clock.behind, decide_eq_true_eq]
  exact ⟨by simpa [State.running] using hrun, h⟩

/-! ### TIME SET (R167) -/

/-- The ports after a TIME SET has judged the difference. -/
def State.stepLinks (s : State) (p : Port) (nt : DepotTime) : PerPort Link :=
  (State.noteStep (s.movedTo nt s.links) p s.clock.time nt).links

theorem noteStep_moved (s : State) (p : Port) (nt : DepotTime) :
    (s.adopt nt).noteStep p s.clock.time nt = s.movedTo nt (s.stepLinks p nt) := by
  have hadopt : s.adopt nt = s.movedTo nt s.links := rfl
  rw [hadopt, State.stepLinks]
  unfold State.noteStep
  dsimp only
  split <;> rfl

theorem stepLinks_keeps {i : EventKind} (hi : i ≠ .clockStep) : s.KeepsLatch (s.movedTo nt (s.stepLinks p nt)) i := by
  unfold State.stepLinks State.noteStep
  dsimp only
  split
  · exact (State.KeepsLatch.refl (s.movedTo nt s.links) i).latch _ hi
  · exact .refl s i

theorem stepLinks_shows {diff : Int} (hdiff : diff = nt.total - s.clock.time.total)
    (h : s.active.clockTolerance < diff.natAbs) :
    (s.movedTo nt (s.stepLinks p nt)).Shows (.clockStep p s.clock.time nt diff) := by
  subst hdiff
  have hstep : (s.movedTo nt s.links).noteStep p s.clock.time nt =
      (s.movedTo nt s.links).latch (.clockStep p s.clock.time nt (nt.total - s.clock.time.total)) := if_pos h
  rw [State.stepLinks, hstep]
  exact shows_latch (s.movedTo nt s.links) _

theorem stepLinks_quiet (h : (nt.total - s.clock.time.total).natAbs ≤ s.active.clockTolerance) :
    s.stepLinks p nt = s.links := by
  have hstep : (s.movedTo nt s.links).noteStep p s.clock.time nt = s.movedTo nt s.links := if_neg (Nat.not_lt.2 h)
  rw [State.stepLinks, hstep]
  rfl

theorem stepLinks_told {diff : Int} (hdiff : diff = nt.total - s.clock.time.total)
    (h : s.active.clockTolerance < diff.natAbs) : (s.abandonFrame p).stepLinks p nt =
      (({ s with links := ((s.movedTo nt s.links).latch (.clockStep p s.clock.time nt diff)).links } : State).abandonFrame p).links := by
  subst hdiff
  have hstep : ((s.abandonFrame p).movedTo nt (s.abandonFrame p).links).noteStep p (s.abandonFrame p).clock.time nt = _ :=
    if_pos h
  rw [State.stepLinks, hstep]
  cases p <;> rfl

theorem doTimeSet_refused {day secs : Nat} (h : 86399 < secs) : s.doTimeSet p day secs = (s, refuse .badArgument) :=
  if_pos (.inr h)

theorem doTimeSet_done {day secs : Nat} (hday : day ≤ 65535) (hsecs : secs ≤ 86399)
    (hnt : nt = { day := day, secs := secs, cs := 0 }) : s.doTimeSet p day secs =
      ((s.movedTo nt (s.stepLinks p nt)).afterSet,
        accept (timeBytes s.clock.time ++ signedBytes (nt.total - s.clock.time.total) ++
          be 1 (s.clock.indication day))) := by
  subst hnt
  refine (if_neg (by omega)).trans ?_
  dsimp only
  rw [noteStep_moved]

theorem afterSet_plain (h : s.clock.time.day ≤ s.clock.billingDay) :
    s.afterSet = { s with clock := { s.clock with billingDay := s.clock.time.day } } :=
  if_neg (by rw [Clock.behind, decide_eq_true_iff]; exact Nat.not_lt.2 h)

theorem afterSet_rolls (h : s.clock.billingDay < s.clock.time.day) : s.afterSet = s.rollover :=
  if_pos (decide_eq_true h)

/-- What a rollover leaves as it was. -/
theorem rollover_rest (hw : s.water.waits = []) (hm : m = s.rollover) :
    m = { s with water := m.water, disp := m.disp, journal := m.journal, clock := m.clock, links := m.links } := by
  have hbays : m.bays = s.bays := by
    rw [hm, rollover_before hw]
    simp [State.newDay]
  subst hm
  simp [State.ext_iff, hbays]

theorem serve_timeSet {x : BitVec 24} {y : BitVec 16} (hx : x.toNat ≤ 86399)
    (hnt : nt = { day := y.toNat, secs := x.toNat, cs := 0 }) {diff : Int}
    (hdiff : diff = ((y.toNat : Int) * 86400 + x.toNat) - ((s.clock.time.day : Int) * 86400 + s.clock.time.secs)) :
    s.serve p (.timeSet y x) = ((s.movedTo nt (s.stepLinks p nt)).afterSet,
      accept (timeBytes s.clock.time ++ signedBytes diff ++ be 1 (s.clock.indication y.toNat))) := by
  refine (doTimeSet_done (by omega) hx hnt).trans ?_
  subst hnt hdiff
  rfl

/-- A TIME SET to a day past the billing day: the rollover, and its indication in the reply. -/
theorem serve_timeSet_rolls {x : BitVec 24} {y : BitVec 16} (hx : x.toNat ≤ 86399)
    (hnt : nt = { day := y.toNat, secs := x.toNat, cs := 0 }) {diff : Int}
    (hdiff : diff = ((y.toNat : Int) * 86400 + x.toNat) - ((s.clock.time.day : Int) * 86400 + s.clock.time.secs))
    (h : s.clock.billingDay < y.toNat) :
    s.serve p (.timeSet y x) = ((s.movedTo nt (s.stepLinks p nt)).rollover,
      accept (timeBytes s.clock.time ++ signedBytes diff ++
        be 1 (if s.clock.lastClosed < s.clock.billingDay then 2 else 1))) := by
  have hday : nt.day = y.toNat := by rw [hnt]
  have hroll : (s.movedTo nt (s.stepLinks p nt)).afterSet = (s.movedTo nt (s.stepLinks p nt)).rollover :=
    afterSet_rolls (by rw [← hday] at h; exact h)
  have hind : s.clock.indication y.toNat = if s.clock.lastClosed < s.clock.billingDay then 2 else 1 := by
    refine (if_neg (Nat.not_le.2 h)).trans ?_
    simp [Clock.closeDue]
  rw [serve_timeSet hx hnt hdiff, hroll, hind]

/-- A rollover brought by the passage of midnight or by a TIME SET. -/
theorem rollover_taken {c : Instr} (hs : s.Running)
    (hc : c = .midnightPassage ∧ 86399 ≤ s.clock.time.secs ∧ 99 ≤ s.clock.time.cs ∧ 1000 ≤ s.clock.sub ∧
          nt = { day := min 65535 (s.clock.time.day + 1), secs := 0, cs := 0 } ∨
        ∃ p d x, s.Ready p ∧ c = .timeSet p d x ∧ x.toNat ≤ 86399 ∧ nt = { day := d.toNat, secs := x.toNat, cs := 0 })
    (hday : s.clock.time.day ≤ 65535) (h : s.clock.billingDay < nt.day) :
    ∃ l m d links, (∀ i, i ≠ .clockStep → s.KeepsLatch (s.movedTo nt l) i) ∧ m = (s.movedTo nt l).rollover ∧
      exec c s = .next { m with disp := d, links := links } ∧
      d = { m.disp with status := d.status, sending := d.sending, again := d.again } ∧
      ∀ i, m.KeepsLatch { m with disp := d, links := links } i := by
  rcases hc with ⟨rfl, hsecs, hcs, hsub, hnt⟩ | ⟨p, d, x, hready, rfl, hx, hnt⟩
  · obtain ⟨d, hd, hkept⟩ := settleSign_frame s (s.movedTo nt s.links).rollover
    refine ⟨s.links, _, d, (s.movedTo nt s.links).rollover.links, fun i _ => .refl s i, rfl, ?_, hkept, fun i _ => rfl⟩
    rw [midnight_passes hsecs hcs hsub, passMidnight_rolls (nextDay_eq hday hnt) hs.1 h, hd]
  · have hserve := serve_timeSet_rolls (s := s.abandonFrame p) (p := p) hx hnt rfl (by rw [hnt] at h; exact h)
    obtain ⟨d', l', hexec, hkept, _, hlatch⟩ := exec_answered (c := .timeSet p d x) rfl hready hserve
    refine ⟨_, _, d', l', fun i hi => ?_, rfl, hexec, hkept, hlatch⟩
    exact (keepsLatch_abandonFrame s p i).trans (stepLinks_keeps (s := s.abandonFrame p) hi)

theorem timeSet_total {x : BitVec 24} {y : BitVec 16} {diff : Int} (hnt : nt = { day := y.toNat, secs := x.toNat, cs := 0 })
    (hdiff : diff = ((y.toNat : Int) * 86400 + x.toNat) - ((s.clock.time.day : Int) * 86400 + s.clock.time.secs)) :
    diff = nt.total - s.clock.time.total := by
  rw [hdiff, hnt]
  rfl

/-- A TIME SET to a day that the billing day reaches: the clock moved, with CLOCK-STEP where the ports are told. -/
theorem timeSet_plain {x : BitVec 24} {y : BitVec 16} {diff : Int} (hs : s.Ready p) (hx : x.toNat ≤ 86399)
    (hnt : nt = { day := y.toNat, secs := x.toNat, cs := 0 })
    (hdiff : diff = ((y.toNat : Int) * 86400 + x.toNat) - ((s.clock.time.day : Int) * 86400 + s.clock.time.secs))
    (hd : y.toNat ≤ s.clock.billingDay) {l : PerPort Link}
    (ht : t = { s with clock := { s.clock with time := nt, sub := 0, billingDay := y.toNat }, links := l })
    (hlinks : (s.abandonFrame p).stepLinks p nt = (({ s with links := l } : State).abandonFrame p).links) :
    exec (.timeSet p y x) s = .next (t.replying p (.timeSet y x)
      (accept (timeBytes s.clock.time ++ signedBytes diff ++ be 1 0))) := by
  have hserve := serve_timeSet (s := s.abandonFrame p) (p := p) hx hnt hdiff
  have hday : nt.day = y.toNat := by rw [hnt]
  have hstate : ((s.abandonFrame p).movedTo nt ((s.abandonFrame p).stepLinks p nt)).afterSet = t.abandonFrame p := by
    rw [afterSet_plain (by rw [← hday] at hd; exact hd), hlinks, ht, ← hday]
    rfl
  have hind : (s.abandonFrame p).clock.indication y.toNat = 0 := if_pos hd
  rw [hstate, hind] at hserve
  exact exec_of_changed (c := .timeSet p y x) rfl hs hserve (by rw [ht]) (by rw [ht]) (by rw [ht]) (by rw [ht]; rfl)

/-- Settles O53: the clock moved by midnight or by TIME SET, and the one rollover of a day that passes the billing day. -/
theorem clockMovesDay : Obligations.ClockMovesDay := by
  refine ⟨fun s nt hnt hday => ⟨midnight_still, fun hs hc ht => ⟨fun hoff => ?_, fun hrun hle => ?_⟩⟩,
    fun p d x s nt diff hs hnt hdiff => ⟨fun hx => ?_, fun hx hd => ⟨fun htol => ?_, fun htol => ?_⟩, fun hx hd => ?_⟩,
    fun s c nt dc hs hw hcase hbehind hday hdc => ?_⟩
  · rw [midnight_passes hs hc ht, passMidnight_plain (nextDay_eq hday hnt) (.inl hoff)]
    refine congrArg Host.Outcome.next (if_neg ?_)
    simp [State.running, hoff]
  · rw [midnight_passes hs hc ht, passMidnight_plain (nextDay_eq hday hnt) (.inr hle)]
    exact congrArg Host.Outcome.next (settleSign_same rfl rfl hrun.2)
  · exact exec_of_unchanged (c := .timeSet p d x) rfl hs (doTimeSet_refused hx)
  · have hquiet := stepLinks_quiet (s := s.abandonFrame p) (p := p) (nt := nt) (timeSet_total hnt hdiff ▸ htol)
    exact timeSet_plain hs hx hnt hdiff hd (l := s.links) rfl hquiet
  · exact timeSet_plain hs hx hnt hdiff hd (l := ((s.movedTo nt s.links).latch (.clockStep p s.clock.time nt diff)).links) rfl
      (stepLinks_told (timeSet_total hnt hdiff) htol)
  · have hserve := serve_timeSet_rolls (s := s.abandonFrame p) (p := p) hx hnt hdiff hd
    obtain ⟨d', l', hexec, hkept, hreply, hlatch⟩ := exec_answered (c := .timeSet p d x) rfl hs hserve
    refine ⟨_, hexec, hreply, fun htol => ?_⟩
    have hshow := stepLinks_shows (s := s.abandonFrame p) (p := p) (timeSet_total hnt hdiff) htol
    exact hshow.keep ((rollover_keepsLatch _ (i := .clockStep) nofun nofun nofun).trans (hlatch .clockStep))
  · obtain ⟨l, m, d, links, hl, hm, hexec, hkept, hlatch⟩ := rollover_taken hs hcase hday hbehind
    obtain ⟨t, ht⟩ : ∃ t, t = { m with disp := d, links := links } := ⟨_, rfl⟩
    rw [← ht] at hexec hlatch
    obtain ⟨hwater, hhaulier, hfair, hplain, hdue⟩ := rollover_moved (t := t) hs.1 hw hl hdc hm (by rw [ht]) hlatch
    have hrest := rollover_rest (s := s.movedTo nt l) hw hm
    have hclock : t.clock = m.clock := by rw [ht]
    refine ⟨t, hexec, by rw [ht]; exact hwater, by rw [ht, hkept]; exact hhaulier, by rw [ht, hkept]; exact hfair,
      fun h => ?_, fun h => ?_, ?_⟩
    · rw [hclock]
      exact hplain h
    · rw [hclock]
      exact hdue h
    · rw [ht, hrest]
      rfl

end Sys2Proof.Machine
end

section
/-! The end of start-up (R193): the rollover that is due, STARTED, and each block put to work. -/

namespace Sys2Proof.Machine

variable {s t m u : State} {k : Tank} {b : Bay} {pg : PageNo} {d : DayClose}

/-! ### The ports' masks, and a line that follows (R182) -/

/-- No port's mask has been changed between two states. -/
def State.SameMasks (s t : State) : Prop :=
  ∀ p, (t.links.get p).mask = (s.links.get p).mask

theorem State.SameMasks.refl (s : State) : s.SameMasks s := fun _ => rfl

theorem State.SameMasks.trans (h : s.SameMasks t) (h' : t.SameMasks u) : s.SameMasks u := fun p => (h' p).trans (h p)

theorem sameMasks_of_links (h : t.links = s.links) : s.SameMasks t := fun p => by rw [h]

theorem sameMasks_latch (s : State) (e : Event) : s.SameMasks (s.latch e) := fun p => by cases p <;> rfl

theorem State.SameMasks.latch (h : s.SameMasks t) (e : Event) : s.SameMasks (t.latch e) := h.trans (sameMasks_latch t e)

theorem State.SameMasks.judgeLow (h : s.SameMasks t) : s.SameMasks t.judgeLow := by
  unfold State.judgeLow
  split
  · exact h
  · split
    · split
      · exact State.SameMasks.latch (t := t.modJournal _) h _
      · exact h
    · exact h

theorem State.SameMasks.appendDayClose (h : s.SameMasks t) (d : DayClose) : s.SameMasks (t.appendDayClose d) :=
  (State.SameMasks.latch (t := t.modJournal _) h _).judgeLow

theorem State.SameMasks.dayCloseNotice (h : s.SameMasks t) (d : DayClose) : s.SameMasks (t.dayCloseNotice d) := by
  unfold State.dayCloseNotice
  split
  · exact State.SameMasks.latch (t := t.modJournal _) h _
  · split
    · exact h.appendDayClose d
    · exact State.SameMasks.latch (t := t.modJournal _) h _

theorem State.SameMasks.writePendingClose (h : s.SameMasks t) : s.SameMasks t.writePendingClose := by
  unfold State.writePendingClose
  split
  · exact h
  · split
    · exact h.appendDayClose _
    · exact h

/-- An event whose kind a port's mask names asserts a line that follows. -/
theorem attention_of_shown {e : Event} {p : Port} (hf : (s.links.get p).Follows) (hs : s.Shows e)
    (hm : (s.links.get p).mask.getLsbD e.kind.code.val = true) : (s.links.get p).attention = true := by
  obtain ⟨x, hx, _⟩ := hs p
  refine Eq.trans hf ((Link.wantsAttention_iff _).2 ⟨e.kind.code, ?_, hm⟩)
  exact Option.isSome_iff_exists.2 ⟨x, hx⟩

theorem follows_latch (s : State) (e : Event) (p : Port) : ((s.latch e).links.get p).Follows := by
  cases p <;> rfl

/-! ### The rollover of start-up (R169, R193) -/

/-- Outside the running part nothing is judged: a DAY-CLOSE appended is the record and its event alone. -/
theorem appendDayClose_unjudged (h : s.part.phase ≠ .running) : s.appendDayClose d =
    (s.modJournal fun j => j.append fun q => .dayClose q d).latch
      (.dayClosed s.journal.nextSeq d.first d.last d.totals.amount) := by
  refine if_pos ?_
  simpa [State.running] using h

/-- What start-up's rollover, if there is one, has made before STARTED: the Resource Table, the fairness state, the clock,
and the day close that then pends, as given, or was written. -/
structure State.DayOpened (s m : State) (rolled due room : Bool) (dc : DayClose) (close : Option DayClose) : Prop where
  water : m.water = if rolled then { s.water with fresh := s.water.preload, overdraw := 0 } else s.water
  haulier : m.disp.lastHaulier = if rolled then none else s.disp.lastHaulier
  fair : m.disp.run = if rolled then 0 else s.disp.run
  clock : m.clock = if due then
      { s.clock with billingDay := s.clock.time.day, lastClosed := s.clock.time.day - 1, acc := ⟨0, 0, 0, 0, 0⟩ }
    else if rolled then { s.clock with billingDay := s.clock.time.day } else s.clock
  wrote : s.journal.pendingClose = none → due = true → room = true → m.journal.pendingClose = none ∧
    m.journal.reserved = s.journal.reserved ∧ m.journal.balances = s.journal.balances ∧
    m.Shows (.dayClosed s.journal.nextSeq dc.first dc.last dc.totals.amount) ∧
    ∀ pg, s.journal.openPage = some pg → s.Written m pg (.dayClose s.journal.nextSeq dc)
  pends : ¬ (s.journal.pendingClose = none ∧ due = true ∧ room = true) →
    m.journal = { s.journal with pendingClose := close } ∧ (due = true → ∀ d, close = some d →
      m.Shows (.dayCloseDeferred d.first d.last s.journal.available s.journal.reserved))
  low : s.KeepsLatch m .journalLow
  masks : s.SameMasks m
  rest : m = { s with water := m.water, disp := m.disp, journal := m.journal, clock := m.clock, links := m.links }

/-- The close that pends once a day is opened, or is written then. -/
def State.openingClose (s : State) (due : Bool) (dc : DayClose) : Option DayClose :=
  s.journal.pendingClose.elim (if due then some dc else none) fun old =>
    some (if due then { first := old.first, last := dc.last, totals := old.totals.plus dc.totals } else old)

/-- Whether a DAY-CLOSE pends when STARTED is latched. -/
theorem State.DayOpened.pending {rolled due room : Bool} {dc : DayClose}
    (h : s.DayOpened m rolled due room dc (s.openingClose due dc)) :
    m.journal.pendingClose.isSome = (s.journal.pendingClose.isSome || (due && !room)) := by
  by_cases hw : s.journal.pendingClose = none ∧ due = true ∧ room = true
  · obtain ⟨hp, hd, hr⟩ := hw
    obtain ⟨hnone, _⟩ := h.wrote hp hd hr
    rw [hnone, hp, hd, hr]
    rfl
  · obtain ⟨hj, _⟩ := h.pends hw
    rw [hj]
    cases hp : s.journal.pendingClose with
    | some old => simp [State.openingClose, hp]
    | none =>
      cases due with
      | false => simp [State.openingClose, hp]
      | true => cases room with
        | false => simp [State.openingClose, hp]
        | true => exact absurd ⟨hp, rfl, rfl⟩ hw

theorem dayOpened_still (rolled : Bool) (room : Bool) (dc : DayClose) (hm : m = if rolled then
    { s.newDay with clock := { s.clock with billingDay := s.clock.time.day } } else s) :
    s.DayOpened m rolled false room dc (s.openingClose false dc) := by
  have hclose : s.openingClose false dc = s.journal.pendingClose := by
    unfold State.openingClose
    cases s.journal.pendingClose <;> rfl
  rw [hclose]
  cases rolled <;> subst hm <;>
    exact ⟨rfl, rfl, rfl, rfl, nofun, fun _ => ⟨rfl, nofun⟩, .refl _ _, .refl _, rfl⟩

theorem dayOpened_due (hphase : s.part.phase ≠ .running) {room : Bool}
    (hroom : room = decide (s.journal.reserved + 1 ≤ s.journal.available)) {dc : DayClose}
    (hm : m = { s.newDay.dayCloseNotice dc with
      clock := { s.clock with billingDay := s.clock.time.day, lastClosed := s.clock.time.day - 1, acc := zeroTotals } }) :
    s.DayOpened m true true room dc (s.openingClose true dc) := by
  obtain ⟨x, hx⟩ : ∃ x, x = s.newDay := ⟨_, rfl⟩
  obtain ⟨y, hy⟩ : ∃ y, y = x.dayCloseNotice dc := ⟨_, rfl⟩
  rw [← hx, ← hy] at hm
  have hxj : x.journal = s.journal := by rw [hx]; rfl
  have hxk : ∀ i, s.KeepsLatch x i := fun i => by rw [hx]; exact .refl s i
  have hmj : m.journal = y.journal := by rw [hm]
  have hmk : ∀ i, y.KeepsLatch m i := fun i => by rw [hm]; exact .refl y i
  have hmasks : s.SameMasks m := by
    rw [hm, hy, hx]
    exact State.SameMasks.dayCloseNotice (t := s.newDay) (.refl s) dc
  have hwater : m.water = { s.water with fresh := s.water.preload, overdraw := 0 } := by
    rw [hm, hy, hx]
    simp [State.newDay]
  have hdisp : m.disp = { s.disp with lastHaulier := none, run := 0 } := by
    rw [hm, hy, hx]
    simp [State.newDay]
  have hrest : m = { s with
      water := m.water, disp := m.disp, journal := m.journal, clock := m.clock, links := m.links } := by
    rw [hm, hy, hx]
    simp [State.newDay]
  have hclock : m.clock = { s.clock with
      billingDay := s.clock.time.day, lastClosed := s.clock.time.day - 1, acc := zeroTotals } := by rw [hm]
  by_cases hwrites : s.journal.pendingClose = none ∧ room = true
  · obtain ⟨hp, hr⟩ := hwrites
    have hfits : s.journal.reserved < s.journal.available := by simpa [hroom, Nat.succ_le_iff] using hr
    have happend : y = (x.modJournal fun j => j.append fun q => .dayClose q dc).latch
        (.dayClosed s.journal.nextSeq dc.first dc.last dc.totals.amount) := by
      rw [hy, dayCloseNotice_written (by rw [hxj]; exact hp) (by rw [hxj]; exact hfits),
        appendDayClose_unjudged (by rw [hx]; exact hphase), hxj]
    obtain ⟨hreserved, hpending, hbalances, _⟩ := append_rest s.journal fun q => .dayClose q dc
    have hj : m.journal = s.journal.append fun q => .dayClose q dc := by
      rw [hmj, happend, ← hxj]
      rfl
    refine ⟨hwater, by rw [hdisp]; rfl, by rw [hdisp]; rfl, hclock, fun _ _ _ => ⟨by rw [hj, hpending, hp],
      by rw [hj, hreserved], by rw [hj, hbalances], ?_, fun pg ho => ?_⟩, fun h => absurd ⟨hp, rfl, hr⟩ h, ?_, hmasks, hrest⟩
    · refine State.Shows.keep (s := y) ?_ (hmk _)
      rw [happend]
      exact shows_latch _ _
    · refine written_append ho (fun q => .dayClose q dc) ?_
      rw [hj]
      exact .refl _
    · refine (hxk _).trans (State.KeepsLatch.trans (t := y) ?_ (hmk _))
      rw [happend]
      exact State.KeepsLatch.latch (t := x.modJournal fun j => j.append fun q => .dayClose q dc) (.refl x _) _ nofun
  · obtain ⟨c, hc, hdefer⟩ : ∃ c, s.openingClose true dc = some c ∧ y = x.deferClose c := by
      rw [hy]
      cases hp : s.journal.pendingClose with
      | none =>
        refine ⟨dc, by simp [State.openingClose, hp], dayCloseNotice_full (by rw [hxj]; exact hp) ?_⟩
        have hr : room ≠ true := fun hr => hwrites ⟨hp, hr⟩
        rw [hxj]
        simpa [hroom] using hr
      | some old => exact ⟨_, by rw [State.openingClose, hp]; rfl, dayCloseNotice_merged (by rw [hxj]; exact hp)⟩
    have hshow := shows_latch (x.modJournal fun j => { j with pendingClose := some c })
      (.dayCloseDeferred c.first c.last x.journal.available x.journal.reserved)
    have hlow : x.KeepsLatch (x.deferClose c) .journalLow :=
      State.KeepsLatch.latch (t := x.modJournal fun j => { j with pendingClose := some c }) (.refl x _) _ nofun
    rw [hdefer] at hmk hmj
    refine ⟨hwater, by rw [hdisp]; rfl, by rw [hdisp]; rfl, hclock, fun hp _ hr => absurd ⟨hp, hr⟩ hwrites,
      fun _ => ⟨?_, fun _ d hd => ?_⟩, (hxk _).trans (hlow.trans (hmk _)), hmasks, hrest⟩
    · rw [hmj, hc, ← hxj]
      rfl
    · obtain rfl : c = d := Option.some.inj (hc.symm.trans hd)
      rw [← hxj]
      exact State.Shows.keep (s := x.deferClose c) hshow (hmk .dayCloseDeferred)

/-- The rollover of start-up, if the day has advanced. -/
theorem dayOpened {rolled due room : Bool} {dc : DayClose} (hphase : s.part.phase ≠ .running) (hw : s.water.waits = [])
    (hrolled : rolled = decide (s.clock.billingDay < s.clock.time.day))
    (hdue : due = (rolled && decide (s.clock.lastClosed < s.clock.billingDay)))
    (hroom : room = decide (s.journal.reserved + 1 ≤ s.journal.available))
    (hdc : dc = { first := s.clock.lastClosed + 1, last := s.clock.time.day - 1, totals := s.clock.acc }) :
    s.DayOpened (if s.clock.behind then s.rollover else s) rolled due room dc (s.openingClose due dc) := by
  have hbehind : s.clock.behind = rolled := hrolled.symm
  rw [hbehind]
  rcases Nat.lt_or_ge s.clock.lastClosed s.clock.billingDay with hlast | hlast
  · have hd : due = rolled := by rw [hdue, decide_eq_true hlast, Bool.and_true]
    rw [hd]
    cases rolled with
    | false => exact dayOpened_still false room dc rfl
    | true =>
      refine dayOpened_due hphase hroom ((rollover_due hw hlast).trans ?_)
      rw [hdc]
      rfl
  · have hd : due = false := by rw [hdue, decide_eq_false (Nat.not_lt.2 hlast), Bool.and_false]
    rw [hd]
    refine dayOpened_still rolled room dc ?_
    cases rolled with
    | false => rfl
    | true => exact rollover_plain hw hlast

/-! ### The tanks (R112, R113) -/

/-- What a tank that enters its state again when start-up ends has become. -/
structure State.TankStarted (s : State) (k : Tank) (c : Converter) (x : TankUnit) : Prop where
  filling : (s.tanks.get k).state = .filling → s.lines.high.get k = false → x.state = .filling ∧ x.inlet = true
  sampling : (s.tanks.get k).state = .sampling → s.lines.low.get k = false → x.salt = .awaited ∧ x.turb = .awaited
  settling : ∀ d, (s.tanks.get k).state = .settling → (s.tanks.get k).settleLeft = some d →
    x.settleTimer = some (s.laneTime + d)
  conv : (s.tanks.get k).sampled = false →
    c = if (s.tanks.get k).state = .sampling ∧ s.lines.low.get k = false then s.convSampling k else s.conv

/-- A tank that comes to rest in SAMPLING, whether it sampled before or not. -/
theorem setTank_samples {st : TankState} (h : s.restOf k st = .sampling) : s.setTank k st = { s with
    conv := State.convSampling { s with conv := s.convLeft k } k
    tanks := s.tanks.set k { s.tanks.get k with
      state := .sampling, settleTimer := none, settleLeft := none, resampleTimer := none, salt := .awaited
      turb := .awaited, fault := none, inlet := false, dump := false, outlet := false } } := by
  rw [setTank_before, h]
  simp only [State.startState, perTank_get_self]
  rw [beginSampling_eq]
  simp only [perTank_get_self, perTank_set_set]
  rfl

theorem startTank_done (s : State) (k : Tank) : ∃ c x, s.startTank k = { s with conv := c, tanks := s.tanks.set k x } ∧
    s.TankStarted k c x := by
  by_cases hsettling : (s.tanks.get k).state = .settling
  · refine ⟨s.conv, _, if_pos hsettling, ?_⟩
    refine ⟨fun h => ?_, fun h => ?_, fun d _ hd => ?_, fun _ => (if_neg fun h => ?_).symm⟩
    · exact nomatch hsettling.symm.trans h
    · exact nomatch hsettling.symm.trans h
    · exact congrArg (fun x : Option Nat => some (s.laneTime + x.getD 0)) hd
    · exact nomatch hsettling.symm.trans h.1
  have hstart : s.startTank k = s.setTank k (s.tanks.get k).state := if_neg hsettling
  rw [hstart]
  by_cases hrest : s.restOf k (s.tanks.get k).state = .sampling
  · have hstate : (s.tanks.get k).state = .sampling := by
      by_contra h
      exact restOf_not_sampling s k h hrest
    have hlow : s.lines.low.get k = false := by
      by_contra h
      rw [hstate, restOf_low (st := .sampling) (by decide) (by decide) (Bool.not_eq_false _ ▸ h)] at hrest
      revert hrest
      split <;> nofun
    refine ⟨_, _, setTank_samples hrest, fun h => ?_, fun _ _ => ⟨rfl, rfl⟩, fun d h => absurd h hsettling, fun hu => ?_⟩
    · exact nomatch hstate.symm.trans h
    · rw [convLeft_unsampled hu, if_pos ⟨hstate, hlow⟩]
  · refine ⟨_, _, setTank_eq hrest, fun h hh => ?_, fun h hl => ?_, fun d h => absurd h hsettling, fun hu => ?_⟩
    · have hfills : s.restOf k (s.tanks.get k).state = .filling := by
        rw [h, State.restOf, hh]
        rfl
      rw [hfills]
      exact ⟨rfl, rfl⟩
    · exact absurd (by rw [h]; exact restOf_clear (by decide) hl) hrest
    · rw [convLeft_unsampled hu, if_neg fun h => hrest (by rw [h.1]; exact restOf_clear (by decide) h.2)]

theorem startTanks_done (s : State) : ∃ c tanks, (s.startTank .a).startTank .b = { s with conv := c, tanks := tanks } ∧
    (∀ k, (s.tanks.get k).state = .filling → s.lines.high.get k = false →
      (tanks.get k).state = .filling ∧ (tanks.get k).inlet = true) ∧
    (∀ k, (s.tanks.get k).state = .sampling → s.lines.low.get k = false →
      (tanks.get k).salt = .awaited ∧ (tanks.get k).turb = .awaited) ∧
    (∀ k d, (s.tanks.get k).state = .settling → (s.tanks.get k).settleLeft = some d →
      (tanks.get k).settleTimer = some (s.laneTime + d)) ∧
    ∀ f : Tank → State → Converter, (∀ k, (s.tanks.get k).sampled = false) →
      f = (fun k x =>
        if (s.tanks.get k).state = .sampling ∧ s.lines.low.get k = false then x.convSampling k else x.conv) →
      c = f .b { s with conv := f .a s } := by
  obtain ⟨ca, xa, ha, hta⟩ := startTank_done s .a
  obtain ⟨cb, xb, hb, htb⟩ := startTank_done { s with conv := ca, tanks := s.tanks.set .a xa } .b
  refine ⟨cb, _, by rw [ha]; exact hb, fun k => ?_, fun k => ?_, fun k => ?_, fun f hu hf => ?_⟩
  · cases k with
    | a => exact hta.filling
    | b => exact htb.filling
  · cases k with
    | a => exact hta.sampling
    | b => exact htb.sampling
  · cases k with
    | a => exact hta.settling
    | b => exact htb.settling
  · have hca : ca = f .a s := by
      rw [hta.conv (hu .a), hf]
    rw [htb.conv (hu .b), hf]
    subst hca
    rw [hf]
    rfl

/-! ### The bays (R76) -/

/-- What the bays' entry into their states when start-up ends leaves: BAY_OPEN is 0, and every bay is CLOSED or in FAULT
already. -/
theorem startBay_done (s : State) (a : Bay) (hopen : s.water.bayOpen = 0)
    (hb : (s.bays.get a).state = .closed ∨ (s.bays.get a).state = .fault ∧ s.lines.estop.get a = true) :
    ∃ x m links, s.startBay a = { s with bays := x, disp := { s.disp with mark := m }, links := links } ∧
      (∀ b, (x.get b).state = if b = a ∧ s.lines.estop.get b = true then .fault else (s.bays.get b).state) ∧
      (∀ i, i ≠ .bayFault → s.KeepsLatch { s with links := links } i) ∧ s.SameMasks { s with links := links } := by
  by_cases hfaults : (s.bays.get a).state = .closed ∧ s.lines.estop.get a = true
  · obtain ⟨hstate, hestop⟩ := hfaults
    obtain ⟨m, hm⟩ := enterFault_eq s a .closed
    have hstart : s.startBay a = s.enterFault a .closed := by
      rw [State.startBay, if_pos hestop, State.eStopAsserted, hstate]
    have hbits : s.water.bayOpen &&& ~~~(1#6 <<< (bayNumber a - 1)) = s.water.bayOpen := by
      rw [hopen]
      exact BitVec.zero_and
    rw [hbits] at hm
    refine ⟨_, m, (s.latch (.bayFault a .closed (s.recordVisit a))).links, hstart.trans (hm.trans rfl), fun b => ?_,
      fun i hi => keepsLatch_latch s hi, sameMasks_latch s _⟩
    by_cases hba : b = a
    · subst hba
      rw [perBay_get_self, if_pos ⟨rfl, hestop⟩]
      rfl
    · rw [perBay_get_other _ _ hba, if_neg fun h => hba h.1]
  · have hstill : s.startBay a = s := by
      rcases hb with h | ⟨h, hestop⟩
      · exact if_neg fun he => hfaults ⟨h, he⟩
      · rw [State.startBay, if_pos hestop, State.eStopAsserted, h]
    refine ⟨s.bays, s.disp.mark, s.links, hstill, fun b => ?_, fun i _ => .refl s i, .refl s⟩
    split
    next h =>
      obtain ⟨rfl, hestop⟩ := h
      exact (hb.resolve_left fun hc => hfaults ⟨hc, hestop⟩).1
    next => rfl

theorem startBays_done (l : List Bay) (s : State) (hopen : s.water.bayOpen = 0)
    (hb : ∀ b, (s.bays.get b).state = .closed ∨ (s.bays.get b).state = .fault ∧ s.lines.estop.get b = true) :
    ∃ x m links, l.foldl (fun s b => s.startBay b) s = { s with bays := x, disp := { s.disp with mark := m }, links := links } ∧
      (∀ b, (x.get b).state = if b ∈ l ∧ s.lines.estop.get b = true then .fault else (s.bays.get b).state) ∧
      (∀ i, i ≠ .bayFault → s.KeepsLatch { s with links := links } i) ∧ s.SameMasks { s with links := links } := by
  induction l generalizing s with
  | nil => exact ⟨s.bays, s.disp.mark, s.links, rfl, fun b => by simp, fun i _ => .refl s i, .refl s⟩
  | cons a l ih =>
    obtain ⟨x, m, links, hstart, hstates, hkeeps, hmasks⟩ := startBay_done s a hopen (hb a)
    obtain ⟨x', m', links', hfold, hstates', hkeeps', hmasks'⟩ :=
      ih { s with bays := x, disp := { s.disp with mark := m }, links := links } hopen fun b => by
        rw [hstates]
        split
        next h => exact .inr ⟨rfl, h.2⟩
        next => exact hb b
    refine ⟨x', m', links', by rw [List.foldl_cons, hstart, hfold], fun b => ?_, fun i hi => (hkeeps i hi).trans (hkeeps' i hi),
      hmasks.trans hmasks'⟩
    rw [hstates', hstates]
    by_cases hl : b ∈ l ∧ s.lines.estop.get b = true
    · rw [if_pos hl, if_pos ⟨List.mem_cons_of_mem _ hl.1, hl.2⟩]
    · rw [if_neg hl]
      by_cases ha : b = a ∧ s.lines.estop.get b = true
      · rw [if_pos ha, if_pos ⟨List.mem_cons.2 (.inl ha.1), ha.2⟩]
      · rw [if_neg ha, if_neg fun h => (List.mem_cons.1 h.1).elim (fun hb => ha ⟨hb, h.2⟩) fun hb => hl ⟨hb, h.2⟩]

/-! ### The blocks begin their work (R193) -/

/-- The state in which the pending close is looked at: the arm armed, and the tanks in their states. -/
def State.atWork (s : State) (c : Converter) (tanks : PerTank TankUnit) : State :=
  { s with journal := { s.journal with lowArmed := true }, conv := c, tanks := tanks }

theorem sendSign_eq (s : State) : ∃ d, s.sendSign = { s with disp := d } ∧
    d = { s.disp with sending := d.sending, again := d.again } := by
  unfold State.sendSign
  split <;> exact ⟨_, rfl, rfl⟩

/-- What the blocks make of the state in which the pending close has been looked at. -/
structure State.WorkBegun (s y t : State) (tanks : PerTank TankUnit) (c : Converter) : Prop where
  closes : y = (s.atWork c tanks).writePendingClose
  bays : ∀ b, (t.bays.get b).state = if s.lines.estop.get b then .fault else .closed
  mark : t.disp.mark = true
  haulier : t.disp.lastHaulier = s.disp.lastHaulier
  fair : t.disp.run = s.disp.run
  keeps : ∀ i, i ≠ .bayFault → y.KeepsLatch t i
  masks : y.SameMasks t
  journal : t.journal = y.journal
  rest : t = { s with
    bays := t.bays, journal := t.journal, conv := c, tanks := tanks, disp := t.disp, links := t.links }

theorem beginWork_done {tanks : PerTank TankUnit} {c : Converter} (hopen : s.water.bayOpen = 0)
    (hb : ∀ b, (s.bays.get b).state = .closed)
    (ht : ((s.modJournal fun j => { j with lowArmed := true }).startTank .a).startTank .b = s.atWork c tanks) :
    ∃ y, s.WorkBegun y s.beginWork tanks c := by
  obtain ⟨y, hy⟩ : ∃ y, y = (s.atWork c tanks).writePendingClose := ⟨_, rfl⟩
  obtain ⟨m, hdisp⟩ := writePendingClose_disp (s.atWork c tanks)
  rw [← hy] at hdisp
  have hrest : y = { s with journal := y.journal, conv := c, tanks := tanks, disp := y.disp, links := y.links } := by
    rw [hy]
    simp [State.ext_iff, State.atWork]
  have hbays : y.bays = s.bays := by rw [hrest]
  have hlines : y.lines = s.lines := by rw [hrest]
  obtain ⟨x, m', links, hfold, hstates, hkeeps, hmasks⟩ := startBays_done allBays y (by rw [hrest]; exact hopen) fun b => by
    rw [hbays]
    exact .inl (hb b)
  obtain ⟨d, hsend, hd⟩ := sendSign_eq (State.requestPass { y with
    bays := x, disp := { y.disp with mark := m' }, links := links }).recomputeStatus
  have hwork : s.beginWork = { y with bays := x, disp := d, links := links } := by
    unfold State.beginWork
    dsimp only
    rw [ht, ← hy, hfold, hsend]
    rfl
  refine ⟨y, hy, fun b => ?_, ?_, ?_, ?_, fun i hi => ?_, ?_, by rw [hwork], ?_⟩
  · rw [hwork]
    refine (hstates b).trans ?_
    rw [hbays, hb, hlines]
    simp [mem_allBays]
  · rw [hwork, hd]
    rfl
  · rw [hwork, hd]
    exact (congrArg Dispatcher.lastHaulier hdisp :)
  · rw [hwork, hd]
    exact (congrArg Dispatcher.run hdisp :)
  · rw [hwork]
    exact hkeeps i hi
  · rw [hwork]
    exact hmasks
  · rw [hwork, hrest]

/-- A pending close for which there is room, in the running part with the arm armed. -/
theorem pendingClose_written (hrun : s.part.phase = .running) (harm : s.journal.lowArmed = true)
    (hp : s.journal.pendingClose = some d) (hroom : s.journal.reserved < s.journal.available)
    (ho : s.journal.openPage = some pg) (ht : t = s.writePendingClose) :
    s.Written t pg (.dayClose s.journal.nextSeq d) ∧ t.journal.pendingClose = none ∧
      t.journal.reserved = s.journal.reserved ∧ t.journal.balances = s.journal.balances ∧
      t.journal.lowArmed = decide (t.journal.reserved + 64 ≤ t.journal.available) ∧
      (t.journal.available < t.journal.reserved + 64 →
        t.Shows (.journalLow t.journal.available t.journal.reserved (t.journal.countState .closed) t.journal.heldPages)) ∧
      t.Shows (.dayClosed s.journal.nextSeq d.first d.last d.totals.amount) := by
  obtain ⟨x, hx⟩ : ∃ x, x = s.appendDayClose d := ⟨_, rfl⟩
  obtain ⟨hwritten, hres, _, hbal, hshow, hlow⟩ := appendDayClose_written ho hx
  obtain ⟨hdecide, hshows, _⟩ := hlow hrun
  have htx : t = (x.modJournal fun j => { j with pendingClose := none }).requestPass := by
    rw [ht, writePendingClose_done hp hroom, hx]
  have hj : t.journal = { x.journal with pendingClose := none } := by rw [htx]; rfl
  have hlinks : t.links = x.links := by rw [htx]; rfl
  have havail : t.journal.available = x.journal.available := available_congr (by rw [hj]) (by rw [hj])
  have hreserved : t.journal.reserved = x.journal.reserved := by rw [hj]
  refine ⟨hwritten.congr (.refl _) ?_, by rw [hj], hreserved.trans hres, by rw [hj]; exact hbal, ?_, fun h => ?_,
    hshow.keep (keepsLatch_of_links hlinks _)⟩
  · rw [hj]
    exact ⟨rfl, rfl, rfl, rfl, rfl, rfl⟩
  · rw [havail, hreserved, hj]
    exact hdecide
  · rw [havail, hreserved] at h
    rw [havail, hreserved, countState_congr (j := x.journal) (by rw [hj]), heldPages_congr (j := x.journal) (by rw [hj])]
    exact (hshows h harm).keep (keepsLatch_of_links hlinks _)

/-- Where no pending close is written when the blocks begin their work, the day's journal stays, its arm armed. -/
theorem State.WorkBegun.still {x y : State} {tanks : PerTank TankUnit} {c : Converter} (h : x.WorkBegun y t tanks c)
    (hj : x.journal = m.journal) (hk : m.KeepsLatch x .journalLow) (hlow : s.KeepsLatch m .journalLow)
    (hstay : m.journal.pendingClose = none ∨ m.journal.available ≤ m.journal.reserved) :
    t.journal = { m.journal with lowArmed := true } ∧ s.KeepsLatch t .journalLow := by
  have hv : (x.atWork c tanks).journal = { m.journal with lowArmed := true } := by
    rw [← hj]
    rfl
  have hy : y = x.atWork c tanks := by
    rw [h.closes]
    rcases hstay with hp | hfull
    · exact writePendingClose_none (by rw [hv]; exact hp)
    · exact writePendingClose_full (by rw [hv]; exact hfull)
  refine ⟨by rw [h.journal, hy, hv], (hlow.trans hk).trans (State.KeepsLatch.trans (t := y) ?_ (h.keeps .journalLow nofun))⟩
  rw [hy]
  exact .refl x _

/-- What becomes of the day's journal by the time the blocks have begun their work. -/
theorem State.DayOpened.begun {x y : State} {tanks : PerTank TankUnit} {c : Converter} {rolled due room : Bool}
    {dc : DayClose} {close : Option DayClose} (hclose : close = s.openingClose due dc)
    (h : s.DayOpened m rolled due room dc close)
    (hroom : room = decide (s.journal.reserved + 1 ≤ s.journal.available)) (hwork : x.WorkBegun y t tanks c)
    (hrun : x.part.phase = .running) (hj : x.journal = m.journal) (hk : ∀ i, i ≠ .started → m.KeepsLatch x i) :
    (close = none → t.journal = { s.journal with lowArmed := true } ∧ s.KeepsLatch t .journalLow) ∧
    (∀ d pg, close = some d → room = true → s.journal.openPage = some pg →
      t.journal.pages[pg].records = s.journal.pages[pg].records ++ [.dayClose s.journal.nextSeq d] ∧
      t.journal.nextSeq = s.journal.nextSeq + 1 ∧ t.journal.pendingClose = none ∧
      t.journal.reserved = s.journal.reserved ∧ t.journal.balances = s.journal.balances ∧
      (s.journal.pendingClose = none → t.journal.lowArmed = true ∧ s.KeepsLatch t .journalLow) ∧
      (s.journal.pendingClose.isSome = true →
        t.journal.lowArmed = decide (t.journal.reserved + 64 ≤ t.journal.available) ∧
        (t.journal.available < t.journal.reserved + 64 →
          t.Shows (.journalLow t.journal.available t.journal.reserved (t.journal.countState .closed)
            t.journal.heldPages))) ∧
      t.Shows (.dayClosed s.journal.nextSeq d.first d.last d.totals.amount)) ∧
    (∀ d, close = some d → room = false →
      t.journal = { s.journal with pendingClose := some d, lowArmed := true } ∧ s.KeepsLatch t .journalLow) ∧
    (∀ d, close = some d → due = true → (room = false ∨ s.journal.pendingClose.isSome = true) →
      t.Shows (.dayCloseDeferred d.first d.last s.journal.available s.journal.reserved)) := by
  have hlater : ∀ i, i ≠ .started → i ≠ .bayFault → i ≠ .journalLow → i ≠ .dayClosed → m.KeepsLatch t i :=
    fun i hs hb hl hd => by
      have hclosed : x.KeepsLatch y i := by
        rw [hwork.closes]
        exact State.KeepsLatch.writePendingClose (t := x.atWork c tanks) (.refl x i) hl hd
      exact ((hk i hs).trans hclosed).trans (hwork.keeps i hb)
  refine ⟨fun hnone => ?_, fun d pg hd hr ho => ?_, fun d hd hr => ?_, fun d hd hdue hor => ?_⟩
  · have hno : s.journal.pendingClose = none ∧ due = false := by
      revert hnone
      rw [hclose, State.openingClose]
      cases s.journal.pendingClose <;> cases due <;> simp
    obtain ⟨hmj, _⟩ := h.pends fun hw => Bool.false_ne_true (hno.2.symm.trans hw.2.1)
    obtain ⟨htj, hquiet⟩ := hwork.still hj (hk _ nofun) h.low (.inl (by rw [hmj]; exact hnone))
    refine ⟨?_, hquiet⟩
    rw [htj, hmj, hnone, ← hno.1]
  · have hfits : s.journal.reserved < s.journal.available := by simpa [hroom, Nat.succ_le_iff] using hr
    by_cases hw : s.journal.pendingClose = none ∧ due = true ∧ room = true
    · obtain ⟨hp, hdue, _⟩ := hw
      have hdc : d = dc := by
        rw [hclose, State.openingClose, hp, hdue] at hd
        exact (Option.some.inj hd).symm
      subst hdc
      obtain ⟨hpend, hres, hbal, hshow, hwritten⟩ := h.wrote hp hdue hr
      obtain ⟨hseq, hpage, _⟩ := hwritten pg ho
      obtain ⟨htj, hquiet⟩ := hwork.still hj (hk _ nofun) h.low (.inl hpend)
      have hsome : ¬ s.journal.pendingClose.isSome = true := by rw [hp]; nofun
      refine ⟨?_, by rw [htj, hseq], by rw [htj, hpend], by rw [htj, hres], by rw [htj, hbal],
        fun _ => ⟨by rw [htj], hquiet⟩, fun h => absurd h hsome, ?_⟩
      · rw [show t.journal.pages[pg] = m.journal.pages[pg] by rw [htj], hpage]
      · have hy : y = x.atWork c tanks := by
          rw [hwork.closes]
          exact writePendingClose_none (by rw [State.atWork, hj]; exact hpend)
        refine hshow.keep (((hk .dayClosed nofun).trans (State.KeepsLatch.trans (t := y) ?_ (hwork.keeps .dayClosed nofun))))
        rw [hy]
        exact .refl x _
    · obtain ⟨hmj, _⟩ := h.pends hw
      have hv : (x.atWork c tanks).journal = { s.journal with pendingClose := some d, lowArmed := true } := by
        rw [State.atWork, hj, hmj, hd]
      obtain ⟨hwritten, hpend, hres, hbal, harm, hlow, hshow⟩ := pendingClose_written (s := x.atWork c tanks) (t := y)
        (d := d) (pg := pg) hrun rfl (by rw [hv]) (by rw [hv]; exact hfits) (by rw [hv]; exact ho) hwork.closes
      rw [hv] at hres hbal hshow
      obtain ⟨hseq, hpage, _⟩ := hwritten.congr (s' := s) (t' := y) (by rw [hv]; exact ⟨rfl, rfl, rfl, rfl, rfl, rfl⟩) (.refl _)
      have hno : s.journal.pendingClose ≠ none := fun hp => by
        rw [hclose, State.openingClose, hp] at hd
        cases due with
        | false => exact nomatch hd
        | true => exact hw ⟨hp, rfl, hr⟩
      rw [hwork.journal]
      exact ⟨by rw [hpage, hv], hseq, hpend, hres, hbal, fun hp => absurd hp hno,
        fun _ => ⟨harm, fun h => (hlow h).keep (hwork.keeps .journalLow nofun)⟩,
        hshow.keep (hwork.keeps .dayClosed nofun)⟩
  · obtain ⟨hmj, _⟩ := h.pends fun hw => Bool.false_ne_true (hr.symm.trans hw.2.2)
    have hfull : s.journal.available ≤ s.journal.reserved := by simpa [hroom] using hr
    obtain ⟨htj, hquiet⟩ := hwork.still hj (hk _ nofun) h.low (.inr (by rw [hmj]; exact hfull))
    refine ⟨?_, hquiet⟩
    rw [htj, hmj, hd]
  · obtain ⟨_, hshow⟩ := h.pends fun hw => by
      obtain ⟨hp, _, hr⟩ := hw
      rcases hor with hf | hs
      · exact Bool.false_ne_true (hf.symm.trans hr)
      · rw [hp] at hs
        exact nomatch hs
    exact (hshow hdue d hd).keep (hlater .dayCloseDeferred nofun nofun nofun nofun)

/-- Settles O59: the day opened, STARTED latched, and the blocks' own work with the close that pends then. -/
theorem startUpEnds : Obligations.StartUpEnds := by
  refine ⟨fun s hs => congrArg Host.Outcome.next (if_neg hs),
    fun s rolled due room dc close hphase hw hopen hb hservice hrolled hdue hroom hdc hclose => ?_⟩
  have hclose' : close = s.openingClose due dc := by
    rw [hclose, State.openingClose]
    cases s.journal.pendingClose with
    | none => rfl
    | some old => cases due <;> rfl
  have hnot : s.part.phase ≠ .running := by rw [hphase]; decide
  have hday := dayOpened hnot hw hrolled hdue hroom hdc
  obtain ⟨m, hm⟩ : ∃ m, m = if s.clock.behind then s.rollover else s := ⟨_, rfl⟩
  rw [← hm] at hday
  have hpending := hday.pending
  rw [← hclose'] at hday
  obtain ⟨e, he⟩ : ∃ e, e = Event.started s.part.startKind s.part.cause s.part.recovered s.part.walkFinished rolled
    (s.journal.pendingClose.isSome || (due && !room)) := ⟨_, rfl⟩
  have hkind : e.kind = .started := by rw [he]; rfl
  obtain ⟨x, hx⟩ : ∃ x, x = { m.latch e with part := { s.part with phase := .running } } := ⟨_, rfl⟩
  have hend : exec .startUpEnd s = .next x.beginWork := by
    refine congrArg Host.Outcome.next ((if_pos hphase).trans ?_)
    have hpart : m.part = s.part := by rw [hday.rest]
    have hbehind : s.clock.behind = rolled := hrolled.symm
    unfold State.endStartUp
    dsimp only
    rw [← hm, hbehind, State.latchStarted, hpending, hpart, ← he, hx]
    exact congrArg State.beginWork (congrArg (fun p => { m.latch e with part := { p with phase := .running } }) hpart)
  have hxs : x = { s with
      part := x.part, water := x.water, disp := x.disp, journal := x.journal, clock := x.clock, links := x.links } := by
    rw [hx]
    exact congrArg (fun z : State => { z with
      part := { s.part with phase := .running }, links := (m.latch e).links }) hday.rest
  have hxj : x.journal = m.journal := by rw [hx]; rfl
  have hxk : ∀ i, i ≠ .started → m.KeepsLatch x i := fun i hi => by
    rw [hx]
    exact keepsLatch_latch m (by rw [hkind]; exact hi)
  have hstarted : x.Shows e := by
    rw [hx]
    exact shows_latch m e
  have hfollows : ∀ p, (x.links.get p).Follows := fun p => by
    rw [hx]
    exact follows_latch m e p
  have hmasks : s.SameMasks x := by
    rw [hx]
    exact hday.masks.latch e
  obtain ⟨c, tanks, htanks, hfilling, hsampling, hsettling, hconv⟩ :=
    startTanks_done (x.modJournal fun j => { j with lowArmed := true })
  have hrun : x.part.phase = .running := by rw [hx]
  have hwater : x.water = if rolled then { s.water with fresh := s.water.preload, overdraw := 0 } else s.water := by
    rw [hx]
    exact hday.water
  have hbits : x.water.bayOpen = 0 := by
    rw [hwater]
    split <;> exact hopen
  obtain ⟨y, hwork⟩ := beginWork_done hbits (by rw [hxs]; exact hb) htanks
  obtain ⟨t, ht⟩ : ∃ t, t = x.beginWork := ⟨_, rfl⟩
  rw [← ht] at hend hwork
  have hxlines : x.lines = s.lines := by rw [hxs]
  have hxtanks : x.tanks = s.tanks := by rw [hxs]
  have hkept : ∀ i, i ≠ .bayFault → i ≠ .journalLow → i ≠ .dayClosed → x.KeepsLatch t i := fun i hi hl hd => by
    have hclosed : x.KeepsLatch y i := by
      rw [hwork.closes]
      exact State.KeepsLatch.writePendingClose (t := x.atWork c tanks) (.refl x i) hl hd
    exact hclosed.trans (hwork.keeps i hi)
  have hshown : t.Shows e := hstarted.keep (by rw [hkind]; exact hkept _ nofun nofun nofun)
  have hmask : s.SameMasks t := by
    have hclosed : x.SameMasks y := by
      rw [hwork.closes]
      exact State.SameMasks.writePendingClose (t := x.atWork c tanks) (.refl x)
    exact (hmasks.trans hclosed).trans hwork.masks
  obtain ⟨hnone, hwrite, hpend, hdefer⟩ := hday.begun hclose' hroom hwork hrun hxj hxk
  have htanks' : t.tanks = tanks := by rw [hwork.rest]
  refine ⟨t, hend, ?_, hwork.mark, ?_, ?_, hwork.haulier.trans ?_, hwork.fair.trans ?_, ?_, ?_, hnone, hwrite, hpend, hdefer,
    fun p hp => ?_, fun b => ?_, fun i h hh => ?_, fun i h hl => ?_, fun f hu hf => ?_, fun i d h hd => ?_, ?_⟩
  · rw [hwork.rest, hx]
  · rw [ht]
    exact beginWork_status x
  · rw [hwork.rest]
    exact hwater
  · rw [hx]
    exact hday.haulier
  · rw [hx]
    exact hday.fair
  · rw [hwork.rest, hx]
    exact hday.clock
  · rw [← he, ← hkind]
    exact hshown
  · refine attention_of_shown (e := e) ?_ hshown ?_
    · rw [ht]
      exact (State.Keeps.refl x).beginWork.links hfollows p
    · rw [hmask, hkind]
      exact hp
  · rw [hwork.bays, hxlines]
  · rw [htanks']
    exact hfilling i (by rw [← hxtanks] at h; exact h) (by rw [← hxlines] at hh; exact hh)
  · rw [htanks']
    exact hsampling i (by rw [← hxtanks] at h; exact h) (by rw [← hxlines] at hl; exact hl)
  · have hsame : f = fun k z => if ((x.modJournal fun j => { j with lowArmed := true }).tanks.get k).state = .sampling ∧
        (x.modJournal fun j => { j with lowArmed := true }).lines.low.get k = false
        then z.convSampling k else z.conv := by
      rw [hf, modJournal_tanks, modJournal_lines, hxtanks, hxlines]
    rw [show t.conv = c by rw [hwork.rest], hconv f (fun k => by rw [modJournal_tanks, hxtanks]; exact hu k) hsame, hf, hxs]
    rfl
  · rw [htanks']
    refine (hsettling i d (by rw [← hxtanks] at h; exact h) (by rw [← hxtanks] at hd; exact hd)).trans ?_
    rw [hxs]
    rfl
  · rw [hwork.rest, hxs]

end Sys2Proof.Machine
end

section
/-! The store check of a warm start (R190 to R192): the recovery of washes that a reset cut off. -/

namespace Sys2Proof.Machine

variable {s t u : State} {b c : Bay} {r q : WorkRecord} {e : PhaseEntry} {f n claim : Nat} {pg : PageNo} {k : EventKind}

/-! ### A settlement with no bay waiting (R108, R109) -/

/-- A claim settled, the bay's work record standing as given. -/
def State.claimSettled (s : State) (b : Bay) (q : WorkRecord) (claim f : Nat) : State :=
  let t : State := { s with
    water := { s.water with fresh := s.freshSettled claim f, overdraw := s.overdrawSettled claim f }
    bays := s.bays.set b { s.bays.get b with record := some { q with claim := 0 } }
    clock := { s.clock with acc := s.accSettled claim f } }
  if s.shortfall claim f = 0 then t
  else t.latch (.overdraw b q.visitNumber q.phase (s.shortfall claim f) (min 262143 (s.water.overdraw + s.shortfall claim f)))

theorem claimSettled_links (s : State) (b : Bay) (q : WorkRecord) (claim f : Nat) : ∃ l, s.claimSettled b q claim f = { s with
    water := { s.water with fresh := s.freshSettled claim f, overdraw := s.overdrawSettled claim f }
    bays := s.bays.set b { s.bays.get b with record := some { q with claim := 0 } }
    clock := { s.clock with acc := s.accSettled claim f }, links := l } := by
  unfold State.claimSettled
  dsimp only
  split
  · exact ⟨s.links, rfl⟩
  · exact ⟨_, rfl⟩

theorem settleClaim_alone (hq : (s.bays.get b).record = some q) (hw : s.water.waits = []) :
    s.settleClaim b claim f = s.claimSettled b q claim f := by
  have hzero : s.modRecord b (fun r => { r with claim := 0 }) =
      { s with bays := s.bays.set b { s.bays.get b with record := some { q with claim := 0 } } } := modRecord_eq hq _
  rw [State.settleClaim, hzero]
  by_cases hlt : f < claim
  · have hno : s.shortfall claim f = 0 := by
      unfold State.shortfall
      omega
    have hfirst : ∀ x : State, x.water.waits = [] → x.firstFit = x := fun x hx => by
      rw [State.firstFit, hx]
      rfl
    refine (if_pos hlt).trans ((hfirst _ (by exact hw)).trans ?_)
    rw [State.claimSettled, if_pos hno]
    simp only [State.freshSettled, hlt, if_true, State.overdrawSettled, State.accSettled, hno,
      show ¬ claim + s.water.fresh < f by omega, if_false]
    rfl
  · refine (if_neg hlt).trans ?_
    by_cases hfit : f - claim ≤ s.water.fresh
    · have hno : s.shortfall claim f = 0 := by
        unfold State.shortfall
        omega
      refine (if_pos (by exact hfit)).trans ?_
      rw [State.claimSettled, if_pos hno]
      simp only [State.freshSettled, hlt, if_false, State.overdrawSettled, State.accSettled, hno, if_true,
        show ¬ claim + s.water.fresh < f by omega]
      rfl
    · have hshort : s.shortfall claim f = f - claim - s.water.fresh := by
        unfold State.shortfall
        omega
      have hover : s.shortfall claim f ≠ 0 := by omega
      refine (if_neg (by exact hfit)).trans ?_
      have hzerofresh : s.water.fresh - (f - claim) = 0 := by omega
      have hacc : s.accSettled claim f = s.clock.acc.raised 0 0 0 0 (f - claim - s.water.fresh) := by
        rw [State.accSettled, if_neg hover, hshort]
      have hrec : ∀ u : BayUnit, State.record { s with bays := s.bays.set b u } b = u.record := fun u =>
        congrArg BayUnit.record (perBay_get_self ..)
      rw [State.claimSettled, if_neg hover, hacc, hshort, State.freshSettled, State.overdrawSettled, if_neg hlt,
        if_pos (by omega), hzerofresh, State.overdrawBy, hrec]
      rfl

theorem claimSettled_overdraw (s : State) (b : Bay) (q : WorkRecord) (claim f : Nat) :
    (s.shortfall claim f ≠ 0 → (s.claimSettled b q claim f).Shows (.overdraw b q.visitNumber q.phase (s.shortfall claim f)
      (min 262143 (s.water.overdraw + s.shortfall claim f)))) ∧
    (s.shortfall claim f = 0 → s.KeepsLatch (s.claimSettled b q claim f) .overdraw) := by
  unfold State.claimSettled
  dsimp only
  refine ⟨fun hs => ?_, fun hs => ?_⟩
  · rw [if_neg hs]
    exact shows_latch _ _
  · rw [if_pos hs]
    exact .refl s _

theorem claimSettled_keepsLatch (s : State) (b : Bay) (q : WorkRecord) (claim f : Nat) (hk : k ≠ .overdraw) :
    s.KeepsLatch (s.claimSettled b q claim f) k := by
  unfold State.claimSettled
  dsimp only
  split
  · exact .refl s k
  · exact keepsLatch_latch _ hk

/-! ### The phase that was cut off (R190 steps 1 and 2) -/

theorem modify_congr_at {α : Type} {l : List α} {i : Nat} {x : α} {g g' : α → α} (hx : l[i]? = some x) (hg : g x = g' x) :
    l.modify i g = l.modify i g' := by
  refine List.ext_getElem? fun m => ?_
  rw [List.getElem?_modify, List.getElem?_modify]
  by_cases hm : i = m
  · subst hm
    simp [hx, hg]
  · simp [hm]

/-- The litres of fresh water of a phase that was cut off. -/
def WorkRecord.cutLitres (r : WorkRecord) (e : PhaseEntry) : Nat :=
  if r.sub = .run ∨ r.sub = .runOn then (e.lb * (256 - e.rPhase) + 255) / 256 + e.lf else 0

theorem cutOff_eq (he : r.entries[r.phase - 1]? = some e) : r.cutOff = { r with
    entries := r.entries.modify (r.phase - 1) fun x => { x with
      fk := r.cutLitres e, status := if r.sub = .run ∨ r.sub = .runOn then .aborted else .notReached } } := by
  unfold WorkRecord.cutOff WorkRecord.modEntry
  refine congrArg (fun l => { r with entries := l }) (modify_congr_at he ?_)
  have hfresh : freshLitres e.rPhase e.lb e.lf = (e.lb * (256 - e.rPhase) + 255) / 256 + e.lf := by
    rw [← estimate_eq]
    rfl
  unfold WorkRecord.cutLitres
  split
  · rw [hfresh]
  · rfl

theorem freshNow_cutOff (he : r.entries[r.phase - 1]? = some e) : r.cutOff.freshNow = r.cutLitres e := by
  have hentry : r.cutOff.entry = some { e with
      fk := r.cutLitres e, status := if r.sub = .run ∨ r.sub = .runOn then .aborted else .notReached } := by
    rw [cutOff_eq he]
    exact (List.getElem?_modify_eq ..).trans (congrArg (Option.map _) he)
  rw [WorkRecord.freshNow, hentry]
  rfl

/-! ### A wash recovered (R190) -/

theorem judgeLow_unjudged (h : s.part.phase ≠ .running) : s.judgeLow = s := if_pos (by simpa [State.running] using h)

theorem appendCharge_unjudged (h : s.part.phase ≠ .running) (c : Charge) : s.appendCharge c = { s with
    journal := { s.journal.append (fun q => .charge q c) with
      reserved := s.journal.reserved - 1
      balances := putAt s.journal.balances c.haulier (s.journal.balances[c.haulier] + c.amount) }
    clock := { s.clock with acc := s.clock.acc.charged c } } :=
  judgeLow_unjudged (s := State.noteCharge (s.modJournal fun j =>
    { j.append (fun q => .charge q c) with
      reserved := j.reserved - 1
      balances := putAt j.balances c.haulier (j.balances[c.haulier] + c.amount) }) c) h

/-- What the recovery of a bay's wash has made: the settlement, the CHARGE record given, and WASH-ABORTED. -/
structure State.Recovered (s t : State) (b : Bay) (r : WorkRecord) (f : Nat) (c : Charge) : Prop where
  part : t.part = { s.part with recovered := s.part.recovered + 1 }
  written : ∀ pg, s.journal.openPage = some pg → s.Written t pg (.charge s.journal.nextSeq c)
  reserved : t.journal.reserved = s.journal.reserved - 1
  water : t.water = { s.water with fresh := s.freshSettled r.claim f, overdraw := s.overdrawSettled r.claim f }
  clock : t.clock = { s.clock with acc := (s.accSettled r.claim f).charged c }
  overdraw : s.OverdrawLatched t b r f
  aborted : t.Shows (.washAborted c.visit b c.haulier s.journal.nextSeq c.amount r.abort r.phase)
  bays : ∀ x, x ≠ b → t.bays.get x = s.bays.get x
  rest : t = { s with
    part := t.part, bays := t.bays, water := t.water, journal := t.journal, clock := t.clock, links := t.links }

theorem recoverBay_done {c : Charge} (hphase : s.part.phase ≠ .running) (hw : s.water.waits = [])
    (hwash : (s.bays.get b).state = .washing) (hr : (s.bays.get b).record = some r)
    (he : r.entries[r.phase - 1]? = some e) (hf : f = r.cutLitres e)
    (hc : c = ({ r.cutOff with endTime := some s.clock.time } : WorkRecord).price b true) (ht : t = s.recoverBay b) :
    s.Recovered t b r f c := by
  obtain ⟨y, hy⟩ : ∃ y, y = s.claimSettled b r.cutOff r.claim f := ⟨_, rfl⟩
  obtain ⟨l, hl⟩ := claimSettled_links s b r.cutOff r.claim f
  rw [← hy] at hl
  have hsettle : (s.modRecord b fun _ => r.cutOff).settleClaim b r.claim r.cutOff.freshNow = y := by
    rw [freshNow_cutOff he, ← hf, modRecord_eq hr, hy]
    refine (settleClaim_alone (s := { s with bays := s.bays.set b { s.bays.get b with record := some r.cutOff } })
      (congrArg BayUnit.record (perBay_get_self ..)) hw).trans ?_
    unfold State.claimSettled
    simp only [perBay_get_self, perBay_set_set]
    rfl
  have hyj : y.journal = s.journal := by rw [hl]
  obtain ⟨z, hz⟩ : ∃ z, z = y.appendCharge c := ⟨_, rfl⟩
  have happend := hz.trans (appendCharge_unjudged (by rw [hl]; exact hphase) c)
  rw [hyj] at happend
  have hrec : s.record b = some r := hr
  have hdone : t = { z.latch (.washAborted c.visit b c.haulier s.journal.nextSeq c.amount r.abort r.phase) with
      bays := z.bays.set b { z.bays.get b with record := none, state := .closed }
      part := { s.part with recovered := s.part.recovered + 1 } } := by
    have hwashed : s.recoverBay b = { s.recoverWash b r with
        part := { (s.recoverWash b r).part with recovered := (s.recoverWash b r).part.recovered + 1 } } := by
      rw [State.recoverBay, hwash, hrec]
    have hzp : z.part = s.part := by rw [happend, hl]
    have hrecover : s.recoverWash b r = (z.latch
        (.washAborted c.visit b c.haulier s.journal.nextSeq c.amount r.abort r.phase)).modBay b
          fun u => { u with record := none, state := .closed } := by
      rw [State.recoverWash, hsettle, ← hc, ← hz, hyj]
    rw [ht, hwashed, hrecover]
    exact congrArg (fun p : Part => { z.latch (.washAborted c.visit b c.haulier s.journal.nextSeq c.amount r.abort r.phase) with
      bays := z.bays.set b { z.bays.get b with record := none, state := .closed }
      part := { p with recovered := p.recovered + 1 } }) hzp
  have hzl : z.links = y.links := by rw [happend]
  have hover := claimSettled_overdraw s b r.cutOff r.claim f
  rw [← hy] at hover
  have hkept : y.KeepsLatch t .overdraw := by
    rw [hdone]
    exact (keepsLatch_of_links hzl _).trans (keepsLatch_latch z nofun)
  refine ⟨by rw [hdone], fun pg ho => ?_, ?_, ?_, ?_, ⟨fun h => (hover.1 h).keep hkept, fun h => (hover.2 h).trans hkept⟩,
    ?_, fun x hx => ?_, ?_⟩
  · refine written_append ho (fun q => .charge q c) ?_
    rw [hdone, happend]
    exact ⟨rfl, rfl, rfl, rfl, rfl, rfl⟩
  · rw [hdone, happend]
    rfl
  · rw [hdone, happend, hl]
    rfl
  · rw [hdone, happend, hl]
    rfl
  · rw [hdone]
    exact shows_latch z _
  · rw [hdone, happend, hl]
    exact (perBay_get_other _ _ hx).trans (perBay_get_other _ _ hx)
  · rw [hdone, happend, hl]
    rfl

/-! ### The bays in turn (R190) -/

theorem recoverBay_idle (h : (s.bays.get b).state ≠ .washing) : s.recoverBay b =
    { s with bays := s.bays.set b { s.bays.get b with record := none } } := by
  unfold State.recoverBay
  split
  next hw _ => exact absurd hw h
  next => rfl

theorem recoverBays_idle (l : List Bay) (s : State) (h : ∀ b ∈ l, (s.bays.get b).state ≠ .washing) :
    ∃ y, l.foldl (fun s b => s.recoverBay b) s = { s with bays := y } ∧ (∀ b, b ∉ l → y.get b = s.bays.get b) := by
  induction l generalizing s with
  | nil => exact ⟨s.bays, rfl, fun _ _ => rfl⟩
  | cons a l ih =>
    obtain ⟨y, hy, hkept⟩ := ih { s with bays := s.bays.set a { s.bays.get a with record := none } } fun b hb => by
      by_cases hba : b = a
      · subst hba
        rw [perBay_get_self]
        exact h b List.mem_cons_self
      · rw [perBay_get_other _ _ hba]
        exact h b (List.mem_cons_of_mem _ hb)
    refine ⟨y, by rw [List.foldl_cons, recoverBay_idle (h a List.mem_cons_self), hy], fun b hb => ?_⟩
    obtain ⟨hba, hbl⟩ := not_or.1 (mt List.mem_cons.2 hb)
    exact (hkept b hbl).trans (perBay_get_other _ _ hba)

/-- The first wash among the bays: those before it are cleared. -/
theorem recoverBays_reach {l₁ : List Bay} (l₂ : List Bay) (hidle : ∀ x ∈ l₁, (s.bays.get x).state ≠ .washing) : ∃ y,
    (l₁ ++ b :: l₂).foldl (fun s b => s.recoverBay b) s =
      l₂.foldl (fun s b => s.recoverBay b) (State.recoverBay { s with bays := y } b) ∧
    ∀ x, x ∉ l₁ → y.get x = s.bays.get x := by
  obtain ⟨y, hy, hkept⟩ := recoverBays_idle l₁ s hidle
  exact ⟨y, by rw [List.foldl_append, hy, List.foldl_cons], hkept⟩

/-- The state in which the recovery begins: a slot reserved for each wash. -/
def State.washesReserved (s : State) (n : Nat) : State :=
  { s with journal := { s.journal with reserved := n } }

theorem recoverWashes_from : s.recoverWashes =
    allBays.foldl (fun s b => s.recoverBay b) (s.washesReserved s.washingBays) := rfl

/-- The washes of some of the bays. -/
def State.washesOf (s : State) (l : List Bay) : Nat :=
  l.countP fun b => (s.bays.get b).state == .washing && (s.record b).isSome

theorem washesOf_idle {l : List Bay} (h : ∀ b ∈ l, (s.bays.get b).state ≠ .washing) : s.washesOf l = 0 :=
  List.countP_eq_zero.2 fun b hb => by simp [h b hb]

theorem washesOf_cons {l : List Bay} (hw : (s.bays.get b).state = .washing) (hr : (s.bays.get b).record = some r) :
    s.washesOf (b :: l) = s.washesOf l + 1 :=
  List.countP_cons_of_pos (by simp [State.record, hw, hr])

theorem washesOf_append (l l' : List Bay) : s.washesOf (l ++ l') = s.washesOf l + s.washesOf l' := List.countP_append

theorem recoverWashes_none (h : ∀ b, (s.bays.get b).state ≠ .washing) : ∃ y, s.recoverWashes =
    { s with journal := { s.journal with reserved := 0 }, bays := y } := by
  obtain ⟨y, hy, _⟩ := recoverBays_idle allBays (s.washesReserved 0) fun b _ => h b
  have hzero : s.washingBays = 0 := washesOf_idle fun b _ => h b
  exact ⟨y, by rw [recoverWashes_from, hzero, hy]; rfl⟩

/-- The only wash: the other bays' records are cleared before it and after it. -/
theorem recoverWashes_one {c : Charge} (hphase : s.part.phase ≠ .running) (hw : s.water.waits = [])
    (hwash : (s.bays.get b).state = .washing) (honly : ∀ x, x ≠ b → (s.bays.get x).state ≠ .washing)
    (hr : (s.bays.get b).record = some r) (he : r.entries[r.phase - 1]? = some e)
    (hc : c = ({ r.cutOff with endTime := some s.clock.time } : WorkRecord).price b true) :
    ∃ y t z, s.recoverWashes = { t with bays := z } ∧
      State.Recovered { s.washesReserved 1 with bays := y } t b r (r.cutLitres e) c := by
  obtain ⟨l₁, l₂, hl⟩ := List.append_of_mem (mem_allBays b)
  have hnodup := allBays_nodup
  rw [hl, List.nodup_append, List.nodup_cons] at hnodup
  obtain ⟨_, ⟨hb₂, _⟩, hb₁⟩ := hnodup
  have hi₁ : ∀ x ∈ l₁, (s.bays.get x).state ≠ .washing := fun x hx => honly x (hb₁ x hx b List.mem_cons_self)
  have hne₂ : ∀ x ∈ l₂, x ≠ b := fun x hx h => hb₂ (h ▸ hx)
  have hi₂ : ∀ x ∈ l₂, (s.bays.get x).state ≠ .washing := fun x hx => honly x (hne₂ x hx)
  have hnot₁ : ∀ x ∈ b :: l₂, x ∉ l₁ := fun x hx hm => hb₁ x hm x hx rfl
  have hone : s.washingBays = 1 := by
    refine (congrArg s.washesOf hl).trans ?_
    rw [washesOf_append, washesOf_cons hwash hr, washesOf_idle hi₁, washesOf_idle hi₂]
  obtain ⟨y, hy, hkept⟩ := recoverBays_reach (s := s.washesReserved 1) (b := b) l₂ hi₁
  have hyb : y.get b = s.bays.get b := hkept b (hnot₁ b List.mem_cons_self)
  obtain ⟨t, ht⟩ : ∃ t, t = State.recoverBay { s.washesReserved 1 with bays := y } b := ⟨_, rfl⟩
  have hdone : State.Recovered { s.washesReserved 1 with bays := y } t b r (r.cutLitres e) c :=
    recoverBay_done hphase hw (by rw [hyb]; exact hwash) (by rw [hyb]; exact hr) he rfl hc ht
  obtain ⟨z, hz, _⟩ := recoverBays_idle l₂ t fun x hx => by
    rw [hdone.bays x (hne₂ x hx), show y.get x = s.bays.get x from hkept x (hnot₁ x (List.mem_cons_of_mem _ hx))]
    exact hi₂ x hx
  exact ⟨y, t, z, by rw [recoverWashes_from, hone, hl, hy, ← ht, hz], hdone⟩

/-- Two washes: the lower bay's is recovered first. -/
theorem recoverWashes_two {a : Bay} {ra rb : WorkRecord} {ea eb : PhaseEntry} {ca cb : Charge}
    (hphase : s.part.phase ≠ .running) (hw : s.water.waits = []) (hab : bayNumber a < bayNumber b)
    (hwash : ∀ x, (s.bays.get x).state = .washing ↔ x = a ∨ x = b)
    (hra : (s.bays.get a).record = some ra) (hea : ra.entries[ra.phase - 1]? = some ea)
    (hca : ca = ({ ra.cutOff with endTime := some s.clock.time } : WorkRecord).price a true)
    (hrb : (s.bays.get b).record = some rb) (heb : rb.entries[rb.phase - 1]? = some eb)
    (hcb : cb = ({ rb.cutOff with endTime := some s.clock.time } : WorkRecord).price b true) :
    ∃ y t z u v, s.recoverWashes = { u with bays := v } ∧
      State.Recovered { s.washesReserved 2 with bays := y } t a ra (ra.cutLitres ea) ca ∧
      State.Recovered { t with bays := z } u b rb (rb.cutLitres eb) cb := by
  obtain ⟨l₁, l, hl⟩ := List.append_of_mem (mem_allBays a)
  have hascending := allBays_ascending
  have hnodup := allBays_nodup
  rw [hl, List.pairwise_append, List.pairwise_cons] at hascending
  rw [hl, List.nodup_append, List.nodup_cons] at hnodup
  obtain ⟨_, ⟨ha, hascend⟩, hbefore⟩ := hascending
  obtain ⟨_, ⟨hal, hlnodup⟩, hdisjoint⟩ := hnodup
  have hbl : b ∈ l := by
    have hmem := mem_allBays b
    rw [hl, List.mem_append, List.mem_cons] at hmem
    rcases hmem with h | rfl | h
    · exact absurd (hbefore b h a List.mem_cons_self) (by omega)
    · omega
    · exact h
  obtain ⟨l₂, l₃, hl'⟩ := List.append_of_mem hbl
  rw [hl', List.nodup_append, List.nodup_cons] at hlnodup
  obtain ⟨_, ⟨hb₃, _⟩, hb₂⟩ := hlnodup
  have hidle : ∀ x, x ≠ a → x ≠ b → (s.bays.get x).state ≠ .washing := fun x hxa hxb h =>
    ((hwash x).1 h).elim hxa hxb
  have hmem : ∀ x, x ∈ l₂ ∨ x ∈ l₃ → x ∈ l := fun x hx => by
    rw [hl', List.mem_append, List.mem_cons]
    exact hx.imp_right .inr
  have hnea : ∀ x ∈ l, x ≠ a := fun x hx h => hal (h ▸ hx)
  have hneb₂ : ∀ x ∈ l₂, x ≠ b := fun x hx => hb₂ x hx b List.mem_cons_self
  have hneb₃ : ∀ x ∈ l₃, x ≠ b := fun x hx h => hb₃ (h ▸ hx)
  have hi₁ : ∀ x ∈ l₁, (s.bays.get x).state ≠ .washing := fun x hx =>
    hidle x (hdisjoint x hx a List.mem_cons_self) (hdisjoint x hx b (List.mem_cons_of_mem _ hbl))
  have hi₂ : ∀ x ∈ l₂, (s.bays.get x).state ≠ .washing := fun x hx => hidle x (hnea x (hmem x (.inl hx))) (hneb₂ x hx)
  have hi₃ : ∀ x ∈ l₃, (s.bays.get x).state ≠ .washing := fun x hx => hidle x (hnea x (hmem x (.inr hx))) (hneb₃ x hx)
  have hnot₁ : ∀ x ∈ a :: l, x ∉ l₁ := fun x hx hm => hdisjoint x hm x hx rfl
  have hnot₂ : ∀ x ∈ b :: l₃, x ∉ l₂ := fun x hx hm => hb₂ x hm x hx rfl
  have htwo : s.washingBays = 2 := by
    refine (congrArg s.washesOf hl).trans ?_
    rw [washesOf_append, washesOf_cons ((hwash a).2 (.inl rfl)) hra, washesOf_idle hi₁, hl', washesOf_append,
      washesOf_cons ((hwash b).2 (.inr rfl)) hrb, washesOf_idle hi₂, washesOf_idle hi₃]
  obtain ⟨y, hy, hkept⟩ := recoverBays_reach (s := s.washesReserved 2) (b := a) l hi₁
  have hkept' : ∀ x ∈ a :: l, y.get x = s.bays.get x := fun x hx => hkept x (hnot₁ x hx)
  have hya := hkept' a List.mem_cons_self
  obtain ⟨t, ht⟩ : ∃ t, t = State.recoverBay { s.washesReserved 2 with bays := y } a := ⟨_, rfl⟩
  have hfirst : State.Recovered { s.washesReserved 2 with bays := y } t a ra (ra.cutLitres ea) ca :=
    recoverBay_done hphase hw (by rw [hya]; exact (hwash a).2 (.inl rfl)) (by rw [hya]; exact hra) hea rfl hca ht
  have htbays : ∀ x ∈ l, t.bays.get x = s.bays.get x := fun x hx =>
    (hfirst.bays x (hnea x hx)).trans (hkept' x (List.mem_cons_of_mem _ hx))
  obtain ⟨z, hz, hkeptz⟩ := recoverBays_reach (s := t) (b := b) l₃ fun x hx => by
    rw [htbays x (hmem x (.inl hx))]
    exact hi₂ x hx
  have hzb : z.get b = s.bays.get b := (hkeptz b (hnot₂ b List.mem_cons_self)).trans (htbays b hbl)
  obtain ⟨u, hu⟩ : ∃ u, u = State.recoverBay { t with bays := z } b := ⟨_, rfl⟩
  have hclock : t.clock.time = s.clock.time := by rw [hfirst.clock]; rfl
  have hsecond : State.Recovered { t with bays := z } u b rb (rb.cutLitres eb) cb :=
    recoverBay_done (by rw [hfirst.part]; exact hphase) (by rw [hfirst.water]; exact hw)
      (by rw [hzb]; exact (hwash b).2 (.inr rfl)) (by rw [hzb]; exact hrb) heb rfl (by rw [hclock]; exact hcb) hu
  obtain ⟨v, hv, _⟩ := recoverBays_idle l₃ u fun x hx => by
    rw [hsecond.bays x (hneb₃ x hx), show z.get x = t.bays.get x from hkeptz x (hnot₂ x (List.mem_cons_of_mem _ hx)),
      htbays x (hmem x (.inr hx))]
    exact hi₃ x hx
  refine ⟨y, t, z, u, v, ?_, hfirst, hsecond⟩
  rw [recoverWashes_from, htwo, hl, hy, ← ht, hl', hz, ← hu, hv]

end Sys2Proof.Machine
end

section
/-! The store check (R187, R189 to R192): a cold start, and a warm start with its recovered washes. -/

namespace Sys2Proof.Machine

variable {s t u x : State} {b : Bay} {r : WorkRecord} {e : PhaseEntry} {f n : Nat} {pg : PageNo}

/-! ### What follows the recovery (R191, R192) -/

theorem finishWalk_none (n : Nat) (h : s.journal.walk = none) : s.finishWalk n = s := by
  cases n with
  | zero => rfl
  | succ n => rw [State.finishWalk, h]

/-- The part in a warm start, before its recovery. -/
def State.warming (s : State) : State :=
  { s with part := { s.part with startKind := .warm, phase := .starting } }

theorem State.warming_unjudged (s : State) : s.warming.part.phase ≠ .running :=
  fun h => PartPhase.noConfusion h

theorem checkStore_valid (h : checksValid s.store = true) : s.checkStore = s.warming.warmStart := if_pos h

theorem checkStore_invalid (h : checksValid s.store = false) : s.checkStore =
    State.rebuild (State.loadFactory { s with part := { s.part with startKind := .cold, phase := .starting } }) :=
  if_neg (by rw [h]; nofun)

theorem exec_storeCheck_checking (h : s.part.phase = .checking) : exec .storeCheck s = .next s.checkStore :=
  congrArg Host.Outcome.next (if_pos h)

/-- The state as a warm start without a walk leaves it, from the one its recovery has made. -/
def State.restarted (x : State) : State :=
  { x with
    part := { x.part with walkFinished := false }, queue := [], bays := .all bayClosed, lane := laneReset
    water := { x.water with bayOpen := 0, owner := none, waits := [] }, staging := none
    journal := { x.journal with
      cursors := { p1 := cursorAbsent, p2 := cursorAbsent }, tagging := .untagged
      balances := Vector.ofFn fun h => x.journal.owed h }
    tanks := x.tanks.map fun u => { u with state := warmTank u.state } }

theorem warmStart_unwalked (hx : s.recoverWashes = x) (hw : x.journal.walk = none) : s.warmStart = x.restarted := by
  obtain ⟨y, hy⟩ : ∃ y, y = { x.rebuild with part := { x.part with walkFinished := false } } := ⟨_, rfl⟩
  have hfinish : x.rebuild.finishJournal = y.modJournal Journal.recomputeBalances := by
    have hpart : ({ x.rebuild with part := { x.rebuild.part with walkFinished := x.rebuild.journal.walk.isSome } } : State) = y := by
      rw [hy, show x.rebuild.journal.walk = x.journal.walk from rfl, hw]
      rfl
    rw [State.finishJournal, hpart, finishWalk_none 64 (by rw [hy]; exact hw)]
  rw [State.warmStart, hx, hfinish, hy]
  rfl

/-- The recovery in a warm start decides what the store check answers. -/
theorem exec_storeCheck_warm (hs : s.part.phase = .checking) (hv : checksValid s.store = true)
    (hx : s.warming.recoverWashes = x) (hw : x.journal.walk = none) : exec .storeCheck s = .next x.restarted := by
  rw [exec_storeCheck_checking hs, checkStore_valid hv, warmStart_unwalked hx hw]

theorem restarted_balances (x : State) (h : Haulier) : x.restarted.journal.balances[h] = x.journal.owed h :=
  Vector.getElem_ofFn _

theorem warmTank_eq (st : TankState) : warmTank st = if st = .service then .sampling else st := by
  cases st <;> rfl

/-- What the clearings of a warm start leave as the recovery made it. -/
structure State.Cleared (x t : State) : Prop where
  startKind : t.part.startKind = x.part.startKind
  recovered : t.part.recovered = x.part.recovered
  pages : t.journal.pages = x.journal.pages
  nextSeq : t.journal.nextSeq = x.journal.nextSeq
  reserved : t.journal.reserved = x.journal.reserved
  fresh : t.water.fresh = x.water.fresh
  overdraw : t.water.overdraw = x.water.overdraw
  clock : t.clock = x.clock
  links : t.links = x.links
  balances : ∀ h : Haulier, t.journal.balances[h] = t.journal.owed h
  bays : t.bays = .all bayClosed
  rest : t = { x with
    part := t.part, queue := t.queue, bays := t.bays, lane := t.lane, staging := t.staging, water := t.water
    journal := t.journal, tanks := t.tanks }

theorem restarted_cleared (x : State) : x.Cleared x.restarted := by
  have hpages : x.restarted.journal.pages = x.journal.pages := by
    unfold State.restarted
    rfl
  constructor
  case balances =>
    intro h
    rw [restarted_balances, Journal.owed, Journal.owed, hpages]
  all_goals
    unfold State.restarted
    rfl

/-- The record of a wash that was cut off, at its end. -/
theorem cutOff_ended (he : r.entries[r.phase - 1]? = some e) (d : DepotTime) :
    ({ r.cutOff with endTime := some d } : WorkRecord) = { r with
      endTime := some d
      entries := r.entries.modify (r.phase - 1) fun x => { x with
        fk := r.cutLitres e, status := if r.sub = .run ∨ r.sub = .runOn then .aborted else .notReached } } := by
  rw [cutOff_eq he]

theorem price_recovered (q : WorkRecord) (b : Bay) :
    (q.price b true).flags.aborted = true ∧ (q.price b true).flags.recovered = true := by
  constructor
  · simp [WorkRecord.price, WorkRecord.flags]
  · rfl

/-- The state in which the recovery of so many washes begins, whatever the bays hold. -/
structure State.Readied (s v : State) (n : Nat) : Prop where
  part : v.part = { s.part with startKind := .warm, phase := .starting }
  journal : v.journal = { s.journal with reserved := n }
  rest : v = { s with part := v.part, journal := v.journal, bays := v.bays }

theorem readied (s : State) (n : Nat) (y : PerBay BayUnit) : s.Readied { s.warming.washesReserved n with bays := y } n :=
  ⟨rfl, rfl, rfl⟩

theorem State.Cleared.of_bays {z : PerBay BayUnit} (h : State.Cleared { x with bays := z } t) : x.Cleared t :=
  ⟨h.startKind, h.recovered, h.pages, h.nextSeq, h.reserved, h.fresh, h.overdraw, h.clock, h.links, h.balances, h.bays, h.rest⟩

/-- A warm start with one wash to recover. -/
theorem storeCheck_one {c : Charge} (hs : s.part.phase = .checking) (hv : checksValid s.store = true)
    (hwalk : s.journal.walk = none) (hw : s.water.waits = []) (hwash : (s.bays.get b).state = .washing)
    (honly : ∀ x, x ≠ b → (s.bays.get x).state ≠ .washing) (hr : (s.bays.get b).record = some r)
    (he : r.entries[r.phase - 1]? = some e) (ho : s.journal.openPage = some pg)
    (hc : c = ({ r.cutOff with endTime := some s.clock.time } : WorkRecord).price b true) :
    ∃ v t u, exec .storeCheck s = .next u ∧ s.Readied v 1 ∧ v.Recovered t b r (r.cutLitres e) c ∧ t.Cleared u := by
  obtain ⟨y, t, z, hrecover, hdone⟩ :=
    recoverWashes_one (s := s.warming) s.warming_unjudged hw hwash honly hr he hc
  obtain ⟨_, _, _, _, _, _, hwalked⟩ := hdone.written pg ho
  exact ⟨_, t, _, exec_storeCheck_warm hs hv hrecover (hwalked.trans hwalk), readied s 1 y, hdone,
    (restarted_cleared _).of_bays⟩

/-- A page with room after one more record stays OPEN. -/
theorem written_openPage {y : Record} (h : s.Written t pg y) (ho : s.journal.openPage = some pg)
    (hlen : s.journal.pages[pg].records.length < 15) : t.journal.openPage = some pg := by
  obtain ⟨rfl, hstate⟩ := Journal.openPage_eq_some.1 ho
  obtain ⟨_, hpage, _, hnew, _⟩ := h
  have hnot : s.journal.pages[s.journal.newest].records.length ≠ 15 := by omega
  refine openPage_of_opened (hnew.trans (if_neg fun h => hnot h.1)) ?_
  rw [hpage]
  exact (if_neg hnot).trans hstate

/-- A warm start with two washes to recover, the lower bay's first. -/
theorem storeCheck_two {a : Bay} {ra rb : WorkRecord} {ea eb : PhaseEntry} {ca cb : Charge}
    (hs : s.part.phase = .checking) (hv : checksValid s.store = true) (hwalk : s.journal.walk = none)
    (hw : s.water.waits = []) (hab : bayNumber a < bayNumber b)
    (hwash : ∀ x, (s.bays.get x).state = .washing ↔ x = a ∨ x = b)
    (hra : (s.bays.get a).record = some ra) (hea : ra.entries[ra.phase - 1]? = some ea)
    (hca : ca = ({ ra.cutOff with endTime := some s.clock.time } : WorkRecord).price a true)
    (hrb : (s.bays.get b).record = some rb) (heb : rb.entries[rb.phase - 1]? = some eb)
    (hcb : cb = ({ rb.cutOff with endTime := some s.clock.time } : WorkRecord).price b true)
    (ho : s.journal.openPage = some pg) (hlen : s.journal.pages[pg].records.length < 15) :
    ∃ v t x u m : State, exec .storeCheck s = .next m ∧ s.Readied v 2 ∧ v.Recovered t a ra (ra.cutLitres ea) ca ∧
      x = { t with bays := x.bays } ∧ x.journal.openPage = some pg ∧ x.Recovered u b rb (rb.cutLitres eb) cb ∧ u.Cleared m := by
  obtain ⟨y, t, z, u, b', hrecover, hfirst, hsecond⟩ :=
    recoverWashes_two (s := s.warming) s.warming_unjudged hw hab hwash hra hea hca hrb heb hcb
  have hwritten := hfirst.written pg ho
  have hopen := written_openPage hwritten ho hlen
  obtain ⟨_, _, _, _, _, _, hwalked⟩ := hwritten
  obtain ⟨_, _, _, _, _, _, hwalked'⟩ := hsecond.written pg hopen
  exact ⟨_, t, { t with bays := z }, u, _, exec_storeCheck_warm hs hv hrecover (hwalked'.trans (hwalked.trans hwalk)), readied s 2 y, hfirst,
    by rfl, hopen, hsecond, (restarted_cleared _).of_bays⟩

end Sys2Proof.Machine
end

section
/-! A release walk that a reset cut off, finished in a warm start (R192), and the store check. -/

namespace Sys2Proof.Machine

variable {s t u x : State} {j k : Journal} {w : Walk} {n m : Nat}

/-! ### The pages a walk has still to judge (R160) -/

/-- How many of the pages from one to another, round the ring, meet a test. -/
def Journal.among (j : Journal) (first last : PageNo) (f : JournalPage → Bool) : Nat :=
  (List.finRange 64).countP fun i : PageNo => decide ((i - first).val ≤ (last - first).val) && f j.pages[i]

theorem countP_at {α : Type} {l : List α} {a : α} {p q : α → Bool} (hl : l.Nodup) (ha : a ∈ l)
    (h : ∀ b, b ≠ a → p b = q b) (hq : q a = false) : l.countP p = l.countP q + if p a then 1 else 0 := by
  induction l with
  | nil => exact absurd ha List.not_mem_nil
  | cons b l ih =>
    obtain ⟨hb, hl⟩ := List.nodup_cons.1 hl
    rw [List.countP_cons, List.countP_cons]
    rcases List.mem_cons.1 ha with rfl | hal
    · have hsame : l.countP p = l.countP q := List.countP_congr fun c hc => by
        rw [h c fun hca => hb (hca ▸ hc)]
      rw [hsame, hq]
      rfl
    · have hba : b ≠ a := fun h => hb (h ▸ hal)
      rw [ih hl hal, h b hba]
      omega

theorem among_last (j : Journal) (i : PageNo) (f : JournalPage → Bool) :
    j.among i i f = if f j.pages[i] then 1 else 0 := by
  have hat := countP_at (q := fun _ => false) (p := fun q : PageNo => decide ((q - i).val ≤ (i - i).val) && f j.pages[q])
    (List.nodup_finRange 64) (List.mem_finRange i) (fun b hb => ?_) rfl
  · rw [Journal.among, hat, List.countP_false, offset_self]
    simp
  · have hne : (b - i).val ≠ 0 := fun h => hb (offset_eq_zero h)
    rw [offset_self, decide_eq_false (by omega), Bool.false_and]

/-- Of the pages after the first of the range, round the ring. -/
theorem inside_succ {i p q : PageNo} (hq : q ≠ p) (hi : i ≠ p) :
    (i - (p + 1)).val ≤ (q - (p + 1)).val ↔ (i - p).val ≤ (q - p).val := by
  have h₁ := offset_succ hq
  have h₂ := offset_succ hi
  omega

theorem outside_succ {p q : PageNo} (hq : q ≠ p) : ¬ (p - (p + 1)).val ≤ (q - (p + 1)).val := by
  have h₁ := offset_succ hq
  have h₂ := offset_before p
  omega

theorem among_succ {p q : PageNo} (hq : q ≠ p) (f : JournalPage → Bool) (hsame : ∀ i : PageNo, i ≠ p → k.pages[i] = j.pages[i]) :
    j.among p q f = k.among (p + 1) q f + if f j.pages[p] then 1 else 0 := by
  have hat := countP_at (p := fun i : PageNo => decide ((i - p).val ≤ (q - p).val) && f j.pages[i])
    (q := fun i : PageNo => decide ((i - (p + 1)).val ≤ (q - (p + 1)).val) && f k.pages[i])
    (List.nodup_finRange 64) (List.mem_finRange p) (fun i hi => ?_) ?_
  · rw [Journal.among, hat, offset_self]
    simp [Journal.among]
  · rw [hsame i hi, decide_eq_decide.2 (inside_succ hq hi)]
  · rw [decide_eq_false (outside_succ hq), Bool.false_and]

/-! ### The walk to its end (R160, R162, R192) -/

/-- The end of a walk in start-up: the reclaim pass and RELEASE-DONE, and nothing judged or written. -/
theorem endWalk_unjudged (h : s.part.phase ≠ .running) (hk : k = (s.journal.reclaim 64 s.journal.oldest).1)
    (hn : n = (s.journal.reclaim 64 s.journal.oldest).2) : s.endWalk w false =
      (State.latch { s with journal := k } (.releaseDone w.first w.last w.released w.unread w.held n k.available)).requestPass := by
  have hr : s.journal.reclaim 64 s.journal.oldest = (k, n) := by rw [hk, hn]
  have htake : s.takeReclaim (k, n) = { s with journal := k } := by
    unfold State.takeReclaim
    split
    · rfl
    · exact judgeLow_unjudged (s := { s with journal := k }) h
  rw [State.endWalk, hr]
  dsimp only
  rw [htake, if_neg Bool.false_ne_true]

theorem endWalk_walk (h : s.part.phase ≠ .running) : (s.endWalk w false).journal.walk = s.journal.walk := by
  obtain ⟨k, hk⟩ : ∃ k, k = (s.journal.reclaim 64 s.journal.oldest).1 := ⟨_, rfl⟩
  have hrest := (reclaim_oldest s.journal).rest
  rw [← hk] at hrest
  rw [endWalk_unjudged h hk rfl]
  exact (congrArg Journal.walk hrest).trans rfl

/-- The pages of a walk's range judged, and its counts at its end. -/
structure Journal.Walked (j k : Journal) (w v : Walk) : Prop where
  pages : ∀ i : PageNo, k.pages[i] =
    if (i - w.next).val ≤ (w.last - w.next).val ∧ j.pages[i].hold = false ∧ j.pages[i].state = .read
    then { j.pages[i] with state := .released } else j.pages[i]
  rest : k = { j with pages := k.pages, balances := k.balances, walk := none }
  first : v.first = w.first
  last : v.last = w.last
  released : v.released = w.released + j.among w.next w.last fun g => !g.hold && g.state == .read
  unread : v.unread = w.unread + j.among w.next w.last fun g => !g.hold && g.state == .closed
  held : v.held = w.held + j.among w.next w.last fun g => g.hold

theorem counted_counts (w : Walk) (pg : JournalPage) :
    (w.counted pg).released = w.released + (if (!pg.hold && pg.state == .read) then 1 else 0) ∧
    (w.counted pg).unread = w.unread + (if (!pg.hold && pg.state == .closed) then 1 else 0) ∧
    (w.counted pg).held = w.held + (if pg.hold then 1 else 0) := by
  unfold Walk.counted
  cases hh : pg.hold with
  | true => simp
  | false => cases pg.state <;> simp

theorem judged_page (j : Journal) (p i : PageNo) : (j.judged p).pages[i] =
    if i = p ∧ j.pages[i].hold = false ∧ j.pages[i].state = .read
    then { j.pages[i] with state := .released } else j.pages[i] := by
  unfold Journal.judged
  by_cases hip : i = p
  · subst hip
    by_cases hread : j.pages[i].hold = false ∧ j.pages[i].state = .read
    · rw [if_pos hread, if_pos ⟨rfl, hread⟩]
      exact getElem_putAt_self ..
    · rw [if_neg hread, if_neg fun h => hread h.2]
  · have hstays : ∀ x : JournalPage, (if i = p ∧ j.pages[i].hold = false ∧ j.pages[i].state = .read then x
        else j.pages[i]) = j.pages[i] := fun x => if_neg fun h => hip h.1
    rw [hstays]
    split
    · exact getElem_putAt_ne _ _ hip
    · rfl

theorem walked_last (j : Journal) (h : w.next = w.last) :
    j.Walked { j.judged w.next with walk := none } w (w.counted j.pages[w.next]) := by
  obtain ⟨hreleased, hunread, hheld⟩ := counted_counts w j.pages[w.next]
  obtain ⟨hfirst, hlast⟩ := counted_ends w j.pages[w.next]
  refine ⟨fun i => ?_, ?_, hfirst, hlast, ?_, ?_, ?_⟩
  · have hin : (i - w.next).val ≤ (w.next - w.next).val ↔ i = w.next := by
      rw [offset_self, Nat.le_zero]
      exact ⟨offset_eq_zero, fun h => by rw [h, offset_self]⟩
    rw [← h]
    simp only [hin]
    exact judged_page ..
  · rw [judged_keeps]
  · rw [hreleased, ← h, among_last]
  · rw [hunread, ← h, among_last]
  · rw [hheld, ← h, among_last]

/-- A walk goes on with its next page. -/
theorem walked_on {v : Walk} (h : w.next ≠ w.last)
    (hk : Journal.Walked { j.judged w.next with walk := some { w.counted j.pages[w.next] with next := w.next + 1 } } k
      { w.counted j.pages[w.next] with next := w.next + 1 } v) : j.Walked k w v := by
  obtain ⟨hpages, hrest, hfirst, hlast, hreleased, hunread, hheld⟩ := hk
  obtain ⟨hreleased', hunread', hheld'⟩ := counted_counts w j.pages[w.next]
  obtain ⟨hfirst', hlast'⟩ := counted_ends w j.pages[w.next]
  have hother : ∀ i : PageNo, i ≠ w.next → (j.judged w.next).pages[i] = j.pages[i] := fun i hi =>
    (judged_page ..).trans (if_neg fun h => hi h.1)
  have hstep := fun f => among_succ (k := j.judged w.next) (j := j) (Ne.symm h) f hother
  dsimp only at hpages hrest hfirst hlast hreleased hunread hheld
  rw [hlast'] at hpages hlast hreleased hunread hheld
  rw [hfirst'] at hfirst
  refine ⟨fun i => ?_, ?_, hfirst, hlast, ?_, ?_, ?_⟩
  · rw [hpages]
    by_cases hi : i = w.next
    · rw [if_neg fun h' => outside_succ (Ne.symm h) (by rw [← hi] at h' ⊢; exact h'.1), judged_page]
      have hin : (i - w.next).val ≤ (w.last - w.next).val ↔ i = w.next :=
        ⟨fun _ => hi, fun _ => by rw [hi, offset_self]; exact Nat.zero_le _⟩
      simp only [hin]
    · rw [hother i hi]
      simp only [inside_succ (Ne.symm h) hi]
  · rw [hrest, judged_keeps]
  · rw [hreleased, hreleased', hstep]
    exact (Nat.add_assoc ..).trans (congrArg _ (Nat.add_comm ..))
  · rw [hunread, hunread', hstep]
    exact (Nat.add_assoc ..).trans (congrArg _ (Nat.add_comm ..))
  · rw [hheld, hheld', hstep]
    exact (Nat.add_assoc ..).trans (congrArg _ (Nat.add_comm ..))

theorem finishWalk_walked (n : Nat) (s : State) (w : Walk) (hw : s.journal.walk = some w)
    (hn : (w.last - w.next).val < n) (hphase : s.part.phase ≠ .running) :
    ∃ k v, s.finishWalk n = State.endWalk { s with journal := k } v false ∧ s.journal.Walked k w v := by
  induction n generalizing s w with
  | zero => omega
  | succ n ih =>
    rw [State.finishWalk, hw]
    by_cases h : w.next = w.last
    · refine ⟨_, _, ?_, walked_last s.journal h⟩
      dsimp only
      rw [walkStep_last h]
      exact finishWalk_none n (by rw [endWalk_walk (by exact hphase)])
    · have hlater := offset_succ (Ne.symm h)
      obtain ⟨hfirst, hlast⟩ := counted_ends w s.journal.pages[w.next]
      obtain ⟨k, v, hfinish, hwalked⟩ := ih (s.walkStep w false) { w.counted s.journal.pages[w.next] with next := w.next + 1 }
        (by rw [walkStep_on h]) (by dsimp only; rw [hlast]; omega) (by rw [walkStep_on h]; exact hphase)
      rw [walkStep_on h] at hfinish hwalked
      exact ⟨k, v, (by dsimp only; rw [walkStep_on h, hfinish]), walked_on h hwalked⟩

/-! ### The warm start that finishes a walk (R192) -/

/-- The state before a walk is finished: the clearings made, and the part knowing of the walk. -/
def State.beforeWalk (x : State) : State :=
  { x.rebuild with part := { x.part with walkFinished := true } }

/-- A state after a walk has been finished: the balances recomputed, and the tanks as a warm start has them. -/
def State.afterWalk (x : State) : State :=
  { x with
    journal := { x.journal with balances := Vector.ofFn fun h => x.journal.owed h }
    tanks := x.tanks.map fun u => { u with state := warmTank u.state } }

theorem warmStart_walked (hx : s.recoverWashes = x) (hw : x.journal.walk = some w) (hphase : x.part.phase ≠ .running) :
    ∃ k v, s.warmStart = (State.endWalk { x.beforeWalk with journal := k } v false).afterWalk ∧
      x.beforeWalk.journal.Walked k w v := by
  obtain ⟨k, v, hfinish, hwalked⟩ := finishWalk_walked 64 x.beforeWalk w hw (w.last - w.next).isLt hphase
  refine ⟨k, v, ?_, hwalked⟩
  have hpart : ({ x.rebuild with part := { x.rebuild.part with walkFinished := x.rebuild.journal.walk.isSome } } : State) =
      x.beforeWalk := by
    rw [show x.rebuild.journal.walk = x.journal.walk from rfl, hw]
    rfl
  rw [State.warmStart, hx, State.finishJournal, hpart, hfinish]
  rfl

theorem owed_congr (hp : j.pages = k.pages) (h : Haulier) : k.owed h = j.owed h := by
  rw [Journal.owed, Journal.owed, hp]

theorem oldest_congr (hp : k.pages = j.pages) (hn : k.newest = j.newest) : k.oldest = j.oldest := by
  cases k
  cases j
  obtain rfl := hp
  obtain rfl := hn
  rfl

/-- The journal as a warm start clears it, before its walk is finished. -/
def Journal.atRestart (j : Journal) : Journal :=
  { j with reserved := 0, cursors := { p1 := cursorAbsent, p2 := cursorAbsent }, tagging := .untagged }

/-- A warm start has finished a walk: the pages judged, then the pages freed, and RELEASE-DONE. -/
structure State.WalkEnded (s t : State) (w v : Walk) (j k : Journal) (n : Nat) : Prop where
  walked : s.journal.atRestart.Walked j w v
  freed : j.Freed k j.oldest n (j.openPage = none ∧ 0 < n ∧ j.oldest = j.newest + 1)
  count : ∀ p, j.oldest = p → n = ((List.finRange 64).takeWhile fun i => j.pages[p + i].state == .released).length
  part : t.part = { s.part with phase := .starting, startKind := .warm, walkFinished := true }
  journal : t.journal = { k with balances := Vector.ofFn fun h => k.owed h }
  shows : t.Shows (.releaseDone v.first v.last v.released v.unread v.held n k.available)
  rest : t = { s with
    part := t.part, queue := t.queue, bays := t.bays, lane := t.lane, staging := t.staging, water := t.water
    journal := t.journal, tanks := t.tanks, disp := t.disp, links := t.links }

theorem storeCheck_walk (hs : s.part.phase = .checking) (hv : checksValid s.store = true) (hwalk : s.journal.walk = some w)
    (hidle : ∀ b, (s.bays.get b).state ≠ .washing) :
    ∃ t v j k n, exec .storeCheck s = .next t ∧ s.WalkEnded t w v j k n := by
  obtain ⟨y, hy⟩ := recoverWashes_none (s := s.warming) hidle
  obtain ⟨x, hx⟩ : ∃ x, x = { s.warming with journal := { s.journal with reserved := 0 }, bays := y } := ⟨_, rfl⟩
  have hphase : x.part.phase ≠ .running := by rw [hx]; exact s.warming_unjudged
  obtain ⟨j, v, hwarm, hwalked⟩ := warmStart_walked (hy.trans hx.symm) (by rw [hx]; exact hwalk) hphase
  obtain ⟨z, hz⟩ : ∃ z, z = x.beforeWalk := ⟨_, rfl⟩
  have hzs : z = { s with
      part := { s.part with phase := .starting, startKind := .warm, walkFinished := true }
      queue := [], bays := .all bayClosed, lane := laneReset
      water := { s.water with bayOpen := 0, owner := none, waits := [] }, staging := none
      journal := s.journal.atRestart } := by
    rw [hz, hx]
    rfl
  rw [← hz] at hwarm hwalked
  obtain ⟨k, hk⟩ : ∃ k, k = (Journal.reclaim 64 j.oldest j).1 := ⟨_, rfl⟩
  obtain ⟨n, hn⟩ : ∃ n, n = (Journal.reclaim 64 j.oldest j).2 := ⟨_, rfl⟩
  have hfreed := reclaim_oldest j
  rw [← hk, ← hn] at hfreed
  obtain ⟨e, he⟩ : ∃ e, e = Event.releaseDone v.first v.last v.released v.unread v.held n k.available := ⟨_, rfl⟩
  obtain ⟨y', hy'⟩ : ∃ y', y' = (State.latch { z with journal := k } e).requestPass := ⟨_, rfl⟩
  have hwarm' : s.warming.warmStart = y'.afterWalk := by
    rw [hwarm, endWalk_unjudged (k := k) (n := n) (by rw [hz]; exact hphase) hk hn, hy', he]
  have hshow : y'.Shows e := by
    rw [hy']
    exact shows_latch { z with journal := k } e
  obtain ⟨t, ht⟩ : ∃ t, t = y'.afterWalk := ⟨_, rfl⟩
  have hlinks : t.links = y'.links := by rw [ht, State.afterWalk]
  refine ⟨t, v, j, k, n, ?_, ?_, hfreed, fun p hp => ?_, ?_, ?_, ?_, ?_⟩
  · rw [exec_storeCheck_checking hs, checkStore_valid hv, hwarm', ht]
  · rw [hzs] at hwalked
    exact hwalked
  · rw [hn, hp]
    exact reclaim_run p j
  · rw [ht, State.afterWalk, hy', hzs]
    rfl
  · rw [ht, State.afterWalk, hy']
    rfl
  · rw [← he]
    exact hshow.keep (keepsLatch_of_links hlinks _)
  · rw [ht, State.afterWalk, hy', hzs]
    rfl

/-- Settles O58: the cold start is the factory load, the warm start its recovery, then the clearings and the balances. -/
theorem storeCheckStarts : Obligations.StoreCheckStarts := by
  refine ⟨fun s hs => congrArg Host.Outcome.next (if_neg hs), fun s hs hv => ?_, fun s hs hv hwalk hidle => ?_,
    fun s b r r' e f c pg hs hv hwalk hw hwash hr honly he ho hf hr' hc => ?_,
    fun s a b ra rb ea eb cut lit fr ov short noted ca cb pg hs hv hwalk hw hab hwash hra hrb hea heb ho hlen
      hlit hcut hfr hov hshort hnoted hca hcb => ?_,
    fun s w j o n opens among hs hv hwalk hidle hj ho hn hopens hamong => ?_⟩
  · rw [exec_storeCheck_checking hs, checkStore_invalid hv]
    rfl
  · obtain ⟨y, hy⟩ := recoverWashes_none (s := s.warming) hidle
    refine ⟨_, exec_storeCheck_warm hs hv hy hwalk, rfl, rfl, rfl, rfl, rfl, rfl, rfl, rfl, rfl,
      restarted_balances _, fun i => ?_, rfl⟩
    refine (perTank_get_map ..).trans ?_
    rw [warmTank_eq]
    rfl
  · have hf' : f = r.cutLitres e := hf
    have hc' : c = ({ r.cutOff with endTime := some s.clock.time } : WorkRecord).price b true := by
      rw [cutOff_ended he, ← hf', hc, hr']
    have hflags := price_recovered ({ r.cutOff with endTime := some s.clock.time } : WorkRecord) b
    rw [← hc'] at hflags
    obtain ⟨v, t, u, hexec, hready, hdone, hclear⟩ := storeCheck_one hs hv hwalk hw hwash honly hr he ho hc'
    rw [← hf'] at hdone
    have hvj := hready.journal
    have hvw : v.water = s.water := by rw [hready.rest]
    have hvc : v.clock = s.clock := by rw [hready.rest]
    have hvl : v.links = s.links := by rw [hready.rest]
    have hlinks : ∀ i, t.KeepsLatch u i := keepsLatch_of_links hclear.links
    have hover := hdone.overdraw
    rw [hready.rest] at hover
    obtain ⟨hseq, hpage, _⟩ := hdone.written pg (by rw [hvj]; exact ho)
    have hshow := hdone.aborted
    rw [hvj] at hseq hpage hshow
    refine ⟨u, hexec, ?_, ?_, by rw [hclear.pages, hpage], by rw [hclear.nextSeq, hseq], ?_, ?_, ?_, ?_,
      ⟨fun h => (hover.1 h).keep (hlinks _), fun h => (hover.2 h).trans (hlinks _)⟩, hflags.1, hflags.2,
      hshow.keep (hlinks .washAborted), hclear.bays, ?_⟩
    · rw [hclear.startKind, hdone.part, hready.part]
    · rw [hclear.recovered, hdone.part, hready.part]
    · rw [hclear.reserved, hdone.reserved, hvj]
      rfl
    · rw [hclear.fresh, hdone.water, State.freshSettled, hvw]
    · rw [hclear.overdraw, hdone.water, State.overdrawSettled, hvw]
    · rw [hclear.clock, hdone.clock, hvc, State.accSettled, State.accSettled, State.shortfall, State.shortfall, hvw, hvc]
    · rw [hclear.rest, hdone.rest, hready.rest]
  · have hlit' : ∀ r e, lit r e = r.cutLitres e := fun r e => by
      rw [hlit]
      rfl
    have hcut' : ∀ {r : WorkRecord} {e}, r.entries[r.phase - 1]? = some e →
        cut r e = { r.cutOff with endTime := some s.clock.time } := fun {r e} he => by
      rw [cutOff_ended he, hcut]
      dsimp only
      rw [hlit']
    have hfr' : ∀ (y : State) r e, y.freshSettled r.claim (r.cutLitres e) = fr y.water.fresh r e := fun y r e => by
      rw [hfr, hlit]
      rfl
    have hov' : ∀ (y : State) r e, y.overdrawSettled r.claim (r.cutLitres e) = ov y.water.fresh y.water.overdraw r e :=
      fun y r e => by
        rw [hov, hlit]
        rfl
    have hshort' : ∀ (y : State) r e, y.shortfall r.claim (r.cutLitres e) = short y.water.fresh r e := fun y r e => by
      rw [hshort, hlit]
      rfl
    have hnoted' : ∀ (y : State) r e, y.accSettled r.claim (r.cutLitres e) =
        noted y.clock.acc (short y.water.fresh r e) := fun y r e => by
      rw [State.accSettled, hshort', hnoted]
    have hover : ∀ x o r e, short x r e ≠ 0 → ov x o r e = min 262143 (o + short x r e) := fun x o r e h => by
      rw [hshort] at h
      rw [hov, hshort]
      dsimp only at h ⊢
      rw [if_pos (by omega), Nat.sub_sub]
    obtain ⟨v, t, x, u, m, hexec, hready, hfirst, hx, hopen, hsecond, hclear⟩ := storeCheck_two (ca := ca) (cb := cb) hs hv hwalk hw
      hab hwash
      hra hea (by rw [hca, hcut' hea]) hrb heb (by rw [hcb, hcut' heb]) ho hlen
    have hvj := hready.journal
    have hvw : v.water = s.water := by rw [hready.rest]
    have hvc : v.clock = s.clock := by rw [hready.rest]
    have hxj : x.journal = t.journal := by rw [hx]
    have hfresh : x.water.fresh = fr s.water.fresh ra ea := by rw [hx, hfirst.water, hfr', hvw]
    have hoverdraw : x.water.overdraw = ov s.water.fresh s.water.overdraw ra ea := by rw [hx, hfirst.water, hov', hvw]
    have hacc : x.clock = { s.clock with acc := (noted s.clock.acc (short s.water.fresh ra ea)).charged ca } := by
      rw [hx, hfirst.clock, hnoted', hvc, hvw]
    have hlinks : ∀ i, u.KeepsLatch m i := keepsLatch_of_links hclear.links
    have hbetween : ∀ i, t.KeepsLatch x i := keepsLatch_of_links (by rw [hx])
    obtain ⟨hseq, hpage, _⟩ := hfirst.written pg (by rw [hvj]; exact ho)
    obtain ⟨hseq', hpage', _⟩ := hsecond.written pg hopen
    have hshow := hsecond.aborted
    rw [hvj] at hseq hpage
    rw [hxj] at hseq' hpage' hshow
    rw [hseq] at hseq' hpage' hshow
    have hfinal : m.water.overdraw = ov (fr s.water.fresh ra ea) (ov s.water.fresh s.water.overdraw ra ea) rb eb := by
      rw [hclear.overdraw, hsecond.water, hov', hfresh, hoverdraw]
    refine ⟨m, hexec, ?_, ?_, ?_, ?_, ?_, hclear.balances, ?_, hfinal, ?_, fun h => ?_, fun h h' => ?_,
      hshow.keep (hlinks .washAborted), hclear.bays, ?_⟩
    · rw [hclear.startKind, hsecond.part, hx, hfirst.part, hready.part]
    · rw [hclear.recovered, hsecond.part, hx, hfirst.part, hready.part]
    · rw [hclear.pages, hpage', hpage]
      exact List.append_assoc ..
    · rw [hclear.nextSeq, hseq', add_assoc]
      rfl
    · rw [hclear.reserved, hsecond.reserved, hxj, hfirst.reserved, hvj]
      rfl
    · rw [hclear.fresh, hsecond.water, hfr', hfresh]
    · rw [hclear.clock, hsecond.clock, hnoted', hfresh, hacc]
    · have hlast := hsecond.overdraw.1 (by rw [hshort', hfresh]; exact h)
      rw [hshort', hfresh, hoverdraw, ← hover _ _ _ _ h] at hlast
      rw [hfinal]
      exact hlast.keep (hlinks .overdraw)
    · have hlast := hsecond.overdraw.2 (by rw [hshort', hfresh]; exact h)
      have hearlier := hfirst.overdraw.1 (by rw [hshort', hvw]; exact h')
      rw [hshort', hvw, ← hover _ _ _ _ h'] at hearlier
      exact hearlier.keep (((hbetween .overdraw).trans hlast).trans (hlinks .overdraw))
    · rw [hclear.rest, hsecond.rest, hx, hfirst.rest, hready.rest]
  · obtain ⟨t, v, q, k, m, hexec, hend⟩ := storeCheck_walk hs hv hwalk hidle
    have hcounts : ∀ f, s.journal.atRestart.among w.next w.last f = among f := fun f => by
      rw [hamong]
      rfl
    obtain ⟨hpages, hrest, hfirst, hlast, hreleased, hunread, hheld⟩ := hend.walked
    have hqp : q.pages = j.pages := by
      refine Vector.ext fun i hi => ?_
      refine (hpages ⟨i, hi⟩).trans ?_
      rw [hj]
      simp only [Vector.getElem_ofFn]
      rfl
    have hqn : q.newest = j.newest := by
      rw [hrest, hj]
      rfl
    have hoq : q.oldest = o := by rw [ho, oldest_congr hqp hqn]
    have hmn : m = n := by rw [hend.count o hoq, hqp, hn]
    have hfreed := hend.freed
    have hshow := hend.shows
    rw [hmn, hoq] at hfreed
    rw [hmn, hfreed.available, available_congr hqp hqn, hfirst, hlast, hreleased, hunread, hheld, hcounts, hcounts,
      hcounts] at hshow
    have hwhen : (q.openPage = none ∧ 0 < n ∧ o = q.newest + 1) ↔ opens = true := by
      rw [openPage_congr hqp hqn, hqn, hopens, decide_eq_true_iff]
    have hkr := hfreed.rest
    refine ⟨t, hexec, hend.part, ?_, ?_, ?_, ?_, fun i hi => ?_, fun i hi => ?_, fun h => ?_, hshow, hend.rest⟩
    · rw [hend.journal, hkr, hrest]
    · rw [hend.journal, hkr, hrest]
      rfl
    · rw [hend.journal, hkr, hrest]
      rfl
    · rw [hend.journal, hkr, hrest]
      rfl
    · rw [hend.journal]
      refine (hfreed.freed i hi).trans ?_
      simp only [hwhen]
    · rw [hend.journal]
      exact (hfreed.stays i hi).trans (by rw [hqp])
    · have hbalance : t.journal.balances[h] = k.owed h := by
        rw [hend.journal]
        exact Vector.getElem_ofFn _
      rw [hbalance]
      exact owed_congr (by rw [hend.journal]) h

end Sys2Proof.Machine
end

section
/-! The dispatch pass (R59 to R67): what writing a hold and calling a visit change, and what any pass leaves as it was. -/

namespace Sys2Proof.Machine

variable {s t u : State} {b : Bay} {v : Visit} {x : VisitTerms} {k : EventKind} {added : List CallLine} {l : List Visit}

/-! ### The ports' links beside latch and attention -/

/-- The links of two states differ at most in latch and attention. -/
def State.SamePorts (s t : State) : Prop :=
  ∀ p, t.links.get p = { s.links.get p with latch := (t.links.get p).latch, attention := (t.links.get p).attention }

theorem State.SamePorts.refl (s : State) : s.SamePorts s := fun _ => rfl

theorem State.SamePorts.trans (h : s.SamePorts t) (h' : t.SamePorts u) : s.SamePorts u := fun p => by
  rw [h' p, h p]

theorem samePorts_of_links (h : t.links = s.links) : s.SamePorts t := fun p => by rw [h]

theorem samePorts_latch (s : State) (e : Event) : s.SamePorts (s.latch e) := fun p => by cases p <;> rfl

theorem samePorts_judgeLow (s : State) : s.SamePorts s.judgeLow := by
  unfold State.judgeLow
  split
  · exact .refl s
  · split
    · split
      · exact samePorts_latch (s.modJournal _) _
      · exact .refl s
    · exact .refl s

/-! ### A hold written (R59, R60) -/

theorem writeHold_queue (s : State) (v : Visit) (h : HoldReason) : (s.writeHold v h).queue =
    s.queue.map fun y => if y.number = v.number then { v with hold := h } else y := by
  unfold State.writeHold State.noteHeld
  split <;> rfl

theorem writeHold_eq (s : State) (v : Visit) (h : HoldReason) : s.writeHold v h =
    { s with queue := (s.writeHold v h).queue, links := (s.writeHold v h).links } := by
  unfold State.writeHold State.noteHeld
  split <;> rfl

theorem writeHold_keepsLatch (s : State) (v : Visit) (h : HoldReason) (hk : k ≠ .visitHeld) :
    s.KeepsLatch (s.writeHold v h) k :=
  State.KeepsLatch.trans (t := s.putVisit { v with hold := h }) (.refl s k) (keepsLatch_noteHeld _ _ _ hk)

theorem writeHold_samePorts (s : State) (v : Visit) (h : HoldReason) : s.SamePorts (s.writeHold v h) := by
  unfold State.writeHold State.noteHeld
  split
  · exact samePorts_latch (s.putVisit { v with hold := h }) _
  · exact samePorts_of_links rfl

theorem firstFitting_eq (b : Bay) (l : List Visit) (s : State) : (State.firstFitting b l s).1 = { s with
    queue := (State.firstFitting b l s).1.queue, links := (State.firstFitting b l s).1.links } := by
  induction l generalizing s with
  | nil => rfl
  | cons v l ih =>
    rw [State.firstFitting]
    split
    · split
      · rfl
      · rw [ih, writeHold_eq]
    · exact ih s

theorem choose_eq (s : State) (b : Bay) : (s.choose b).1 = { s with
    queue := (s.choose b).1.queue, links := (s.choose b).1.links } := by
  unfold State.choose
  dsimp only
  split
  · exact firstFitting_eq ..
  · split
    · have hfirst := firstFitting_eq b s.queue s
      generalize (State.firstFitting b s.queue s).1 = y at hfirst ⊢
      refine (firstFitting_eq b _ y).trans ?_
      rw [hfirst]
    · exact firstFitting_eq ..

/-! ### A call (R66, R67) -/

/-- What a call of a visit to a bay, on given terms, has made. -/
structure State.Called (s t : State) (b : Bay) (v : Visit) (x : VisitTerms) : Prop where
  queue : t.queue = s.queue.map fun y => if y.number = v.number then { v with call := some b } else y
  bays : t.bays = s.bays.set b (s.CalledBay b x)
  lines : t.disp.lines = s.disp.lines ++ [{ bay := b, visit := v.number }]
  haulier : t.disp.lastHaulier = some x.haulier
  fair : t.disp.run = if s.disp.lastHaulier = some x.haulier then min 255 (s.disp.run + 1) else 1
  mark : t.disp.mark = s.disp.mark
  journal : t.journal = { s.journal with reserved := s.journal.reserved + 1, lowArmed := t.journal.lowArmed }
  low : s.part.phase = .running → s.LowJudged t
  keeps : ∀ k, k ≠ .journalLow → s.KeepsLatch t k
  ports : s.SamePorts t
  rest : t = { s with queue := t.queue, bays := t.bays, journal := t.journal, disp := t.disp, links := t.links }

theorem callVisit_done (s : State) (b : Bay) (v : Visit) (x : VisitTerms) : s.Called (s.callVisit b v x) b v x := by
  obtain ⟨y, hy⟩ : ∃ y, y = (s.putVisit { v with call := some b }).modJournal fun j => { j with reserved := j.reserved + 1 } :=
    ⟨_, rfl⟩
  obtain ⟨m, hm⟩ : ∃ m, m = y.judgeLow := ⟨_, rfl⟩
  have hmj := judgeLow_keeps_journal y
  rw [← hm] at hmj
  have hmy : m = { y with journal := m.journal, links := m.links } := by
    rw [hm]
    simp [State.ext_iff]
  have hym : m = { s with
      queue := s.queue.map fun z => if z.number = v.number then { v with call := some b } else z
      journal := m.journal, links := m.links } := by
    rw [hmy, hy]
    rfl
  obtain ⟨d, hd⟩ : ∃ d, d = Dispatcher.admitted { s.disp with
    lines := s.disp.lines ++ [{ bay := b, visit := v.number }] } x.haulier := ⟨_, rfl⟩
  have hcall : s.callVisit b v x = { m with bays := s.bays.set b (s.CalledBay b x), disp := d } := by
    unfold State.callVisit State.reserve
    rw [← hy, ← hm, hd, hym]
    rfl
  have hdisp : d.lines = s.disp.lines ++ [{ bay := b, visit := v.number }] ∧ d.lastHaulier = some x.haulier ∧
      d.run = (if s.disp.lastHaulier = some x.haulier then min 255 (s.disp.run + 1) else 1) ∧ d.mark = s.disp.mark := by
    rw [hd, Dispatcher.admitted]
    dsimp only
    split
    next h => exact ⟨rfl, h, rfl, rfl⟩
    next => exact ⟨rfl, rfl, rfl, rfl⟩
  obtain ⟨hlines, hhaulier, hrun, hmark⟩ := hdisp
  have hyj : y.journal = { s.journal with reserved := s.journal.reserved + 1 } := by rw [hy]; rfl
  have hyk : ∀ k, s.KeepsLatch y k := fun k => by rw [hy]; exact .refl s k
  obtain ⟨t, ht⟩ : ∃ t, t = s.callVisit b v x := ⟨_, rfl⟩
  rw [← ht] at hcall
  have htl : t.links = m.links := by rw [hcall]
  have htj : t.journal = m.journal := by rw [hcall]
  rw [← ht]
  refine ⟨by rw [hcall, hym], by rw [hcall], by rw [hcall]; exact hlines, by rw [hcall]; exact hhaulier,
    by rw [hcall]; exact hrun, by rw [hcall]; exact hmark, ?_, fun hs => ?_, fun k hk => ?_, ?_, ?_⟩
  · rw [htj, hmj, hyj]
  · have hlow := lowJudged_judgeLow (s := y) (by rw [hy]; exact hs)
    rw [← hm] at hlow
    exact hlow.congr (by rw [hyj]) (hyk _) htj (keepsLatch_of_links htl _)
  · refine (hyk k).trans (State.KeepsLatch.trans (t := m) ?_ (keepsLatch_of_links htl _))
    rw [hm]
    exact (State.KeepsLatch.refl y k).judgeLow hk
  · refine State.SamePorts.trans (t := y) (by rw [hy]; exact .refl s) (State.SamePorts.trans (t := m) ?_ (samePorts_of_links htl))
    rw [hm]
    exact samePorts_judgeLow y
  · rw [hcall, hym]

/-! ### What a pass may have changed (R59, R60, R63) -/

/-- A queued visit as a pass may leave it: one that was queued, with another call and hold if it had no call. -/
def State.Kin (s : State) (v : Visit) : Prop :=
  ∃ w ∈ s.queue, v = { w with call := v.call, hold := v.hold } ∧ (w.call.isSome = true → v = w)

theorem kin_of_mem (h : v ∈ s.queue) : s.Kin v := ⟨v, h, rfl, fun _ => rfl⟩

/-- A visit without a call that takes another call and hold. -/
theorem State.Kin.changed (h : s.Kin v) (hv : v.call = none) (c : Option Bay) (r : HoldReason) :
    s.Kin { v with call := c, hold := r } := by
  obtain ⟨w, hw, hvw, hcall⟩ := h
  refine ⟨w, hw, ?_, fun hc => ?_⟩
  · rw [hvw]
  · have hsame := hcall hc
    rw [← hsame, hv] at hc
    exact nomatch hc

/-- A pass between its start and some point of its walk, the call lines it has added given. -/
structure State.PassedOn (s t : State) (added : List CallLine) : Prop where
  lines : t.disp.lines = s.disp.lines ++ added
  journal : t.journal = { s.journal with
    reserved := s.journal.reserved + added.length, lowArmed := t.journal.lowArmed }
  numbers : t.queue.map (·.number) = s.queue.map (·.number)
  visits : ∀ v ∈ t.queue, s.Kin v
  others : ∀ b, (∀ l ∈ added, l.bay ≠ b) → t.bays.get b = s.bays.get b
  called : ∀ l ∈ added, s.considers l.bay = true ∧ (t.bays.get l.bay).state = .called
  nodup : (added.map (·.bay)).Nodup
  room : s.disp.lines.length ≤ 3 → t.disp.lines.length ≤ 3
  mark : s.part.phase = .running → t.disp.mark = false
  still : added = [] → t.journal = s.journal ∧ s.KeepsLatch t .journalLow ∧
    t.disp.lastHaulier = s.disp.lastHaulier ∧ t.disp.run = s.disp.run
  low : added ≠ [] → t.journal.lowArmed = decide (t.journal.reserved + 64 ≤ t.journal.available)
  keeps : ∀ k, k ≠ .visitHeld → k ≠ .journalLow → s.KeepsLatch t k
  ports : s.SamePorts t
  rest : t = { s with queue := t.queue, bays := t.bays, journal := t.journal, disp := t.disp, links := t.links }

theorem passedOn_same (h : s.part.phase = .running → s.disp.mark = false) : s.PassedOn s [] where
  lines := (List.append_nil _).symm
  journal := rfl
  numbers := rfl
  visits _ h := kin_of_mem h
  others _ _ := rfl
  called _ h := absurd h List.not_mem_nil
  nodup := List.nodup_nil
  room h := h
  mark := h
  still _ := ⟨rfl, .refl s _, rfl, rfl⟩
  low h := absurd rfl h
  keeps k _ _ := .refl s k
  ports := .refl s
  rest := rfl

theorem passedOn_start (s : State) : s.PassedOn (s.modDisp fun d => { d with mark := false }) [] where
  lines := (List.append_nil _).symm
  journal := rfl
  numbers := rfl
  visits _ h := kin_of_mem h
  others _ _ := rfl
  called _ h := absurd h List.not_mem_nil
  nodup := List.nodup_nil
  room h := h
  mark _ := rfl
  still _ := ⟨rfl, .refl s _, rfl, rfl⟩
  low h := absurd rfl h
  keeps k _ _ := .refl s k
  ports := .refl s
  rest := rfl

/-- A hold written of a visit without a call. -/
theorem State.PassedOn.writeHold (h : s.PassedOn t added) (hv : s.Kin v) (hc : v.call = none) (r : HoldReason) :
    s.PassedOn (t.writeHold v r) added := by
  obtain ⟨u, hu⟩ : ∃ u, u = t.writeHold v r := ⟨_, rfl⟩
  have hrest := writeHold_eq t v r
  have hqueue := writeHold_queue t v r
  have hkeeps := fun k hk => writeHold_keepsLatch (k := k) t v r hk
  have hports := writeHold_samePorts t v r
  rw [← hu] at hrest hqueue hkeeps hports ⊢
  have hdisp : u.disp = t.disp := by rw [hrest]
  have hjournal : u.journal = t.journal := by rw [hrest]
  have hbays : u.bays = t.bays := by rw [hrest]
  refine ⟨?_, ?_, ?_, fun y hy => ?_, ?_, ?_, h.nodup, ?_, ?_, fun ha => ?_, ?_, fun k hk hl => ?_, h.ports.trans hports, ?_⟩
  · rw [hdisp]
    exact h.lines
  · rw [hjournal]
    exact h.journal
  · rw [hqueue, List.map_map, ← h.numbers]
    refine List.map_congr_left fun y _ => ?_
    dsimp only [Function.comp]
    split
    next he => exact he.symm
    next => rfl
  · rw [hqueue] at hy
    obtain ⟨z, hz, rfl⟩ := List.mem_map.1 hy
    split
    · exact hv.changed hc v.call r
    · exact h.visits z hz
  · rw [hbays]
    exact h.others
  · rw [hbays]
    exact h.called
  · rw [hdisp]
    exact h.room
  · rw [hdisp]
    exact h.mark
  · obtain ⟨hj, hl, hlast, hrun⟩ := h.still ha
    rw [hdisp, hjournal]
    exact ⟨hj, hl.trans (hkeeps _ nofun), hlast, hrun⟩
  · rw [hjournal]
    exact h.low
  · exact (h.keeps k hk hl).trans (hkeeps k hk)
  · rw [hrest, h.rest]

theorem call_of_evaluated (h : v.evaluated = true) : v.call = none := by
  simp only [Visit.evaluated, Bool.and_eq_true, Option.isNone_iff_eq_none] at h
  exact h.1

theorem call_of_fitsBay (h : s.fitsBay b v = true) : v.call = none := by
  rw [State.fitsBay, Bool.and_eq_true] at h
  exact call_of_evaluated h.1

theorem State.PassedOn.evaluate (l : List Visit) (hl : ∀ v ∈ l, s.Kin v) (h : s.PassedOn t added) :
    s.PassedOn (l.foldl (fun s v => if v.evaluated then s.writeHold v (s.accountHold v) else s) t) added := by
  induction l generalizing t with
  | nil => exact h
  | cons v l ih =>
    refine ih (fun y hy => hl y (List.mem_cons_of_mem _ hy)) ?_
    dsimp only
    split
    next hv => exact h.writeHold (hl v List.mem_cons_self) (call_of_evaluated hv) _
    next => exact h

theorem State.PassedOn.firstFitting (l : List Visit) (hl : ∀ v ∈ l, s.Kin v) (h : s.PassedOn t added) :
    s.PassedOn (State.firstFitting b l t).1 added ∧
      ∀ v, (State.firstFitting b l t).2 = some v → s.Kin v ∧ v.call = none := by
  induction l generalizing t with
  | nil =>
    refine ⟨h, fun v hv => ?_⟩
    simp [State.firstFitting] at hv
  | cons v l ih =>
    have hlater := fun y hy => hl y (List.mem_cons_of_mem v hy)
    rw [State.firstFitting]
    split
    next hfits =>
      split
      next =>
        refine ⟨h, fun y hy => ?_⟩
        obtain rfl := Option.some.inj hy
        exact ⟨hl v List.mem_cons_self, call_of_fitsBay hfits⟩
      next => exact ih hlater (h.writeHold (hl v List.mem_cons_self) (call_of_fitsBay hfits) .credit)
    next => exact ih hlater h

theorem State.PassedOn.choose (h : s.PassedOn t added) : s.PassedOn (t.choose b).1 added ∧
    ∀ v, (t.choose b).2 = some v → s.Kin v ∧ v.call = none := by
  obtain ⟨hfirst, hcandidate⟩ := h.firstFitting (b := b) t.queue h.visits
  unfold State.choose
  dsimp only
  split
  next hnone => exact ⟨hfirst, hcandidate⟩
  next v hv =>
    split
    · obtain ⟨hother, hreplaced⟩ := hfirst.firstFitting (b := b)
        ((State.firstFitting b t.queue t).1.queue.filter fun y => y.haulier ≠ v.haulier)
        fun y hy => hfirst.visits y (List.mem_filter.1 hy).1
      refine ⟨hother, fun y hy => ?_⟩
      dsimp only at hy
      cases hr : (State.firstFitting b ((State.firstFitting b t.queue t).1.queue.filter fun y => y.haulier ≠ v.haulier)
          (State.firstFitting b t.queue t).1).2 with
      | none =>
        rw [hr] at hy
        obtain rfl := Option.some.inj hy
        exact hcandidate v hv
      | some w =>
        rw [hr] at hy
        obtain rfl := Option.some.inj hy
        exact hreplaced w hr
    · exact ⟨hfirst, hcandidate⟩

theorem mayCall_iff (s : State) : s.mayCall = true ↔ s.MayCall := by
  rw [State.mayCall, State.MayCall, Journal.takesCall, Bool.and_eq_true, Bool.and_eq_true, decide_eq_true_iff,
    decide_eq_true_iff, Option.isNone_iff_eq_none, Config.callLineCapacity]

/-- A call to a bay of which no line has been added. -/
theorem State.PassedOn.callVisit (h : s.PassedOn t added) (hphase : s.part.phase = .running) (hv : s.Kin v) (hc : v.call = none)
    (hb : ∀ l ∈ added, l.bay ≠ b) (hcons : t.considers b = true) (hmay : t.MayCall) :
    s.PassedOn (t.callVisit b v x) (added ++ [{ bay := b, visit := v.number }]) := by
  obtain ⟨u, hu⟩ : ∃ u, u = t.callVisit b v x := ⟨_, rfl⟩
  have hcall := callVisit_done t b v x
  rw [← hu] at hcall ⊢
  have hsb : t.bays.get b = s.bays.get b := h.others b hb
  have hconsiders : s.considers b = true := by
    have hwater : t.water = s.water := by rw [h.rest]
    have hlines : t.lines = s.lines := by rw [h.rest]
    rw [State.considers, State.bayIsOpen, hwater, hsb, hlines] at hcons
    exact hcons
  have hfresh : ∀ c, c ≠ b → u.bays.get c = t.bays.get c := fun c hcb => by
    rw [hcall.bays]
    exact perBay_get_other _ _ hcb
  have hnone : added ++ [({ bay := b, visit := v.number } : CallLine)] ≠ [] := by simp
  obtain ⟨hdecide, _⟩ := hcall.low (by rw [h.rest]; exact hphase)
  refine ⟨by rw [hcall.lines, h.lines, List.append_assoc], ?_, ?_, fun y hy => ?_, fun c hcl => ?_, fun l hl => ?_, ?_, fun _ => ?_,
    fun hs => hcall.mark.trans (h.mark hs), fun ha => absurd ha hnone, fun _ => hdecide, fun k hk hl => (h.keeps k hk hl).trans (hcall.keeps k hl),
    h.ports.trans hcall.ports, ?_⟩
  · rw [hcall.journal, h.journal, List.length_append]
    rfl
  · rw [hcall.queue, List.map_map, ← h.numbers]
    refine List.map_congr_left fun y _ => ?_
    dsimp only [Function.comp]
    split
    next he => exact he.symm
    next => rfl
  · rw [hcall.queue] at hy
    obtain ⟨z, hz, rfl⟩ := List.mem_map.1 hy
    split
    · exact hv.changed hc (some b) v.hold
    · exact h.visits z hz
  · have hcb : c ≠ b := fun he => hcl { bay := b, visit := v.number } (List.mem_append_right _ (List.mem_singleton.2 rfl)) he.symm
    rw [hfresh c hcb]
    exact h.others c fun l hl => hcl l (List.mem_append_left _ hl)
  · rcases List.mem_append.1 hl with hl | hl
    · rw [hfresh l.bay (hb l hl)]
      exact h.called l hl
    · obtain rfl := List.mem_singleton.1 hl
      refine ⟨hconsiders, ?_⟩
      rw [hcall.bays, perBay_get_self]
      rfl
  · rw [List.map_append, List.nodup_append]
    refine ⟨h.nodup, List.nodup_singleton _, fun c hc d hd he => ?_⟩
    obtain ⟨l, hl, rfl⟩ := List.mem_map.1 hc
    have hdb : d = b := List.mem_singleton.1 hd
    exact hb l hl (he.trans hdb)
  · rw [hcall.lines, List.length_append]
    exact hmay.1
  · rw [hcall.rest, h.rest]

/-- The walk over bays of which no line has been added yet. -/
theorem State.PassedOn.walkBays (l : List Bay) (hl : l.Nodup) (hphase : s.part.phase = .running) (h : s.PassedOn t added)
    (hnew : ∀ c ∈ added, c.bay ∉ l) : ∃ more, s.PassedOn (State.walkBays l t) more := by
  induction l generalizing t added with
  | nil => exact ⟨added, h⟩
  | cons b l ih =>
    obtain ⟨hb, hl⟩ := List.nodup_cons.1 hl
    have hlater : ∀ c ∈ added, c.bay ∉ l := fun c hc hm => hnew c hc (List.mem_cons_of_mem _ hm)
    obtain ⟨hchosen, hvisit⟩ := h.choose (b := b)
    unfold State.walkBays
    split
    next hcons =>
      dsimp only
      split
      next => exact ih hl hchosen hlater
      next v hv =>
        obtain ⟨hkin, hcall⟩ := hvisit v hv
        split
        next => exact ih hl hchosen hlater
        next x _ =>
          split
          next hmay =>
            have hsame : (t.choose b).1.considers b = true := by
              rw [choose_eq]
              exact hcons
            refine ih hl (hchosen.callVisit hphase hkin hcall (fun c hc he => hnew c hc (he ▸ List.mem_cons_self)) hsame
              ((mayCall_iff _).1 hmay)) fun c hc hm => ?_
            rcases List.mem_append.1 hc with hc | hc
            · exact hlater c hc hm
            · obtain rfl := List.mem_singleton.1 hc
              exact hb hm
          next => exact ⟨added, hchosen⟩
    next => exact ih hl h hlater

/-! ### Any pass -/

theorem dispatchPass_passedOn (hphase : s.part.phase = .running) : ∃ added, s.PassedOn s.dispatchPass added := by
  unfold State.dispatchPass
  split
  · exact ((passedOn_start s).evaluate s.queue fun v hv => kin_of_mem hv).walkBays allBays allBays_nodup hphase nofun
  next h => exact ⟨[], passedOn_same fun _ => Bool.not_eq_true _ ▸ h⟩

/-- The sign judged at the end of a step. -/
theorem State.PassedOn.settled (h : s.PassedOn t added) : s.PassedOn (s.settleSign t) added := by
  obtain ⟨d, ht, hd⟩ := settleSign_frame s t
  rw [ht]
  have hlines : d.lines = t.disp.lines := by rw [hd]
  have hmark : d.mark = t.disp.mark := by rw [hd]
  have hlast : d.lastHaulier = t.disp.lastHaulier := by rw [hd]
  have hrun : d.run = t.disp.run := by rw [hd]
  refine ⟨hlines.trans h.lines, h.journal, h.numbers, h.visits, h.others, h.called, h.nodup, fun hs => ?_,
    fun hs => hmark.trans (h.mark hs), fun ha => ?_, h.low, h.keeps, h.ports, ?_⟩
  · rw [hlines]
    exact h.room hs
  · obtain ⟨hj, hl, hlast', hrun'⟩ := h.still ha
    exact ⟨hj, hl, hlast.trans hlast', hrun.trans hrun'⟩
  · exact congrArg (fun z : State => { z with disp := d }) h.rest

/-- A bay has turned to CALLED exactly if a line has been added for it. -/
theorem State.PassedOn.turned (h : s.PassedOn t added) (b : Bay) :
    (t.bays.get b).state = .called ∧ (s.bays.get b).state ≠ .called ↔ b ∈ added.map (·.bay) := by
  constructor
  · intro hb
    by_contra hmem
    rw [h.others b fun l hl he => hmem (List.mem_map.2 ⟨l, hl, he⟩)] at hb
    exact hb.2 hb.1
  · intro hmem
    obtain ⟨l, hl, rfl⟩ := List.mem_map.1 hmem
    obtain ⟨hconsiders, hcalled⟩ := h.called l hl
    refine ⟨hcalled, fun hs => ?_⟩
    rw [State.considers, hs] at hconsiders
    simp at hconsiders

theorem perBay_ext {α : Type} {y z : PerBay α} (h : ∀ b, y.get b = z.get b) : y = z := by
  cases y
  cases z
  exact PerBay.mk.injEq .. ▸ ⟨h .b1, h .b2, h .b3, h .b4, h .b5, h .b6⟩

theorem countP_mem {l : List Bay} (hl : l.Nodup) : allBays.countP (fun b => decide (b ∈ l)) = l.length := by
  rw [List.countP_eq_length_filter]
  refine List.Perm.length_eq ((List.perm_ext_iff_of_nodup (allBays_nodup.filter _) hl).2 fun b => ?_)
  simp [mem_allBays]

/-- Settles O30: a pass writes holds of visits without a call and calls visits to bays it considers, and nothing else. -/
theorem dispatchPassFrame : Obligations.DispatchPassFrame := by
  intro s t added hlen hexec hadded
  obtain ⟨more, hpass⟩ : ∃ more, s.PassedOn t more := by
    rw [exec_dispatchPass, State.event] at hexec
    obtain rfl := Host.Outcome.next.inj hexec
    split
    next hrun =>
      obtain ⟨more, hmore⟩ := dispatchPass_passedOn (running_iff.1 hrun)
      exact ⟨more, hmore.settled⟩
    next hrun => exact ⟨[], passedOn_same fun h => absurd (running_iff.2 h) hrun⟩
  have hmore : added = more := by rw [hadded, hpass.lines, List.drop_left]
  subst hmore
  have hnew : t.disp.lines = s.disp.lines ↔ added = [] := by
    rw [hpass.lines]
    exact List.append_right_eq_self
  have hcount : t.disp.lines.length - s.disp.lines.length = added.length := by
    rw [hpass.lines, List.length_append, Nat.add_sub_cancel_left]
  refine ⟨hpass.room hlen, ⟨added, hpass.lines.symm⟩, by rw [hcount]; exact hpass.journal, hpass.numbers, hpass.visits,
    fun b => ?_, hpass.called, hpass.nodup, ?_, fun h => ?_, fun h => hpass.low fun ha => h (hnew.2 ha), hpass.mark, hpass.ports,
    fun p k hk hl => hpass.keeps k hk hl p, hpass.rest⟩
  · by_cases hb : b ∈ added.map (·.bay)
    · obtain ⟨l, hl, rfl⟩ := List.mem_map.1 hb
      obtain ⟨hconsiders, hcalled⟩ := hpass.called l hl
      exact .inr ⟨hconsiders, hcalled, l, hl, rfl⟩
    · exact .inl (hpass.others b fun l hl he => hb (List.mem_map.2 ⟨l, hl, he⟩))
  · simp only [hpass.turned]
    rw [countP_mem hpass.nodup, List.length_map]
  · have ha := hnew.1 h
    obtain ⟨hj, hlow, hlast, hrun⟩ := hpass.still ha
    exact ⟨perBay_ext fun b => hpass.others b (by rw [ha]; nofun), hj, hlow, hlast, hrun⟩

end Sys2Proof.Machine
end

section
/-! The dispatch pass by its holds and calls (R60 to R67): the account holds written, the visit chosen for a bay, and the
call made of it. -/

namespace Sys2Proof.Machine

variable {s t u : State} {b c : Bay} {v w y : Visit} {x : VisitTerms} {l : List Visit} {h : Haulier} {r : HoldReason}

/-! ### What the credit of a haulier rests on (R61) -/

/-- The bay a visit is called to, and its haulier: what the committed amounts read of it. -/
def Visit.claimant (v : Visit) : Option Bay × Option Haulier := (v.call, v.haulier)

theorem calledTo_haulier (s : State) (b : Bay) : (s.calledTo b).bind (·.haulier) =
    ((s.queue.map Visit.claimant).find? fun z => z.1 == some b).bind (·.2) := by
  rw [List.find?_map]
  unfold State.calledTo
  cases hf : s.queue.find? fun v => v.call == some b with
  | none =>
    have hf' : s.queue.find? ((fun z : Option Bay × Option Haulier => z.1 == some b) ∘ Visit.claimant) = none := hf
    rw [hf']
    rfl
  | some y =>
    have hf' : s.queue.find? ((fun z : Option Bay × Option Haulier => z.1 == some b) ∘ Visit.claimant) = some y := hf
    rw [hf']
    rfl

/-- Two states in which every haulier stands alike. -/
structure State.SameAccounts (s u : State) : Prop where
  hauliers : u.hauliers = s.hauliers
  active : u.active = s.active
  balances : u.journal.balances = s.journal.balances
  committed : ∀ h, u.committed h = s.committed h

theorem bayHaulier_congr (hb : u.bays.get b = s.bays.get b)
    (hcall : (u.calledTo b).bind (·.haulier) = (s.calledTo b).bind (·.haulier)) : u.bayHaulier b = s.bayHaulier b := by
  unfold State.bayHaulier State.record
  rw [hb, hcall]

theorem committed_congr (hb : u.bays = s.bays) (hq : u.queue.map Visit.claimant = s.queue.map Visit.claimant) (h : Haulier) :
    u.committed h = s.committed h := by
  unfold State.committed State.snapshotPrice State.record
  refine congrArg List.sum (List.map_congr_left fun b _ => ?_)
  have hsame : u.bayHaulier b = s.bayHaulier b :=
    bayHaulier_congr (by rw [hb]) (by rw [calledTo_haulier, calledTo_haulier, hq])
  rw [hsame, hb]

theorem State.SameAccounts.refl (s : State) : s.SameAccounts s := ⟨rfl, rfl, rfl, fun _ => rfl⟩

theorem State.SameAccounts.creditOk (ha : s.SameAccounts u) (h : Haulier) (n : Nat) : u.creditOk h n = s.creditOk h n := by
  unfold State.creditOk
  rw [ha.hauliers, ha.balances, ha.committed]

theorem State.SameAccounts.accountHold (ha : s.SameAccounts u) (v : Visit) : u.accountHold v = s.accountHold v := by
  unfold State.accountHold
  simp only [ha.hauliers, ha.active, ha.creditOk]

theorem State.SameAccounts.visitCredit (ha : s.SameAccounts u) (v : Visit) : u.visitCredit v = s.visitCredit v := by
  unfold State.visitCredit
  simp only [ha.active, ha.creditOk]

theorem fitsBay_congr (hh : u.hauliers = s.hauliers) (ha : u.active = s.active) (b : Bay) (v : Visit) :
    u.fitsBay b v = s.fitsBay b v := by
  unfold State.fitsBay
  rw [hh, ha]

/-! ### The account holds (R60) -/

/-- A queued visit as the evaluation at the start of a pass leaves it. -/
def State.heldBy (s : State) (v : Visit) : Visit :=
  if v.evaluated then { v with hold := s.accountHold v } else v

theorem heldBy_eq (s : State) (v : Visit) : s.heldBy v = { v with hold := (s.heldBy v).hold } := by
  unfold State.heldBy
  split <;> rfl

theorem heldBy_number (s : State) (v : Visit) : (s.heldBy v).number = v.number := by rw [heldBy_eq]

theorem heldBy_claimant (s : State) (v : Visit) : (s.heldBy v).claimant = v.claimant := by rw [heldBy_eq]; rfl

theorem fitsBay_heldBy (s : State) (b : Bay) (v : Visit) : s.fitsBay b (s.heldBy v) = s.fitsBay b v := by
  rw [heldBy_eq]
  rfl

theorem visitCredit_heldBy (s : State) (v : Visit) : s.visitCredit (s.heldBy v) = s.visitCredit v := by
  rw [heldBy_eq]
  rfl

/-- A visit put in its place leaves the visits of other numbers. -/
theorem map_put_other {n : Nat} (hl : ∀ y ∈ l, y.number ≠ n) : l.map (fun y => if y.number = n then v else y) = l := by
  refine (List.map_congr_left fun y hy => ?_).trans (List.map_id _)
  rw [if_neg (hl y hy)]
  rfl

/-- The evaluation from some place of the queue on. -/
theorem evaluate_from (done rest : List Visit) (hn : ((done ++ rest).map (·.number)).Nodup) (hs : s.queue = done ++ rest)
    (hu : u = { s with queue := u.queue, links := u.links }) (hq : u.queue = done.map s.heldBy ++ rest) :
    (rest.foldl (fun s v => if v.evaluated then s.writeHold v (s.accountHold v) else s) u).queue = s.queue.map s.heldBy := by
  induction rest generalizing done u with
  | nil =>
    rw [List.foldl_nil, hq, hs, List.append_nil, List.append_nil]
  | cons v rest ih =>
    have hclaims : u.queue.map Visit.claimant = s.queue.map Visit.claimant := by
      rw [hq, hs, List.map_append, List.map_append, List.map_map]
      exact congrArg (· ++ _) (List.map_congr_left fun y _ => heldBy_claimant s y)
    have haccounts : s.SameAccounts u :=
      ⟨by rw [hu], by rw [hu], by rw [hu], committed_congr (by rw [hu]) hclaims⟩
    have hdistinct : (∀ y ∈ done, y.number ≠ v.number) ∧ ∀ y ∈ rest, v.number ≠ y.number := by
      rw [List.map_append, List.nodup_append, List.map_cons, List.nodup_cons] at hn
      obtain ⟨_, ⟨hv, _⟩, hbefore⟩ := hn
      exact ⟨fun y hy => hbefore _ (List.mem_map_of_mem hy) _ List.mem_cons_self,
        fun y hy he => hv (he ▸ List.mem_map_of_mem hy)⟩
    have hsplit : done ++ v :: rest = (done ++ [v]) ++ rest := (List.append_assoc done [v] rest).symm
    rw [List.foldl_cons]
    refine ih (done ++ [v]) (by rw [← hsplit]; exact hn) (hs.trans hsplit) ?_ ?_
    · split
      · rw [writeHold_eq, hu]
      · exact hu
    · rw [List.map_append, List.map_singleton, List.append_assoc, List.singleton_append]
      by_cases hv : v.evaluated = true
      · rw [if_pos hv, haccounts.accountHold, writeHold_queue, hq, List.map_append, List.map_cons, if_pos rfl, State.heldBy,
          if_pos hv, map_put_other, map_put_other]
        · exact fun y hy => (hdistinct.2 y hy).symm
        · intro y hy
          obtain ⟨z, hz, rfl⟩ := List.mem_map.1 hy
          rw [heldBy_number]
          exact hdistinct.1 z hz
      · rw [if_neg hv, hq, State.heldBy, if_neg hv]

theorem evaluate_keeps (l : List Visit) (s : State) (hu : u =
      l.foldl (fun s v => if v.evaluated then s.writeHold v (s.accountHold v) else s) s) :
    u = { s with queue := u.queue, links := u.links } ∧ ∀ k, k ≠ .visitHeld → s.KeepsLatch u k := by
  induction l generalizing s with
  | nil =>
    subst hu
    exact ⟨rfl, fun k _ => .refl _ k⟩
  | cons v l ih =>
    rw [List.foldl_cons] at hu
    obtain ⟨hrest, hkeeps⟩ := ih _ hu
    by_cases hv : v.evaluated = true
    · rw [if_pos hv] at hrest hkeeps
      exact ⟨by rw [hrest, writeHold_eq], fun k hk => (writeHold_keepsLatch s v _ hk).trans (hkeeps k hk)⟩
    · rw [if_neg hv] at hrest hkeeps
      exact ⟨hrest, hkeeps⟩

/-! ### Eligibility (R62) -/

theorem evaluated_iff : v.evaluated = true ↔ v.call = none ∧ v.identHold = .noHold := by
  rw [Visit.evaluated, Bool.and_eq_true, Option.isNone_iff_eq_none, decide_eq_true_iff]

theorem fitsBay_iff : s.fitsBay b v = true ↔ v.evaluated = true ∧ ∃ x, v.terms = some x ∧
    s.hauliers[x.haulier].state = .opened ∧ s.active.basePrice x.programme x.cls ≠ 0 ∧ x.cls ≤ s.active.classLimit b := by
  rw [State.fitsBay, Bool.and_eq_true]
  cases v.terms with
  | none => simp
  | some x => simp [and_assoc]

theorem visitCredit_iff (hx : v.terms = some x) : s.visitCredit v = true ↔ s.hauliers[x.haulier].limit = 0 ∨
    s.journal.balances[x.haulier] + s.committed x.haulier + s.active.basePrice x.programme x.cls ≤
      s.hauliers[x.haulier].limit := by
  rw [State.visitCredit, hx]
  simp [State.creditOk]

theorem eligibleFor_iff : s.EligibleFor b v ↔ s.fitsBay b v = true ∧ s.visitCredit v = true := by
  constructor
  · rintro ⟨hcall, hident, x, hx, hopen, hprice, hclass, hcredit⟩
    exact ⟨fitsBay_iff.2 ⟨evaluated_iff.2 ⟨hcall, hident⟩, x, hx, hopen, hprice, hclass⟩, (visitCredit_iff hx).2 hcredit⟩
  · rintro ⟨hfits, hcredit⟩
    obtain ⟨hev, x, hx, hopen, hprice, hclass⟩ := fitsBay_iff.1 hfits
    obtain ⟨hcall, hident⟩ := evaluated_iff.1 hev
    exact ⟨hcall, hident, x, hx, hopen, hprice, hclass, (visitCredit_iff hx).1 hcredit⟩

/-- The account hold of a visit that fits some bay is what its credit says. -/
theorem accountHold_of_fits (hfits : s.fitsBay b v = true) :
    s.accountHold v = if s.visitCredit v then .noHold else .credit := by
  obtain ⟨_, x, hx, hopen, hprice, _⟩ := fitsBay_iff.1 hfits
  rw [State.accountHold, State.visitCredit, hx]
  dsimp only
  rw [if_neg fun h => h hopen, if_neg hprice]

theorem heldBy_of_fits (hfits : s.fitsBay b v = true) :
    s.heldBy v = { v with hold := if s.visitCredit v then .noHold else .credit } := by
  obtain ⟨hev, _⟩ := fitsBay_iff.1 hfits
  rw [State.heldBy, if_pos hev, accountHold_of_fits hfits]

/-- A pass that has written the account holds, and done no more. -/
structure State.HoldsWritten (s u : State) : Prop where
  queue : u.queue = s.queue.map s.heldBy
  rest : u = { s with queue := u.queue, disp := { s.disp with mark := false }, links := u.links }
  keeps : ∀ k, k ≠ .visitHeld → s.KeepsLatch u k

theorem holdsWritten (hn : (s.queue.map (·.number)).Nodup)
    (hu : u = (s.modDisp fun d => { d with mark := false }).evaluateHolds) : s.HoldsWritten u := by
  obtain ⟨hrest, hkeeps⟩ := evaluate_keeps s.queue (s.modDisp fun d => { d with mark := false }) hu
  refine ⟨?_, hrest, hkeeps⟩
  rw [hu]
  exact evaluate_from (s := s.modDisp fun d => { d with mark := false }) [] s.queue hn rfl rfl rfl

section
variable (hw : s.HoldsWritten u)
include hw

theorem State.HoldsWritten.numbers : u.queue.map (·.number) = s.queue.map (·.number) := by
  rw [hw.queue, List.map_map]
  exact List.map_congr_left fun y _ => heldBy_number s y

theorem State.HoldsWritten.accounts : s.SameAccounts u := by
  refine ⟨by rw [hw.rest], by rw [hw.rest], by rw [hw.rest], committed_congr (by rw [hw.rest]) ?_⟩
  rw [hw.queue, List.map_map]
  exact List.map_congr_left fun y _ => heldBy_claimant s y

theorem State.HoldsWritten.fitsBay (b : Bay) (v : Visit) : u.fitsBay b (s.heldBy v) = s.fitsBay b v := by
  rw [fitsBay_congr hw.accounts.hauliers hw.accounts.active, fitsBay_heldBy]

theorem State.HoldsWritten.visitCredit (v : Visit) : u.visitCredit (s.heldBy v) = s.visitCredit v := by
  rw [hw.accounts.visitCredit, visitCredit_heldBy]

end

/-! ### The choice for a bay (R62 to R64) -/

/-- A hold written again as it stands. -/
theorem writeHold_again (hn : (s.queue.map (·.number)).Nodup) (hv : v ∈ s.queue) (hr : v.hold = r) (hheld : r ≠ .noHold) :
    s.writeHold v r = s := by
  have hsame : ({ v with hold := r } : Visit) = v := by rw [← hr]
  have hput : s.putVisit v = s := by
    unfold State.putVisit
    have hqueue : (s.queue.map fun y => if y.number = v.number then v else y) = s.queue := by
      refine (List.map_congr_left fun y hy => ?_).trans (List.map_id _)
      split
      next he => exact (List.inj_on_of_nodup_map hn hy hv he).symm
      next => rfl
    rw [hqueue]
  rw [State.writeHold, hsame, hput, State.noteHeld, if_neg]
  rw [Visit.becameHeld, hr]
  simp [hheld]

/-- Every visit that fits a bay but for its credit has hold CREDIT already. -/
def State.Settled (s : State) (b : Bay) : Prop :=
  ∀ y ∈ s.queue, s.fitsBay b y = true → s.visitCredit y = false → y.hold = .credit

theorem State.HoldsWritten.settled (hw : s.HoldsWritten u) (b : Bay) : u.Settled b := fun y hy hfits hcredit => by
  rw [hw.queue] at hy
  obtain ⟨z, _, rfl⟩ := List.mem_map.1 hy
  rw [hw.fitsBay] at hfits
  rw [hw.visitCredit] at hcredit
  rw [heldBy_of_fits hfits, hcredit]
  rfl

theorem firstFitting_settled (hn : (s.queue.map (·.number)).Nodup) (hs : s.Settled b) (l : List Visit)
    (hl : ∀ y ∈ l, y ∈ s.queue) :
    State.firstFitting b l s = (s, l.find? fun y => s.fitsBay b y && s.visitCredit y) := by
  induction l with
  | nil => rfl
  | cons v l ih =>
    have hlater := ih fun y hy => hl y (List.mem_cons_of_mem _ hy)
    have hv := hl v List.mem_cons_self
    rw [State.firstFitting, List.find?_cons]
    cases hfits : s.fitsBay b v with
    | false => exact hlater
    | true =>
      cases hcredit : s.visitCredit v with
      | true => rfl
      | false =>
        rw [if_pos rfl, if_neg Bool.false_ne_true, writeHold_again hn hv (hs v hv hfits hcredit) nofun]
        exact hlater

/-- The visit chosen for a bay, if there is one, where no hold is to be written on the way. -/
def State.chosenFor (s : State) (b : Bay) : Option Visit :=
  (s.queue.find? fun y => s.fitsBay b y && s.visitCredit y).bind fun v =>
    if s.runReached v then
      ((s.queue.filter fun y => y.haulier ≠ v.haulier).find? fun y => s.fitsBay b y && s.visitCredit y).or (some v)
    else some v

theorem choose_settled (hn : (s.queue.map (·.number)).Nodup) (hs : s.Settled b) : s.choose b = (s, s.chosenFor b) := by
  unfold State.choose State.chosenFor
  rw [firstFitting_settled hn hs s.queue fun _ hy => hy]
  dsimp only
  cases s.queue.find? fun y => s.fitsBay b y && s.visitCredit y with
  | none => rfl
  | some v =>
    dsimp only [Option.bind_some]
    split
    · rw [firstFitting_settled hn hs _ fun y hy => (List.mem_filter.1 hy).1]
    · rfl

theorem chosenFor_none (h : ∀ y ∈ s.queue, s.fitsBay b y = true → s.visitCredit y = false) : s.chosenFor b = none := by
  have hnone : (s.queue.find? fun y => s.fitsBay b y && s.visitCredit y) = none := List.find?_eq_none.2 fun y hy => by
    cases hf : s.fitsBay b y with
    | false => simp
    | true => simp [h y hy hf]
  rw [State.chosenFor, hnone]
  rfl

/-! ### The walk over the bays (R63, R65) -/

/-- Bays that call nobody: none considered has a visit to call, or the call conditions fail. -/
theorem walkBays_still (hn : (s.queue.map (·.number)).Nodup) (l : List Bay)
    (hl : ∀ c ∈ l, s.considers c = true → s.Settled c ∧ (s.chosenFor c = none ∨ ¬ s.MayCall)) :
    State.walkBays l s = s := by
  induction l with
  | nil => rfl
  | cons b l ih =>
    have hlater := ih fun c hc => hl c (List.mem_cons_of_mem _ hc)
    rw [State.walkBays]
    split
    next hcons =>
      obtain ⟨hsettled, hstay⟩ := hl b List.mem_cons_self hcons
      rw [choose_settled hn hsettled]
      dsimp only
      cases hchosen : s.chosenFor b with
      | none => exact hlater
      | some v =>
        have hno : ¬ s.MayCall := hstay.resolve_left (by rw [hchosen]; nofun)
        dsimp only
        split
        · exact hlater
        · exact if_neg fun h => hno ((mayCall_iff s).1 h)
    next => exact hlater

/-- Bays before the next call. -/
theorem walkBays_pass (hn : (s.queue.map (·.number)).Nodup) (l l' : List Bay)
    (hl : ∀ c ∈ l, s.considers c = true → s.Settled c ∧ s.chosenFor c = none) :
    State.walkBays (l ++ l') s = State.walkBays l' s := by
  induction l with
  | nil => rfl
  | cons b l ih =>
    have hlater := ih fun c hc => hl c (List.mem_cons_of_mem _ hc)
    rw [List.cons_append, State.walkBays]
    split
    next hcons =>
      obtain ⟨hsettled, hnone⟩ := hl b List.mem_cons_self hcons
      rw [choose_settled hn hsettled, hnone]
      exact hlater
    next => exact hlater

/-- A bay that calls its visit, and the bays after it. -/
theorem walkBays_call (hn : (s.queue.map (·.number)).Nodup) (l : List Bay) (hcons : s.considers b = true)
    (hsettled : s.Settled b) (hchosen : s.chosenFor b = some v) (hx : v.terms = some x) (hmay : s.MayCall) :
    State.walkBays (b :: l) s = State.walkBays l (s.callVisit b v x) := by
  rw [State.walkBays, if_pos hcons, choose_settled hn hsettled, hchosen]
  dsimp only
  rw [hx]
  exact if_pos ((mayCall_iff s).2 hmay)

/-! ### The choice as the pass finds it (R63, R64) -/

theorem runReached_iff : s.runReached v = true ↔ s.GivesWay v := by
  unfold State.runReached State.GivesWay
  cases v.haulier with
  | none => simp
  | some h =>
    cases hl : s.disp.lastHaulier with
    | none => simp
    | some last =>
      simp only [Bool.and_eq_true, decide_eq_true_eq, Option.mem_def, Option.some.injEq, exists_eq_left', and_assoc, ne_eq]
      rw [eq_comm (a := last)]

theorem find?_of_firstOf {P : Visit → Prop} {p : Visit → Bool} (hp : ∀ y, p y = true ↔ P y) (h : FirstOf l P v) :
    l.find? p = some v := by
  obtain ⟨a, z, rfl, hv, ha⟩ := h
  rw [List.find?_append, List.find?_eq_none.2 fun y hy => fun hpy => ha y hy ((hp y).1 hpy), Option.none_or,
    List.find?_cons_of_pos ((hp v).2 hv)]

section
variable (hw : s.HoldsWritten u)
include hw

theorem State.HoldsWritten.eligible (b : Bay) (v : Visit) :
    (u.fitsBay b (s.heldBy v) && u.visitCredit (s.heldBy v)) = true ↔ s.EligibleFor b v := by
  rw [Bool.and_eq_true, hw.fitsBay, hw.visitCredit, eligibleFor_iff]

theorem State.HoldsWritten.runReached (v : Visit) : u.runReached (s.heldBy v) = true ↔ s.GivesWay v := by
  have hlast : u.disp.lastHaulier = s.disp.lastHaulier := by rw [hw.rest]
  have hrun : u.disp.run = s.disp.run := by rw [hw.rest]
  have hsame : u.runReached (s.heldBy v) = s.runReached v := by
    rw [heldBy_eq, State.runReached, State.runReached, hlast, hrun, hw.accounts.hauliers]
  rw [hsame, runReached_iff]

theorem State.HoldsWritten.chosenFor_none (h : ∀ y ∈ s.queue, ¬ s.EligibleFor b y) : u.chosenFor b = none := by
  refine Machine.chosenFor_none fun y hy hfits => ?_
  rw [hw.queue] at hy
  obtain ⟨z, hz, rfl⟩ := List.mem_map.1 hy
  by_contra hcredit
  exact h z hz ((hw.eligible b z).1 (by rw [hfits, (Bool.not_eq_false _).mp hcredit]; rfl))

/-- A search through the holds written finds what it finds without them. -/
theorem State.HoldsWritten.find {P : Visit → Prop} {p : Visit → Bool} (hp : ∀ y, p (s.heldBy y) = true ↔ P y)
    (h : FirstOf s.queue P v) : u.queue.find? p = some (s.heldBy v) := by
  rw [hw.queue, List.find?_map, find?_of_firstOf (p := p ∘ s.heldBy) hp h]
  rfl

theorem State.HoldsWritten.chosenFor (h : s.Chosen b v) : u.chosenFor b = some (s.heldBy v) := by
  obtain ⟨w, hfirst, hchoice⟩ := h
  have hhaulier : ∀ y, (s.heldBy y).haulier = y.haulier := fun y => by rw [heldBy_eq]
  rw [State.chosenFor, hw.find (hw.eligible b) hfirst, Option.bind_some, hhaulier]
  rcases hchoice with ⟨hstay, rfl⟩ | ⟨hway, hother⟩ | ⟨hway, rfl, hsame⟩
  · rw [if_neg fun hr => hstay ((hw.runReached v).1 hr)]
  · rw [if_pos ((hw.runReached w).2 hway), List.find?_filter, hw.find (fun y => ?_) hother]
    · rfl
    · rw [decide_eq_true_iff, decide_eq_true_iff, hw.eligible, hhaulier]
      exact and_comm
  · rw [if_pos ((hw.runReached v).2 hway), List.find?_filter, List.find?_eq_none.2]
    · rfl
    · intro y hy
      rw [hw.queue] at hy
      obtain ⟨z, hz, rfl⟩ := List.mem_map.1 hy
      rw [decide_eq_true_iff, decide_eq_true_iff, hw.eligible, hhaulier]
      exact fun h => h.1 (hsame z hz h.2)

end

end Sys2Proof.Machine
end

section
/-! The dispatch pass that calls at most one visit (R60 to R67). -/

namespace Sys2Proof.Machine

variable {s t u : State} {b c : Bay} {v w y : Visit} {x : VisitTerms} {l : List Visit} {h : Haulier} {held : Visit → Visit}

/-! ### What the holds written leave as it was -/

section
variable (hw : s.HoldsWritten u)
include hw

theorem State.HoldsWritten.mayCall : u.MayCall ↔ s.MayCall := by
  have hlines : u.disp.lines = s.disp.lines := by rw [hw.rest]
  have hjournal : u.journal = s.journal := by rw [hw.rest]
  rw [State.MayCall, hlines, hjournal]
  rfl

theorem State.HoldsWritten.considers (c : Bay) : u.considers c = s.considers c := by
  rw [hw.rest]
  rfl

theorem State.HoldsWritten.calledBay (b : Bay) (x : VisitTerms) : u.CalledBay b x = s.CalledBay b x := by
  rw [hw.rest]
  rfl

theorem State.HoldsWritten.sameSign : s.SameSign u := by
  have hlength : u.queue.length = s.queue.length := by rw [hw.queue, List.length_map]
  refine ⟨by rw [hw.rest], by rw [hw.rest], ?_⟩
  unfold State.signStatus
  rw [hlength, hw.rest]

theorem State.HoldsWritten.nodup (hn : (s.queue.map (·.number)).Nodup) : (u.queue.map (·.number)).Nodup := by
  rw [hw.numbers]
  exact hn

end

/-- An eligible visit keeps, or gets, hold NONE. -/
theorem heldBy_of_eligible (h : s.EligibleFor b v) : s.heldBy v = { v with hold := .noHold } := by
  obtain ⟨hfits, hcredit⟩ := eligibleFor_iff.1 h
  rw [heldBy_of_fits hfits, if_pos hcredit]

/-- A visit that fits a bay and is not eligible fails its credit check. -/
theorem credit_of_not_eligible (hfits : s.fitsBay b v = true) (h : ¬ s.EligibleFor b v) : s.visitCredit v = false := by
  by_contra hcredit
  exact h (eligibleFor_iff.2 ⟨hfits, (Bool.not_eq_false _).mp hcredit⟩)

theorem idle_of_considers (h : s.considers b = true) : (s.bays.get b).state = .idle := by
  rw [State.considers, Bool.and_eq_true, Bool.and_eq_true, decide_eq_true_iff] at h
  obtain ⟨⟨_, hidle⟩, _⟩ := h
  exact hidle

/-! ### A pass as a walk (R63) -/

theorem dispatchPass_walk (hmark : s.disp.mark = true)
    (hu : u = (s.modDisp fun d => { d with mark := false }).evaluateHolds) : s.dispatchPass = State.walkBays allBays u := by
  rw [State.dispatchPass, if_pos hmark, hu]

/-- A pass that calls nobody. -/
theorem dispatchPass_still (hmark : s.disp.mark = true) (hn : (s.queue.map (·.number)).Nodup)
    (h : (∀ b, s.considers b = true → ∀ v ∈ s.queue, ¬ s.EligibleFor b v) ∨ ¬ s.MayCall) :
    s.HoldsWritten s.dispatchPass := by
  obtain ⟨u, hu⟩ : ∃ u, u = (s.modDisp fun d => { d with mark := false }).evaluateHolds := ⟨_, rfl⟩
  have hw := holdsWritten hn hu
  rw [dispatchPass_walk hmark hu, walkBays_still (hw.nodup hn) allBays fun c _ hcons => ⟨hw.settled c, ?_⟩]
  · exact hw
  · rw [hw.considers] at hcons
    exact h.imp (fun hnone => hw.chosenFor_none (hnone c hcons)) (mt hw.mayCall.1)

/-! ### The state after a call -/

section
variable (hcall : u.Called t b v x)
include hcall

theorem State.Called.numbers : t.queue.map (·.number) = u.queue.map (·.number) := by
  rw [hcall.queue, List.map_map]
  refine List.map_congr_left fun y _ => ?_
  dsimp only [Function.comp]
  split
  next he => exact he.symm
  next => rfl

theorem State.Called.other_bay (hc : c ≠ b) : t.bays.get c = u.bays.get c := by
  rw [hcall.bays]
  exact perBay_get_other _ _ hc

theorem State.Called.considers_other (hc : c ≠ b) : t.considers c = u.considers c := by
  have hwater : t.water = u.water := by rw [hcall.rest]
  have hlines : t.lines = u.lines := by rw [hcall.rest]
  rw [State.considers, State.bayIsOpen, hwater, hlines, hcall.other_bay hc]
  rfl

theorem State.Called.considers (hcons : t.considers c = true) : c ≠ b ∧ u.considers c = true := by
  have hcb : c ≠ b := by
    rintro rfl
    have hidle := idle_of_considers hcons
    rw [hcall.bays, perBay_get_self] at hidle
    exact BayState.noConfusion hidle
  exact ⟨hcb, hcall.considers_other hcb ▸ hcons⟩

/-- The visits other bays call are called by them still. -/
theorem State.Called.calledTo_other (hn : (u.queue.map (·.number)).Nodup) (hv : v ∈ u.queue) (hnone : v.call = none)
    (hc : c ≠ b) : t.calledTo c = u.calledTo c := by
  have hsame : ∀ y ∈ u.queue, (((if y.number = v.number then { v with call := some b } else y).call == some c) : Bool) =
      (y.call == some c) := by
    intro y hy
    split
    next he =>
      obtain rfl := List.inj_on_of_nodup_map hn hy hv he
      have hbc : (some b == some c) = false := by simp [hc.symm]
      rw [hnone]
      exact hbc
    next => rfl
  unfold State.calledTo
  rw [hcall.queue, List.find?_map]
  have hfind : u.queue.find? ((fun z : Visit => z.call == some c) ∘ fun y =>
      if y.number = v.number then { v with call := some b } else y) = u.queue.find? fun y => y.call == some c :=
    List.find?_congr hsame
  rw [hfind]
  cases hf : u.queue.find? fun y => y.call == some c with
  | none => rfl
  | some y =>
    have hy := List.mem_of_find?_eq_some hf
    have hyc : (y.call == some c) = true := List.find?_some (p := fun y : Visit => y.call == some c) hf
    rw [Option.map_some, if_neg]
    intro he
    obtain rfl := List.inj_on_of_nodup_map hn hy hv he
    rw [hnone] at hyc
    exact Bool.noConfusion hyc

theorem State.Called.bayHaulier_other (hn : (u.queue.map (·.number)).Nodup) (hv : v ∈ u.queue) (hnone : v.call = none)
    (hc : c ≠ b) : t.bayHaulier c = u.bayHaulier c ∧ t.snapshotPrice c = u.snapshotPrice c := by
  refine ⟨bayHaulier_congr (hcall.other_bay hc) (by rw [hcall.calledTo_other hn hv hnone hc]), ?_⟩
  rw [State.snapshotPrice, State.record, hcall.other_bay hc]
  rfl

/-- A call to an idle bay lowers no committed amount. -/
theorem State.Called.committed_le (hn : (u.queue.map (·.number)).Nodup) (hv : v ∈ u.queue) (hnone : v.call = none)
    (hidle : (u.bays.get b).state = .idle) (h : Haulier) : u.committed h ≤ t.committed h := by
  refine List.sum_le_sum fun c _ => ?_
  by_cases hcb : c = b
  · have hb : u.bayHaulier c = none := by rw [hcb, State.bayHaulier, hidle]
    rw [hb, if_neg nofun]
    exact Nat.zero_le _
  · obtain ⟨hhaulier, hprice⟩ := hcall.bayHaulier_other hn hv hnone hcb
    rw [hhaulier, hprice]

/-- A credit check that failed before a call fails after it. -/
theorem State.Called.credit_fails (hle : ∀ h, u.committed h ≤ t.committed h) (hy : u.visitCredit y = false) :
    t.visitCredit y = false := by
  cases hx : y.terms with
  | none =>
    rw [State.visitCredit, hx]
  | some z =>
    rw [← Bool.not_eq_true, visitCredit_iff hx] at hy ⊢
    have hhauliers : t.hauliers = u.hauliers := by rw [hcall.rest]
    have hactive : t.active = u.active := by rw [hcall.rest]
    have hbalances : t.journal.balances = u.journal.balances := by rw [hcall.journal]
    have hmore := hle z.haulier
    rw [hhauliers, hactive, hbalances]
    rintro (hlimit | hfits)
    · exact hy (.inl hlimit)
    · exact hy (.inr (by omega))

end

/-! ### One call -/

/-- After the only call of a pass no visit is left for a bay that is still considered. -/
theorem nothing_after_call (hw : s.HoldsWritten u) (hn : (s.queue.map (·.number)).Nodup) (hv : v ∈ s.queue)
    (hel : s.EligibleFor b v) (hcall : u.Called t b (s.heldBy v) x) (hidle : (u.bays.get b).state = .idle)
    (hc : ∀ y ∈ s.queue, y.number ≠ v.number → ¬ s.EligibleFor c y) : t.Settled c ∧ t.chosenFor c = none := by
  have hun := hw.nodup hn
  have hheld : s.heldBy v ∈ u.queue := by
    rw [hw.queue]
    exact List.mem_map_of_mem hv
  have hnone : (s.heldBy v).call = none := by
    obtain ⟨hcall, _⟩ := hel
    rw [heldBy_eq]
    exact hcall
  have hle := hcall.committed_le hun hheld hnone hidle
  have hfail : ∀ y ∈ t.queue, t.fitsBay c y = true → t.visitCredit y = false ∧ y.hold = .credit := by
    intro y hy hfits
    have hcallnone := call_of_fitsBay hfits
    rw [hcall.queue] at hy
    obtain ⟨z, hz, rfl⟩ := List.mem_map.1 hy
    by_cases he : z.number = (s.heldBy v).number
    · rw [if_pos he] at hcallnone
      exact nomatch hcallnone
    · rw [if_neg he] at hfits ⊢
      rw [hw.queue] at hz
      obtain ⟨z, hmem, rfl⟩ := List.mem_map.1 hz
      rw [heldBy_number, heldBy_number] at he
      rw [fitsBay_congr (s := u) (by rw [hcall.rest]) (by rw [hcall.rest]), hw.fitsBay] at hfits
      have hcredit := credit_of_not_eligible hfits (hc z hmem he)
      refine ⟨hcall.credit_fails hle (by rw [hw.visitCredit]; exact hcredit), ?_⟩
      rw [heldBy_of_fits hfits, hcredit]
      rfl
  refine ⟨fun y hy hfits _ => (hfail y hy hfits).2, Machine.chosenFor_none fun y hy hfits => (hfail y hy hfits).1⟩

/-- The bays of a list before and after one of them. -/
theorem allBays_split (b : Bay) : ∃ l l', allBays = l ++ b :: l' ∧ (∀ c ∈ l, bayNumber c < bayNumber b) ∧
    ∀ c ∈ l', bayNumber b < bayNumber c := by
  obtain ⟨l, l', hsplit⟩ := List.append_of_mem (mem_allBays b)
  have hasc := allBays_ascending
  rw [hsplit, List.pairwise_append, List.pairwise_cons] at hasc
  obtain ⟨_, ⟨hafter, _⟩, hbefore⟩ := hasc
  exact ⟨l, l', hsplit, fun c hc => hbefore c hc b List.mem_cons_self, hafter⟩

theorem chosen_eligible (h : s.Chosen b v) : v ∈ s.queue ∧ s.EligibleFor b v := by
  have hfirst : ∀ {P : Visit → Prop} {y : Visit}, FirstOf s.queue P y → y ∈ s.queue ∧ P y := by
    rintro P y ⟨a, z, hq, hy, _⟩
    exact ⟨by rw [hq]; simp, hy⟩
  obtain ⟨w, hw, ⟨_, rfl⟩ | ⟨_, hother⟩ | ⟨_, rfl, _⟩⟩ := h
  · exact hfirst hw
  · obtain ⟨hv, hel, _⟩ := hfirst hother
    exact ⟨hv, hel⟩
  · exact hfirst hw

/-- A pass that calls the visit chosen for the one bay that has an eligible visit. -/
theorem dispatchPass_call (hmark : s.disp.mark = true) (hn : (s.queue.map (·.number)).Nodup) (hcons : s.considers b = true)
    (hv : s.Chosen b v) (hx : v.terms = some x) (hmay : s.MayCall)
    (hothers : ∀ c, s.considers c = true → c ≠ b → ∀ y ∈ s.queue,
      bayNumber c < bayNumber b ∨ y.number ≠ v.number → ¬ s.EligibleFor c y) :
    ∃ u, s.HoldsWritten u ∧ u.Called s.dispatchPass b (s.heldBy v) x := by
  obtain ⟨u, hu⟩ : ∃ u, u = (s.modDisp fun d => { d with mark := false }).evaluateHolds := ⟨_, rfl⟩
  have hw := holdsWritten hn hu
  obtain ⟨hmem, hel⟩ := chosen_eligible hv
  obtain ⟨l, l', hsplit, hbefore, hafter⟩ := allBays_split b
  have hterms : (s.heldBy v).terms = some x := by
    rw [heldBy_eq]
    exact hx
  obtain ⟨t, ht⟩ : ∃ t, t = u.callVisit b (s.heldBy v) x := ⟨_, rfl⟩
  have hcall := callVisit_done u b (s.heldBy v) x
  rw [← ht] at hcall
  have hidle : (u.bays.get b).state = .idle := idle_of_considers (by rw [hw.considers]; exact hcons)
  refine ⟨u, hw, ?_⟩
  rw [dispatchPass_walk hmark hu, hsplit, walkBays_pass (hw.nodup hn), walkBays_call (hw.nodup hn) l' (by rw [hw.considers]; exact hcons)
    (hw.settled b) (hw.chosenFor hv) hterms (hw.mayCall.2 hmay), ← ht, walkBays_still]
  · exact hcall
  · rw [hcall.numbers]
    exact hw.nodup hn
  · intro c hc hcc
    obtain ⟨hcb, hcc⟩ := hcall.considers hcc
    rw [hw.considers] at hcc
    exact (nothing_after_call hw hn hmem hel hcall hidle fun y hy hyv => hothers c hcc hcb y hy (.inr hyv)).imp_right .inl
  · intro c hc hcc
    rw [hw.considers] at hcc
    have hlt := hbefore c hc
    exact ⟨hw.settled c, hw.chosenFor_none fun y hy => hothers c hcc (by rintro rfl; exact Nat.lt_irrefl _ hlt) y hy (.inl hlt)⟩

/-! ### The step -/

/-- The holds that the statement names are those of the evaluation. -/
theorem heldBy_spelled (hheld : held = fun v => if v.call = none ∧ v.identHold = .noHold then
    { v with hold := s.accountHold v } else v) : held = s.heldBy := by
  funext v
  rw [hheld, State.heldBy]
  simp only [evaluated_iff]

theorem exec_dispatchPass_idle (hs : s.Running) (hmark : s.disp.mark = false) : exec .dispatchPass s = .next s :=
  event_eq (exec_dispatchPass s) hs (by rw [State.dispatchPass, hmark]; rfl) (.refl s)

theorem exec_dispatchPass_still (hs : s.Running) (hmark : s.disp.mark = true) (hn : (s.queue.map (·.number)).Nodup)
    (h : (∀ b, s.considers b = true → ∀ v ∈ s.queue, ¬ s.EligibleFor b v) ∨ ¬ s.MayCall) :
    ∃ t, exec .dispatchPass s = .next t ∧ s.HoldsWritten t :=
  have hw := dispatchPass_still hmark hn h
  ⟨_, event_eq (exec_dispatchPass s) hs rfl hw.sameSign, hw⟩

theorem State.Called.low_from (hcall : u.Called t b v x) (hw : s.HoldsWritten u) (hs : s.part.phase = .running)
    (d : Dispatcher) : s.LowJudged { t with disp := d } := by
  have hlow := hcall.low (by rw [hw.rest]; exact hs)
  refine hlow.congr (by rw [hw.rest]) (hw.keeps _ nofun) rfl (keepsLatch_of_links rfl _)

/-- The queue after the one call. -/
theorem State.Called.queue_from (hcall : u.Called t b (s.heldBy v) x) (hw : s.HoldsWritten u) (hel : s.EligibleFor b v) :
    t.queue = s.queue.map fun y => if y.number = v.number then { v with call := some b, hold := .noHold } else s.heldBy y := by
  rw [hcall.queue, hw.queue, List.map_map]
  refine List.map_congr_left fun y _ => ?_
  dsimp only [Function.comp]
  rw [heldBy_number, heldBy_number, heldBy_of_eligible hel]

/-- A pass with one call, step by step of its effects. -/
theorem exec_dispatchPass_call (hs : s.Running) (hmark : s.disp.mark = true) (hn : (s.queue.map (·.number)).Nodup)
    (hcons : s.considers b = true) (hv : s.Chosen b v) (hx : v.terms = some x) (hmay : s.MayCall)
    (hothers : ∀ c, s.considers c = true → c ≠ b → ∀ y ∈ s.queue,
      bayNumber c < bayNumber b ∨ y.number ≠ v.number → ¬ s.EligibleFor c y) :
    ∃ t, exec .dispatchPass s = .next t ∧
      t.queue = s.queue.map (fun y =>
        if y.number = v.number then { v with call := some b, hold := .noHold } else s.heldBy y) ∧
      t.journal = { s.journal with reserved := s.journal.reserved + 1, lowArmed := t.journal.lowArmed } ∧
      t.bays.get b = s.CalledBay b x ∧ (∀ c, c ≠ b → t.bays.get c = s.bays.get c) ∧
      t.disp.lines = s.disp.lines ++ [{ bay := b, visit := v.number }] ∧ t.disp.mark = false ∧
      t.disp.lastHaulier = some x.haulier ∧
      t.disp.run = (if s.disp.lastHaulier = some x.haulier then min 255 (s.disp.run + 1) else 1) ∧ s.LowJudged t ∧
      t = { s with queue := t.queue, bays := t.bays, journal := t.journal, disp := t.disp, links := t.links } := by
  obtain ⟨u, hw, hcall⟩ := dispatchPass_call hmark hn hcons hv hx hmay hothers
  obtain ⟨_, hel⟩ := chosen_eligible hv
  obtain ⟨t, ht⟩ : ∃ t, s.dispatchPass = t := ⟨_, rfl⟩
  rw [ht] at hcall
  obtain ⟨d, hexec, hd⟩ := event_settled (exec_dispatchPass s) hs ht
  have hlines : d.lines = t.disp.lines := by rw [hd]
  have hmk : d.mark = t.disp.mark := by rw [hd]
  have hlast : d.lastHaulier = t.disp.lastHaulier := by rw [hd]
  have hrun : d.run = t.disp.run := by rw [hd]
  have hud : u.disp = { s.disp with mark := false } := by rw [hw.rest]
  have hub : u.bays = s.bays := by rw [hw.rest]
  have huj : u.journal = s.journal := by rw [hw.rest]
  refine ⟨_, hexec, hcall.queue_from hw hel, ?_, ?_, fun c hc => ?_, ?_, ?_, ?_, ?_, hcall.low_from hw hs.1 d, ?_⟩
  · exact hcall.journal.trans (by rw [huj])
  · exact (by rw [hcall.bays, perBay_get_self, hw.calledBay] : t.bays.get b = s.CalledBay b x)
  · exact (hcall.other_bay hc).trans (by rw [hub])
  · refine hlines.trans (hcall.lines.trans ?_)
    rw [hud, heldBy_number]
  · exact hmk.trans (hcall.mark.trans (by rw [hud]))
  · exact hlast.trans hcall.haulier
  · refine hrun.trans (hcall.fair.trans ?_)
    rw [hud]
  · rw [hcall.rest, hw.rest]

end Sys2Proof.Machine
end

section
/-! The dispatch pass of two visits, each first for one of two bays (R60 to R67). -/

namespace Sys2Proof.Machine

variable {s t u z : State} {b c : Bay} {v w : Visit} {x y : VisitTerms} {l : List Bay} {h : Haulier}

/-! ### Two bays and two visits -/

/-- Two visits wait, and the only two bays a pass considers have each one of them eligible. -/
structure State.TwoBays (s : State) (v w : Visit) (x y : VisitTerms) (b c : Bay) : Prop where
  mark : s.disp.mark = true
  queue : s.queue = [v, w]
  numbers : v.number ≠ w.number
  order : bayNumber b < bayNumber c
  considered : ∀ d, s.considers d = true ↔ d = b ∨ d = c
  firstTerms : v.terms = some x
  secondTerms : w.terms = some y
  first : s.EligibleFor b v
  second : s.EligibleFor c w
  may : s.MayCall

theorem State.TwoBays.nodup (hp : s.TwoBays v w x y b c) : (s.queue.map (·.number)).Nodup := by
  rw [hp.queue]
  simpa using hp.numbers

theorem State.TwoBays.bays_ne (hp : s.TwoBays v w x y b c) : c ≠ b := fun h =>
  Nat.lt_irrefl (bayNumber b) (h ▸ hp.order)

/-- The visit at the head is chosen unless it gives way to the other. -/
theorem State.TwoBays.chosen (hp : s.TwoBays v w x y b c)
    (h : ¬ s.GivesWay v ∨ (s.EligibleFor b w → w.haulier = v.haulier)) : s.Chosen b v := by
  refine ⟨v, ⟨[], [w], hp.queue, hp.first, fun _ hy => absurd hy List.not_mem_nil⟩, ?_⟩
  by_cases hway : s.GivesWay v
  · refine .inr (.inr ⟨hway, rfl, fun q hq hel => ?_⟩)
    rw [hp.queue] at hq
    obtain rfl | hq := List.mem_cons.1 hq
    · rfl
    · obtain rfl := List.mem_singleton.1 hq
      exact h.resolve_left (fun hn => hn hway) hel
  · exact .inl ⟨hway, rfl⟩

theorem haulier_of_terms (h : v.terms = some x) : v.haulier = some x.haulier := by
  unfold Visit.terms at h
  split at h
  next hv _ _ =>
    obtain rfl := Option.some.inj h
    exact hv
  next => exact nomatch h

theorem allBays_split_two (h : bayNumber b < bayNumber c) : ∃ l m r, allBays = l ++ b :: (m ++ c :: r) ∧
    (∀ d ∈ l, d ≠ b ∧ d ≠ c) ∧ (∀ d ∈ m, d ≠ b ∧ d ≠ c) ∧ ∀ d ∈ r, d ≠ b ∧ d ≠ c := by
  obtain ⟨l, l', hb, hbefore, hafter⟩ := allBays_split b
  obtain ⟨k, r, hc, hbeforec, hafterc⟩ := allBays_split c
  have hne : ∀ {d e : Bay}, bayNumber d < bayNumber e → d ≠ e := fun hlt he => Nat.lt_irrefl _ (he ▸ hlt)
  have hmem : c ∈ l' := by
    have hall := mem_allBays c
    rw [hb] at hall
    rcases List.mem_append.1 hall with hl | hl
    · exact absurd (hbefore c hl) (Nat.lt_asymm h)
    · exact (List.mem_cons.1 hl).resolve_left (hne h).symm
  obtain ⟨m, r', hm⟩ := List.append_of_mem hmem
  have hasc := allBays_ascending
  rw [hb, hm, List.pairwise_append, List.pairwise_cons, List.pairwise_append, List.pairwise_cons] at hasc
  obtain ⟨_, ⟨_, _, ⟨hlater, _⟩, hmid⟩, _⟩ := hasc
  refine ⟨l, m, r', by rw [hb, hm], fun d hd => ⟨hne (hbefore d hd), hne ((hbefore d hd).trans h)⟩, fun d hd => ?_,
    fun d hd => ?_⟩
  · refine ⟨(hne (hafter d ?_)).symm, hne (hmid d hd c List.mem_cons_self)⟩
    rw [hm]
    exact List.mem_append_left _ hd
  · refine ⟨(hne (hafter d ?_)).symm, (hne (hlater d hd)).symm⟩
    rw [hm]
    exact List.mem_append_right _ (List.mem_cons_of_mem _ hd)

/-- Bays that are not considered are passed over. -/
theorem walkBays_unconsidered (l l' : List Bay) (h : ∀ d ∈ l, s.considers d ≠ true) :
    State.walkBays (l ++ l') s = State.walkBays l' s := by
  induction l with
  | nil => rfl
  | cons d l ih =>
    rw [List.cons_append, State.walkBays, if_neg (h d List.mem_cons_self)]
    exact ih fun e he => h e (List.mem_cons_of_mem _ he)

theorem walkBays_none_considered (l : List Bay) (h : ∀ d ∈ l, s.considers d ≠ true) : State.walkBays l s = s := by
  have hwalk := walkBays_unconsidered l [] h
  rw [List.append_nil] at hwalk
  exact hwalk

/-! ### The first call -/

/-- The state after the first of the two calls. -/
structure State.FirstCalled (s u t : State) (v w : Visit) (x : VisitTerms) (b c : Bay) : Prop where
  holds : s.HoldsWritten u
  called : u.Called t b (s.heldBy v) x
  walk : ∃ l, s.dispatchPass = State.walkBays (c :: l) t ∧ ∀ d ∈ l, d ≠ b ∧ d ≠ c
  queue : t.queue = [{ v with call := some b, hold := .noHold }, { w with hold := .noHold }]

theorem State.TwoBays.firstCalled (hp : s.TwoBays v w x y b c) (hchosen : s.Chosen b v)
    (hheld : s.heldBy w = { w with hold := .noHold }) : ∃ u t, s.FirstCalled u t v w x b c := by
  obtain ⟨u, hu⟩ : ∃ u, u = (s.modDisp fun d => { d with mark := false }).evaluateHolds := ⟨_, rfl⟩
  have hw := holdsWritten hp.nodup hu
  have hcons : ∀ d, u.considers d = true ↔ d = b ∨ d = c := fun d => by
    rw [hw.considers]
    exact hp.considered d
  have hterms : (s.heldBy v).terms = some x := by
    rw [heldBy_eq]
    exact hp.firstTerms
  obtain ⟨l, m, r, hsplit, hl, hm, hr⟩ := allBays_split_two hp.order
  obtain ⟨t, ht⟩ : ∃ t, t = u.callVisit b (s.heldBy v) x := ⟨_, rfl⟩
  have hcall := callVisit_done u b (s.heldBy v) x
  rw [← ht] at hcall
  refine ⟨u, t, hw, hcall, ⟨r, ?_, hr⟩, ?_⟩
  · rw [dispatchPass_walk hp.mark hu, hsplit, walkBays_unconsidered l,
      walkBays_call (hw.nodup hp.nodup) _ ((hcons b).2 (.inl rfl)) (hw.settled b) (hw.chosenFor hchosen) hterms
        (hw.mayCall.2 hp.may), ← ht, walkBays_unconsidered m]
    · exact fun d hd hdc => ((hcons d).1 (hcall.considers hdc).2).elim (hm d hd).1 (hm d hd).2
    · exact fun d hd hdc => ((hcons d).1 hdc).elim (hl d hd).1 (hl d hd).2
  · rw [hcall.queue_from hw hp.first, hp.queue, List.map_cons, List.map_singleton, if_pos rfl, if_neg hp.numbers.symm, hheld]

/-! ### The committed amounts after a call (R61) -/

theorem sum_map_change {f g : Bay → Nat} {n : Nat} (hother : ∀ c, c ≠ b → f c = g c) (hb : f b = g b + n) :
    (allBays.map f).sum = (allBays.map g).sum + n := by
  obtain ⟨l, l', hsplit, hbefore, hafter⟩ := allBays_split b
  have hl : l.map f = l.map g := List.map_congr_left fun c hc => hother c fun he => Nat.lt_irrefl _ (he ▸ hbefore c hc)
  have hl' : l'.map f = l'.map g := List.map_congr_left fun c hc => hother c fun he => Nat.lt_irrefl _ (he ▸ hafter c hc)
  rw [hsplit, List.map_append, List.map_append, List.map_cons, List.map_cons, List.sum_append, List.sum_append, List.sum_cons,
    List.sum_cons, hl, hl', hb]
  omega

/-- What a call commits: the called visit's base price, to its haulier. -/
theorem State.Called.committed (hcall : u.Called t b v x) (hn : (u.queue.map (·.number)).Nodup) (hv : v ∈ u.queue)
    (hnone : v.call = none) (hidle : (u.bays.get b).state = .idle)
    (hto : (t.calledTo b).bind (·.haulier) = some x.haulier) (h : Haulier) :
    t.committed h = u.committed h + if x.haulier = h then u.active.basePrice x.programme x.cls else 0 := by
  refine sum_map_change (b := b) (fun c hc => ?_) ?_
  · obtain ⟨hhaulier, hprice⟩ := hcall.bayHaulier_other hn hv hnone hc
    rw [hhaulier, hprice]
  · have hbay : t.bays.get b = u.CalledBay b x := by rw [hcall.bays, perBay_get_self]
    have hbefore : u.bayHaulier b = none := by rw [State.bayHaulier, hidle]
    have hafter : t.bayHaulier b = some x.haulier := by
      rw [State.bayHaulier, hbay]
      exact hto
    have hprice : t.snapshotPrice b = u.active.basePrice x.programme x.cls := by
      rw [State.snapshotPrice, State.record, hbay]
      rfl
    have hno : (none : Option Haulier) ≠ some h := nofun
    rw [hbefore, hafter, hprice, if_neg hno, Nat.zero_add]
    simp only [Option.some.injEq]

/-- A visit with a call fits no bay. -/
theorem called_fits_not : t.fitsBay c { v with call := some b, hold := .noHold } = false := by
  by_contra hfits
  exact nomatch call_of_fitsBay ((Bool.not_eq_false _).mp hfits)

section
variable (hp : s.TwoBays v w x y b c) (hf : s.FirstCalled u t v w x b c)
include hp hf

theorem State.FirstCalled.nodup : (t.queue.map (·.number)).Nodup := by
  rw [hf.called.numbers]
  exact hf.holds.nodup hp.nodup

theorem State.FirstCalled.committed (h : Haulier) :
    t.committed h = s.committed h + if x.haulier = h then s.active.basePrice x.programme x.cls else 0 := by
  have hmem : s.heldBy v ∈ u.queue := by
    rw [hf.holds.queue, hp.queue]
    exact List.mem_cons_self
  have hnone : (s.heldBy v).call = none := by
    obtain ⟨hcall, _⟩ := hp.first
    rw [heldBy_eq]
    exact hcall
  have hidle : (u.bays.get b).state = .idle := idle_of_considers (by
    rw [hf.holds.considers]
    exact (hp.considered b).2 (.inl rfl))
  have hto : (t.calledTo b).bind (·.haulier) = some x.haulier := by
    have hsome : (some b == some b) = true := by simp
    rw [State.calledTo, hf.queue, List.find?_cons, hsome]
    exact haulier_of_terms hp.firstTerms
  rw [hf.called.committed (hf.holds.nodup hp.nodup) hmem hnone hidle hto, hf.holds.accounts.committed, hf.holds.accounts.active]

theorem State.FirstCalled.considers : t.considers c = true := by
  rw [hf.called.considers_other hp.bays_ne, hf.holds.considers]
  exact (hp.considered c).2 (.inr rfl)

/-- No bay but the two is considered after the first call. -/
theorem State.FirstCalled.no_more {d : Bay} (hd : d ≠ b ∧ d ≠ c) : t.considers d ≠ true := fun hcons => by
  have hcons := (hf.called.considers hcons).2
  rw [hf.holds.considers, hp.considered] at hcons
  exact hcons.elim hd.1 hd.2

theorem State.FirstCalled.second_fits : t.fitsBay c { w with hold := .noHold } = true := by
  obtain ⟨hfits, _⟩ := eligibleFor_iff.1 hp.second
  have hhauliers : t.hauliers = s.hauliers := by rw [hf.called.rest, hf.holds.rest]
  have hactive : t.active = s.active := by rw [hf.called.rest, hf.holds.rest]
  rw [fitsBay_congr hhauliers hactive]
  exact hfits

theorem State.FirstCalled.second_credit : t.visitCredit { w with hold := .noHold } = true ↔
    s.hauliers[y.haulier].limit = 0 ∨
      s.journal.balances[y.haulier] + t.committed y.haulier + s.active.basePrice y.programme y.cls ≤
        s.hauliers[y.haulier].limit := by
  have hhauliers : t.hauliers = s.hauliers := by rw [hf.called.rest, hf.holds.rest]
  have hactive : t.active = s.active := by rw [hf.called.rest, hf.holds.rest]
  have hbalances : t.journal.balances = s.journal.balances := by
    rw [hf.called.journal, hf.holds.rest]
  have hterms : ({ w with hold := .noHold } : Visit).terms = some y := hp.secondTerms
  rw [visitCredit_iff hterms, hhauliers, hactive, hbalances]

end

end Sys2Proof.Machine
end

section
/-! The second of the two visits in a dispatch pass: called, refused by the call conditions, or held for its credit
(R60 to R67), and the obligation about the pass's holds and calls. -/

namespace Sys2Proof.Machine

variable {s t u z : State} {b c : Bay} {v w : Visit} {x y : VisitTerms}

/-! ### Of two hauliers -/

section
variable (hp : s.TwoBays v w x y b c) (hf : s.FirstCalled u t v w x b c)
include hp hf

/-- The second visit's credit is not touched by a call of another haulier's visit. -/
theorem State.FirstCalled.credit_other (hne : x.haulier ≠ y.haulier) : t.visitCredit { w with hold := .noHold } = true := by
  obtain ⟨_, hcredit⟩ := eligibleFor_iff.1 hp.second
  rw [hf.second_credit hp, hf.committed hp, if_neg hne]
  exact (visitCredit_iff hp.secondTerms).1 hcredit

theorem State.FirstCalled.settled_other (hne : x.haulier ≠ y.haulier) : t.Settled c := fun q hq hfits hcredit => by
  rw [hf.queue] at hq
  obtain rfl | hq := List.mem_cons.1 hq
  · rw [called_fits_not] at hfits
    exact Bool.noConfusion hfits
  · obtain rfl := List.mem_singleton.1 hq
    rw [hf.credit_other hp hne] at hcredit
    exact Bool.noConfusion hcredit

theorem State.FirstCalled.chosenFor_other (hne : x.haulier ≠ y.haulier) : t.chosenFor c = some { w with hold := .noHold } := by
  have hstay : ¬ t.runReached { w with hold := .noHold } = true := by
    rw [runReached_iff]
    rintro ⟨h, hh, hlast, _⟩
    have hsecond : w.haulier = some h := hh
    rw [haulier_of_terms hp.secondTerms] at hsecond
    rw [hf.called.haulier] at hlast
    exact hne (Option.some.inj (hlast.trans hsecond.symm))
  rw [State.chosenFor, hf.queue, List.find?_cons, called_fits_not, Bool.false_and, List.find?_cons, hf.second_fits hp,
    hf.credit_other hp hne]
  exact if_neg hstay

/-- The pass that calls both. -/
theorem State.FirstCalled.pass_both (hne : x.haulier ≠ y.haulier) (hmay : t.MayCall) :
    t.Called s.dispatchPass c { w with hold := .noHold } y := by
  obtain ⟨l, hwalk, hl⟩ := hf.walk
  have hterms : ({ w with hold := .noHold } : Visit).terms = some y := hp.secondTerms
  obtain ⟨z, hz⟩ : ∃ z, z = t.callVisit c { w with hold := .noHold } y := ⟨_, rfl⟩
  have hcall := callVisit_done t c { w with hold := .noHold } y
  rw [← hz] at hcall
  rw [hwalk, walkBays_call (hf.nodup hp) l (hf.considers hp) (hf.settled_other hp hne) (hf.chosenFor_other hp hne) hterms hmay,
    ← hz, walkBays_none_considered l fun d hd hdc => hf.no_more hp (hl d hd) (hcall.considers hdc).2]
  exact hcall

/-- The pass that a failed call condition stops. -/
theorem State.FirstCalled.pass_stops (hne : x.haulier ≠ y.haulier) (hmay : ¬ t.MayCall) : s.dispatchPass = t := by
  obtain ⟨l, hwalk, hl⟩ := hf.walk
  rw [hwalk]
  refine walkBays_still (hf.nodup hp) _ fun d hd hdc => ?_
  obtain rfl | hd := List.mem_cons.1 hd
  · exact ⟨hf.settled_other hp hne, .inr hmay⟩
  · exact absurd hdc (hf.no_more hp (hl d hd))

/-! ### Of one haulier -/

/-- The pass that finds no credit for the second visit. -/
theorem State.FirstCalled.pass_holds (hno : t.visitCredit { w with hold := .noHold } = false) :
    s.dispatchPass = t.writeHold { w with hold := .noHold } .credit := by
  obtain ⟨l, hwalk, hl⟩ := hf.walk
  have hfirst : State.firstFitting c t.queue t = (t.writeHold { w with hold := .noHold } .credit, none) := by
    rw [hf.queue, State.firstFitting, called_fits_not, if_neg Bool.false_ne_true, State.firstFitting, hf.second_fits hp, hno,
      if_pos rfl, if_neg Bool.false_ne_true, State.firstFitting]
  have hchoose : t.choose c = (t.writeHold { w with hold := .noHold } .credit, none) := by
    rw [State.choose, hfirst]
  have hsame : ∀ d, (t.writeHold { w with hold := .noHold } .credit).considers d = t.considers d := fun d => by
    rw [writeHold_eq]
    rfl
  rw [hwalk, State.walkBays, if_pos (hf.considers hp), hchoose]
  exact walkBays_none_considered l fun d hd hdc => hf.no_more hp (hl d hd) ((hsame d).symm.trans hdc)

end

/-! ### What stands after the first call -/

section
variable (hf : s.FirstCalled u t v w x b c)
include hf

theorem State.FirstCalled.bay_first : t.bays.get b = s.CalledBay b x := by
  rw [hf.called.bays, perBay_get_self, hf.holds.calledBay]

theorem State.FirstCalled.journal : t.journal = { s.journal with
    reserved := s.journal.reserved + 1, lowArmed := t.journal.lowArmed } := by
  have huj : u.journal = s.journal := by rw [hf.holds.rest]
  exact hf.called.journal.trans (by rw [huj])

theorem State.FirstCalled.lines : t.disp.lines = s.disp.lines ++ [{ bay := b, visit := v.number }] := by
  have hul : u.disp.lines = s.disp.lines := by rw [hf.holds.rest]
  rw [hf.called.lines, hul, heldBy_number]

theorem State.FirstCalled.low (hs : s.part.phase = .running) : s.LowJudged t := hf.called.low_from hf.holds hs t.disp

end

section
variable (hp : s.TwoBays v w x y b c) (hf : s.FirstCalled u t v w x b c)
include hp hf

theorem State.FirstCalled.bay_second : t.bays.get c = s.bays.get c := by
  rw [hf.called.other_bay hp.bays_ne, hf.holds.rest]

theorem State.FirstCalled.calledBay : t.CalledBay c y = s.CalledBay c y := by
  have hbay := hf.bay_second hp
  have hsame : (t.laneTime, t.active, t.clock, t.hauliers, t.generation) = (s.laneTime, s.active, s.clock, s.hauliers, s.generation) := by
    rw [hf.called.rest, hf.holds.rest]
    rfl
  simp only [Prod.mk.injEq] at hsame
  obtain ⟨htime, hactive, hclock, hhauliers, hgeneration⟩ := hsame
  unfold State.CalledBay State.snapshot
  rw [hbay, htime, hactive, hclock, hhauliers, hgeneration]

theorem State.FirstCalled.mayCall : t.MayCall ↔
    s.disp.lines.length < 2 ∧ s.journal.reserved + 3 ≤ s.journal.available := by
  obtain ⟨_, _, hclose⟩ := hp.may
  have hpages : t.journal.pages = s.journal.pages := by rw [hf.journal]
  have hnewest : t.journal.newest = s.journal.newest := by rw [hf.journal]
  have hreserved : t.journal.reserved = s.journal.reserved + 1 := by rw [hf.journal]
  have hpending : t.journal.pendingClose = none := by
    rw [hf.journal]
    exact hclose
  have hlength : t.disp.lines.length = s.disp.lines.length + 1 := by
    rw [hf.lines, List.length_append, List.length_singleton]
  rw [State.MayCall, hlength, hreserved, hpending, available_congr hpages hnewest]
  constructor
  · rintro ⟨hlines, hroom, _⟩
    exact ⟨by omega, by omega⟩
  · rintro ⟨hlines, hroom⟩
    exact ⟨by omega, by omega, rfl⟩

end

/-! ### JOURNAL-LOW over two calls (R147) -/

/-- Two reserved slots taken one after the other, each judged: whichever first brings the margin below 64 is shown. -/
theorem lowJudged_twice {r a : Nat} (ha : s.journal.available = a)
    (ht : t.journal = { s.journal with reserved := r + 1, lowArmed := t.journal.lowArmed })
    (hz : z.journal = { t.journal with reserved := r + 2, lowArmed := z.journal.lowArmed })
    (hfirst : s.LowJudged t) (hsecond : t.LowJudged z) :
    z.journal.lowArmed = decide (r + 66 ≤ a) ∧
    (a < r + 65 → s.journal.lowArmed = true →
      z.Shows (.journalLow a (r + 1) (s.journal.countState .closed) s.journal.heldPages)) ∧
    (a = r + 65 → z.Shows (.journalLow a (r + 2) (s.journal.countState .closed) s.journal.heldPages)) ∧
    (r + 66 ≤ a ∨ a < r + 65 ∧ s.journal.lowArmed = false → s.KeepsLatch z .journalLow) := by
  have htp : t.journal.pages = s.journal.pages := by rw [ht]
  have hzp : z.journal.pages = s.journal.pages := by rw [hz, htp]
  have hta : t.journal.available = a := (available_congr htp (by rw [ht])).trans ha
  have hza : z.journal.available = a := (available_congr hzp (by rw [hz, ht])).trans ha
  have htr : t.journal.reserved = r + 1 := by rw [ht]
  have hzr : z.journal.reserved = r + 2 := by rw [hz]
  obtain ⟨harm, hshown, hquiet⟩ := hfirst
  obtain ⟨harm', hshown', hquiet'⟩ := hsecond
  rw [htr, hta] at harm hshown hquiet
  rw [hzr, hza] at harm' hshown' hquiet'
  rw [countState_congr htp, heldPages_congr htp] at hshown
  rw [countState_congr hzp, heldPages_congr hzp] at hshown'
  refine ⟨harm', fun hlow hwas => ?_, fun hmargin => ?_, fun hstill => ?_⟩
  · refine (hshown hlow hwas).keep (hquiet' (.inr ?_))
    rw [harm]
    exact decide_eq_false (Nat.not_le.2 hlow)
  · refine hshown' (by omega) ?_
    rw [harm]
    exact decide_eq_true (by omega)
  · rcases hstill with hroom | ⟨hlow, hwas⟩
    · exact (hquiet (.inl (by omega))).trans (hquiet' (.inl hroom))
    · refine (hquiet (.inr hwas)).trans (hquiet' (.inr ?_))
      rw [harm]
      exact decide_eq_false (Nat.not_le.2 hlow)

/-! ### The step with two visits -/

/-- The second visit called, or the walk stopped at its bay. -/
theorem State.TwoBays.exec_other (hp : s.TwoBays v w x y b c) (hs : s.Running) (hne : x.haulier ≠ y.haulier)
    (hway : ¬ s.GivesWay v ∨ ¬ s.EligibleFor b w) :
    ∃ t, exec .dispatchPass s = .next t ∧ t.bays.get b = s.CalledBay b x ∧
      (s.disp.lines.length < 2 → s.journal.reserved + 3 ≤ s.journal.available →
        t.queue = [{ v with call := some b, hold := .noHold }, { w with call := some c, hold := .noHold }] ∧
        t.bays.get c = s.CalledBay c y ∧ t.journal.reserved = s.journal.reserved + 2 ∧
        t.disp.lines = s.disp.lines ++ [{ bay := b, visit := v.number }, { bay := c, visit := w.number }] ∧
        t.disp.lastHaulier = some y.haulier ∧ t.disp.run = 1 ∧
        t.journal.lowArmed = decide (s.journal.reserved + 66 ≤ s.journal.available) ∧
        (s.journal.available < s.journal.reserved + 65 → s.journal.lowArmed = true →
          t.Shows (.journalLow s.journal.available (s.journal.reserved + 1) (s.journal.countState .closed)
            s.journal.heldPages)) ∧
        (s.journal.available = s.journal.reserved + 65 →
          t.Shows (.journalLow s.journal.available (s.journal.reserved + 2) (s.journal.countState .closed)
            s.journal.heldPages)) ∧
        (s.journal.reserved + 66 ≤ s.journal.available ∨
            s.journal.available < s.journal.reserved + 65 ∧ s.journal.lowArmed = false →
          s.KeepsLatch t .journalLow)) ∧
      (2 ≤ s.disp.lines.length ∨ s.journal.available < s.journal.reserved + 3 →
        t.queue = [{ v with call := some b, hold := .noHold }, { w with hold := .noHold }] ∧
        t.bays.get c = s.bays.get c ∧ t.journal.reserved = s.journal.reserved + 1 ∧
        t.disp.lines = s.disp.lines ++ [{ bay := b, visit := v.number }] ∧
        t.disp.lastHaulier = some x.haulier ∧ s.LowJudged t) := by
  obtain ⟨u, t, hf⟩ := hp.firstCalled (hp.chosen (hway.imp_right fun h hel => absurd hel h)) (heldBy_of_eligible hp.second)
  by_cases hmay : t.MayCall
  · obtain ⟨z, hz⟩ : ∃ z, s.dispatchPass = z := ⟨_, rfl⟩
    have hcall := hf.pass_both hp hne hmay
    rw [hz] at hcall
    obtain ⟨d, hexec, hd⟩ := event_settled (exec_dispatchPass s) hs hz
    have hlines : d.lines = z.disp.lines := by rw [hd]
    have hlast : d.lastHaulier = z.disp.lastHaulier := by rw [hd]
    have hrun : d.run = z.disp.run := by rw [hd]
    obtain ⟨hroom, hspace⟩ := (hf.mayCall hp).1 hmay
    have htr : t.journal.reserved = s.journal.reserved + 1 := by rw [hf.journal]
    have hzj : z.journal = { t.journal with reserved := s.journal.reserved + 2, lowArmed := z.journal.lowArmed } := by
      have hj := hcall.journal
      rw [htr] at hj
      exact hj
    obtain ⟨harm, hshown, hedge, hquiet⟩ := lowJudged_twice rfl hf.journal hzj (hf.low hs.1)
      (hcall.low (by rw [hf.called.rest, hf.holds.rest]; exact hs.1))
    refine ⟨_, hexec, ?_, fun _ _ => ⟨?_, ?_, ?_, ?_, ?_, ?_, harm, hshown, hedge, hquiet⟩, fun h => by omega⟩
    · exact (hcall.other_bay hp.bays_ne.symm).trans hf.bay_first
    · refine hcall.queue.trans ?_
      rw [hf.queue, List.map_cons, List.map_singleton, if_neg hp.numbers, if_pos rfl]
    · refine (congrArg (PerBay.get · c) hcall.bays).trans ?_
      rw [perBay_get_self, hf.calledBay hp]
    · exact (congrArg Journal.reserved hzj :)
    · refine hlines.trans (hcall.lines.trans ?_)
      rw [hf.lines, List.append_assoc]
      rfl
    · exact hlast.trans hcall.haulier
    · refine hrun.trans (hcall.fair.trans (if_neg ?_))
      rw [hf.called.haulier]
      exact fun h => hne (Option.some.inj h)
  · obtain ⟨d, hexec, hd⟩ := event_settled (exec_dispatchPass s) hs (hf.pass_stops hp hne hmay)
    have hlines : d.lines = t.disp.lines := by rw [hd]
    have hlast : d.lastHaulier = t.disp.lastHaulier := by rw [hd]
    have hsecond := hf.bay_second hp
    refine ⟨_, hexec, hf.bay_first, fun hroom hspace => absurd ((hf.mayCall hp).2 ⟨hroom, hspace⟩) hmay,
      fun _ => ⟨hf.queue, hsecond, ?_, hlines.trans hf.lines, hlast.trans hf.called.haulier,
        hf.called.low_from hf.holds hs.1 d⟩⟩
    exact (congrArg Journal.reserved hf.journal :)

/-- The second visit held for its credit. -/
theorem State.TwoBays.exec_same (hp : s.TwoBays v w x y b c) (hs : s.Running) (heq : x.haulier = y.haulier)
    (hlimit : s.hauliers[x.haulier].limit ≠ 0)
    (hover : s.hauliers[x.haulier].limit < s.journal.balances[x.haulier] + s.committed x.haulier +
      s.active.basePrice x.programme x.cls + s.active.basePrice y.programme y.cls) :
    ∃ t, exec .dispatchPass s = .next t ∧
      t.queue = [{ v with call := some b, hold := .noHold }, { w with hold := .credit }] ∧
      t.bays.get b = s.CalledBay b x ∧ t.bays.get c = s.bays.get c ∧
      t.journal.reserved = s.journal.reserved + 1 ∧
      t.disp.lines = s.disp.lines ++ [{ bay := b, visit := v.number }] ∧ s.LowJudged t ∧
      ∀ p, ∃ z, (t.links.get p).latched .visitHeld = some z ∧ z.event = .visitHeld w.number w.ident .credit := by
  have hhaulier : w.haulier = v.haulier := by
    rw [haulier_of_terms hp.firstTerms, haulier_of_terms hp.secondTerms, heq]
  obtain ⟨u, t, hf⟩ := hp.firstCalled (hp.chosen (.inr fun _ => hhaulier)) (heldBy_of_eligible hp.second)
  have hno : t.visitCredit { w with hold := .noHold } = false := by
    simp only [heq] at hlimit hover
    rw [← Bool.not_eq_true, hf.second_credit hp, hf.committed hp, if_pos heq]
    rintro (hzero | hfits)
    · exact hlimit hzero
    · omega
  obtain ⟨z, hz⟩ : ∃ z, z = t.writeHold { w with hold := .noHold } .credit := ⟨_, rfl⟩
  have hzq := writeHold_queue t { w with hold := .noHold } .credit
  have hzr := writeHold_eq t { w with hold := .noHold } .credit
  have hzk := writeHold_keepsLatch (k := .journalLow) t { w with hold := .noHold } .credit nofun
  have hheld : (t.writeHold { w with hold := .noHold } .credit).Shows (.visitHeld w.number w.ident .credit) := by
    have hbecame : ({ w with hold := .noHold } : Visit).becameHeld { w with hold := .credit } = true :=
      (becameHeld_iff _ _).2 (.inr ⟨rfl, nofun⟩)
    have hlatch : t.writeHold { w with hold := .noHold } .credit =
        (t.putVisit { w with hold := .credit }).latch (.visitHeld w.number w.ident .credit) := if_pos hbecame
    rw [hlatch]
    exact shows_latch _ _
  rw [← hz] at hzq hzr hzk hheld
  obtain ⟨d, hexec, hd⟩ := event_settled (exec_dispatchPass s) hs ((hf.pass_holds hp hno).trans hz.symm)
  have hbays : z.bays = t.bays := by rw [hzr]
  have hjournal : z.journal = t.journal := by rw [hzr]
  have hlines : d.lines = t.disp.lines := by rw [hd, hzr]
  refine ⟨_, hexec, ?_, ?_, ?_, ?_, hlines.trans hf.lines, ?_, hheld⟩
  · refine hzq.trans ?_
    rw [hf.queue, List.map_cons, List.map_singleton, if_neg hp.numbers, if_pos rfl]
  · exact (congrArg (PerBay.get · b) hbays).trans hf.bay_first
  · exact (congrArg (PerBay.get · c) hbays).trans (hf.bay_second hp)
  · exact (congrArg Journal.reserved (hjournal.trans hf.journal) :)
  · exact (hf.low hs.1).congr rfl (.refl s _) hjournal hzk

/-! ### The obligation -/

/-- Settles O29: the holds are written in one sweep over the queue; after it the walk calls for the one bay with an
eligible visit, or for the two in ascending order, the second judged by the state the first call has left. -/
theorem dispatchPassHoldsAndCalls : Obligations.DispatchPassHoldsAndCalls := by
  refine ⟨fun s hs hmark => exec_dispatchPass_idle hs hmark, fun s held hs hmark hn hheld => ?_,
    fun s v w x y b c hs hmark hqueue hnumbers horder hconsidered hx hy hv hw hmay => ?_⟩
  · have hsame : held = s.heldBy := by
      refine heldBy_spelled ?_
      rw [hheld]
      funext v
      cases hx : v.terms <;> simp [State.accountHold, State.creditOk, hx]
    subst hsame
    refine ⟨fun hnobody => ?_, fun b v x hcons hv hx hmay hothers =>
      exec_dispatchPass_call hs hmark hn hcons hv hx hmay hothers⟩
    obtain ⟨t, hexec, hw⟩ := exec_dispatchPass_still hs hmark hn hnobody
    exact ⟨t, hexec, hw.queue, hw.rest⟩
  · have hp : s.TwoBays v w x y b c := ⟨hmark, hqueue, hnumbers, horder, hconsidered, hx, hy, hv, hw, hmay⟩
    exact ⟨fun hne hway => hp.exec_other hs hne hway, fun heq hlimit hover => hp.exec_same hs heq hlimit hover⟩

end Sys2Proof.Machine
end
